-- ==== Sys2Proof/Word.lean ====
section
/-! DEFINITION. The widths, the numbers of the part's objects, and fixed-length tables.

Numbers of ports, contexts, locks, channels and segments are `Fin`s (spec/00_scope.md, "Naming of ports,
contexts and objects"); register contents are bit vectors. -/

namespace Sys2Proof

/-- A window or memory word: 32 bits (spec/00_scope.md, "Numbers"). -/
abbrev Word := BitVec 32

/-- A word address of the 128-word window (R155). -/
abbrev WindowAddr := BitVec 7

/-- A key: 12 bits (R107). -/
abbrev Key := BitVec 12

/-- Host port P0 to P3. -/
abbrev Port := Fin 4

/-- A context number, 4 × port + context (R1). -/
abbrev CtxNum := Fin 16

/-- Lock L0 to L63 (R25). -/
abbrev LockNum := Fin 64

/-- Channel C0 to C15 (R63). -/
abbrev ChanNum := Fin 16

/-- Segment S0 to S63 (R87). -/
abbrev SegNum := Fin 64

/-- The port of a context number (R1). -/
def portOf (cx : CtxNum) : Port := ⟨cx.val / 4, by omega⟩

/-- The context, 0 to 3, of a context number within its port (R1). -/
def slotOf (cx : CtxNum) : Fin 4 := ⟨cx.val % 4, by omega⟩

/-- The context number of context `c` of port `p` (R1). -/
def ctxOf (p : Port) (c : Fin 4) : CtxNum := ⟨4 * p.val + c.val, by omega⟩

/-- The four service units (spec/00_scope.md, "The four units"). -/
inductive UnitId where
  | mu | lu | cu | su
deriving DecidableEq, Repr

/-- One value for each unit. -/
structure PerUnit (α : Type) where
  mu : α
  lu : α
  cu : α
  su : α
deriving DecidableEq, Repr

/-- The value held for unit `u`. -/
def PerUnit.get {α : Type} (t : PerUnit α) : UnitId → α
  | .mu => t.mu
  | .lu => t.lu
  | .cu => t.cu
  | .su => t.su

/-- The values with that of unit `u` replaced. -/
def PerUnit.set {α : Type} (t : PerUnit α) (u : UnitId) (x : α) : PerUnit α :=
  match u with
  | .mu => { t with mu := x }
  | .lu => { t with lu := x }
  | .cu => { t with cu := x }
  | .su => { t with su := x }

/-- The same value for each unit. -/
def PerUnit.all {α : Type} (x : α) : PerUnit α := ⟨x, x, x, x⟩

/-- A fixed number of like records, read and replaced by their number. -/
abbrev Table (α : Type) (n : Nat) := Vector α n

/-- A table whose entries are all `x`. -/
def Table.all {α : Type} (n : Nat) (x : α) : Table α n := Vector.replicate n x

/-- Entry `i`. -/
def Table.at {α : Type} {n : Nat} (t : Table α n) (i : Fin n) : α := Vector.get t i

/-- The table with entry `i` replaced. -/
def Table.put {α : Type} {n : Nat} (t : Table α n) (i : Fin n) (x : α) : Table α n :=
  Vector.set t i.val x i.isLt

/-- The table with each entry replaced by a function of its number and itself. -/
def Table.mapEach {α β : Type} {n : Nat} (t : Table α n) (f : Fin n → α → β) : Table β n :=
  Vector.ofFn fun i => f i (t.at i)

end Sys2Proof
end

