-- ==== Sys2Proof/Syntax.lean ====
section
/-! DEFINITION. The commands: one constructor of `Instr` for each row of spec/opcode_table.json.

A row gives no operands of its own ("fields": []); each constructor carries what the row's rules need to say
which context, port, register or object the step is about. -/

namespace Sys2Proof

/-- Which part of a read word a command stands for (R156, R59): the step of the word's first bit, at which the value is
latched, the step of its last bit, at which the word is complete and its side effect is made, or both, one right after
the other. -/
inductive ReadPart where
  | firstBit
  | lastBit
  | whole
deriving DecidableEq, Repr

/-- Which word is read: the DATA register of a context, or any address of a port's window (R155, R156). -/
inductive ReadPlace where
  | data (cx : CtxNum)
  | register (p : Port) (a : WindowAddr)
deriving DecidableEq, Repr

/-- What a HEADER_BYTE command stands for: chip select falls and the header byte period begins, or the header byte has
been taken (R155, R168). -/
inductive HeaderPart where
  | chipSelect
  | byte (b : BitVec 8)
deriving DecidableEq, Repr

/-- What a FORCE RELEASE command of a context stands for: the whole step of LU, with no event between the take of the
request and the read of the epoch counter, or the beginning or the end of that step, events of the other blocks coming
between (R124). -/
inductive ForcedStep where
  | whole (cx : CtxNum)
  | starts (cx : CtxNum)
  | ends (cx : CtxNum)
deriving DecidableEq, Repr

/-- Where a written word is aimed: at the current address of the frame in progress (R155, R158), or at an
address the command names. -/
inductive WordPlace where
  | current
  | address (a : WindowAddr)
deriving DecidableEq, Repr

/-- The two steps of a withdrawal notice at a unit (R17): it arrives, and later the unit takes it. -/
inductive NoticeStep where
  | arrive
  | take
deriving DecidableEq, Repr

/-- The three items that INSPECT PORT reads, each held by another block (R127). -/
inductive InspectItem where
  | portState
  | contextStates
  | locksHeld
deriving DecidableEq, Repr

/-- What an INSPECT PORT command stands for: the whole step of SU, with no event between the reads of its items, or the
read of one item within that step, events of the other blocks coming before and after it (R127). -/
inductive InspectPart where
  | whole
  | item (i : InspectItem)
deriving DecidableEq, Repr

/-- Levels of the strap pins, `true` for high (R115). -/
structure Straps where
  msel1 : Bool
  msel0 : Bool
deriving DecidableEq, Repr

/-- The commands. -/
inductive Instr where
  /-- GO strobe of a context (R7). -/
  | go (cx : CtxNum)
  /-- ACK strobe of a context (R8). -/
  | ack (cx : CtxNum)
  /-- ABORT strobe of a context (R9). -/
  | abort (cx : CtxNum)
  /-- ATTACH at PORT CONTROL (R134). -/
  | attach (p : Port)
  /-- DETACH at PORT CONTROL (R136). -/
  | detach (p : Port)
  /-- PORT RESET at PORT CONTROL (R142). -/
  | portReset (p : Port)
  /-- The PI takes an eviction order (R126). -/
  | evictionOrder (p : Port)
  /-- The PI takes a unit's acknowledgement of its withdrawal (R139). -/
  | withdrawalAck (p : Port) (u : UnitId)
  /-- A read word at a context's DATA register, or at another register of the window (R156). -/
  | dataRead (place : ReadPlace) (part : ReadPart)
  /-- A write word at a context's DATA register (R4). -/
  | dataWrite (cx : CtxNum) (w : Word)
  /-- A read word at LOG (R59). -/
  | logRead (p : Port) (part : ReadPart)
  /-- A write of 1 to OVERFLOW in LOG STATUS (R60). -/
  | overflowClear (p : Port)
  /-- A write of 1 to LEASE_LOST (R61). -/
  | leaseLostClear (p : Port)
  /-- A write of 1 to WINDOW_ERROR (R149). -/
  | windowErrorClear (p : Port)
  /-- A write word at EVENT FLAGS 1; bit n at 1 names the DATA flag of channel n (R147). -/
  | dataFlagClear (p : Port) (mask : BitVec 16)
  /-- A write word at EVENT FLAGS 2; bit n at 1 names the SPACE flag of channel n (R147). -/
  | spaceFlagClear (p : Port) (mask : BitVec 16)
  /-- A write word at EVENT ENABLES k (R150). -/
  | eventEnablesWrite (p : Port) (k : Fin 3) (w : Word)
  /-- A write word at INT CONFIG (R151). -/
  | intConfigWrite (p : Port) (w : Word)
  /-- A write word at any window address (R157, R160). -/
  | registerWrite (p : Port) (place : WordPlace) (w : Word)
  /-- Chip select rises after `bits` bits of the next word of the frame (R159). -/
  | frameShort (p : Port) (bits : Fin 32)
  /-- MU takes a READ (R89). -/
  | read (cx : CtxNum)
  /-- MU takes a WRITE (R89). -/
  | write (cx : CtxNum)
  /-- MU takes a READ GROUP (R90). -/
  | readGroup (cx : CtxNum)
  /-- MU takes a WRITE GROUP (R91). -/
  | writeGroup (cx : CtxNum)
  /-- MU takes a TALLY (R92). -/
  | tally (cx : CtxNum)
  /-- MU takes a SET IF ZERO (R93). -/
  | setIfZero (cx : CtxNum)
  /-- MU takes a ZERO FILL (R95). -/
  | zeroFill (cx : CtxNum)
  /-- The MU arbiter grants a running fill (R96). -/
  | fillBurst (cx : CtxNum)
  /-- MU takes a DEFINE SEGMENT (R100). -/
  | defineSegment (cx : CtxNum)
  /-- MU takes a CLEAR SEGMENT (R101). -/
  | clearSegment (cx : CtxNum)
  /-- MU takes an INSPECT SEGMENT (R102). -/
  | inspectSegment (cx : CtxNum)
  /-- LU takes an ACQUIRE (R34). -/
  | acquire (cx : CtxNum)
  /-- LU takes a RELEASE (R36). -/
  | release (cx : CtxNum)
  /-- LU takes a RENEW (R39). -/
  | renew (cx : CtxNum)
  /-- LU takes an INSPECT LOCK (R40). -/
  | inspectLock (cx : CtxNum)
  /-- LU takes a SET LOCK (R41). -/
  | setLock (cx : CtxNum)
  /-- LU takes a FORCE RELEASE, whole or in the two parts of its step (R42, R124). -/
  | forceRelease (part : ForcedStep)
  /-- CU takes a SEND (R68). -/
  | send (cx : CtxNum)
  /-- CU takes a RECEIVE (R72). -/
  | receive (cx : CtxNum)
  /-- CU takes an INSPECT CHANNEL (R79). -/
  | inspectChannel (cx : CtxNum)
  /-- CU takes a BIND CHANNEL (R80). -/
  | bindChannel (cx : CtxNum)
  /-- CU takes an UNBIND CHANNEL (R81). -/
  | unbindChannel (cx : CtxNum)
  /-- SU takes a SET PORT KEYS (R108). -/
  | setPortKeys (cx : CtxNum)
  /-- SU takes a SET TICK (R122). -/
  | setTick (cx : CtxNum)
  /-- SU takes an EVICT PORT (R125). -/
  | evictPort (cx : CtxNum)
  /-- SU takes an INSPECT PORT, whole or item by item (R127). -/
  | inspectPort (cx : CtxNum) (part : InspectPart)
  /-- SU takes a CHIP RESET, the straps then having the given levels (R129, R115). -/
  | chipReset (cx : CtxNum) (straps : Straps)
  /-- RESETn goes low (R130). -/
  | resetAssert
  /-- RESETn is released, the straps then having the given levels (R130, R115). -/
  | resetRelease (straps : Straps)
  /-- MU clears the last word in INIT and reports the end (R106). -/
  | memoryClearDone
  /-- SU takes the report of the end of the clear (R131). -/
  | chipReady
  /-- A tick period ends at SU (R120). -/
  | periodEnd
  /-- LU takes a delivered tick event (R46). -/
  | luTick
  /-- Within a tick step of LU, the count of a lock waiter reaches 0 (R47). -/
  | lockWaitTimeout (cx : CtxNum)
  /-- Within a tick step of LU, a lease reaches 0 (R48). -/
  | leaseExpiry (l : LockNum)
  /-- CU takes a delivered tick event (R76). -/
  | cuTick
  /-- Within a tick step of CU, the count of a channel waiter reaches 0 (R76). -/
  | channelWaitTimeout (cx : CtxNum)
  /-- The owning unit takes an abort notice for a PENDING request (R16). -/
  | abortNoticePending (cx : CtxNum)
  /-- LU takes an abort notice for a lock waiter (R43). -/
  | lockWaitAbort (cx : CtxNum)
  /-- CU takes an abort notice for a channel waiter (R78). -/
  | channelWaitAbort (cx : CtxNum)
  /-- MU takes an abort notice for a running fill (R103). -/
  | fillAbort (cx : CtxNum)
  /-- A withdrawal notice at MU (R104). -/
  | muWithdrawalNotice (p : Port) (stage : NoticeStep)
  /-- A withdrawal notice at LU (R44). -/
  | luWithdrawalNotice (p : Port) (stage : NoticeStep)
  /-- A withdrawal notice at CU (R84). -/
  | cuWithdrawalNotice (p : Port) (stage : NoticeStep)
  /-- A withdrawal notice at SU (R128). -/
  | suWithdrawalNotice (p : Port) (stage : NoticeStep)
  /-- The PI takes the next revocation record from LU (R58). -/
  | revocationRecordArrival (p : Port)
  /-- The PI takes CU's next message about a channel, a setting (R75). -/
  | flagSettingArrival (p : Port) (n : ChanNum)
  /-- The PI takes CU's next message about a channel, a clearing (R82). -/
  | flagClearingArrival (p : Port) (n : ChanNum)
  /-- Chip select falls, or the header byte is taken (R155). -/
  | headerByte (p : Port) (part : HeaderPart)
deriving DecidableEq, Repr

end Sys2Proof
end

