-- ==== Sys2Proof/Config.lean ====
section
/-! DEFINITION. What the part fixes: sizes, bounds and identification; and the one free value: what a port's data
output shows where the spec does not say. -/

namespace Sys2Proof.Config

/-- Words of coordination memory (R86). -/
def memoryWords : Nat := 16384

/-- Words that one fill burst clears at most (R96). -/
def burstWords : Nat := 64

/-- Longest segment, longest fill and longest length of DEFINE SEGMENT (R22, R87). -/
def maxSegment : Nat := 4096

/-- Words of a data buffer, and the most that a group command or a message carries (R1, R2). -/
def bufferWords : Nat := 16

/-- Records a revocation log holds at most (R57). -/
def logRecords : Nat := 8

/-- A standing notice is taken before the arbiter has made this many further grants (R10, R17). -/
def noticeGrants : Nat := 16

/-- Slots of a channel (R64). -/
def channelSlots : Nat := 2

/-- What IDENT reads (R161). -/
def ident : Word := 0x07140C21#32

/-- What a port's data output shows (R168): high impedance, one level, or the bits of a word, the most significant first
(R155). -/
inductive DataOutput where
  | highImpedance
  | level (high : Bool)
  | sending (w : Word)
deriving DecidableEq, Repr, Inhabited

/-- FREE VALUE: the data output of a port while chip select is still low for the rest of a frame that a chip reset has
cut; R130 and R168 do not say (DESIGN CHOICE, log 8, safe but for a claim that two such moments show the same). -/
opaque outputOfCutFrame : Port → DataOutput

end Sys2Proof.Config
end

