-- ==== Sys2Proof/Machine/State.lean ====
section
/-! DEFINITION. The state of the part: everything the spec gives it, as plain data, and its value after a chip
reset. Presence that the spec ties to a state ("present only while …") is an `Option` or sits inside the state's
constructor, so that it cannot be there when it should not be. -/

namespace Sys2Proof.Machine

/-! ## Request contexts (R1 to R5) -/

/-- Mode of a command that may wait (R2). -/
inductive Mode where
  | nowait | wait
deriving DecidableEq, Repr

/-- Priority of a lock waiter (R2, R26). -/
inductive Priority where
  | normal | urgent
deriving DecidableEq, Repr

/-- Key selector (R110); `unused` is the fourth encoding. -/
inductive Selector where
  | primary | alternate | override | unused
deriving DecidableEq, Repr

/-- The command record, field by field as the window registers hold it (R2, R163). -/
structure CommandRecord where
  code      : BitVec 8
  mode      : Mode
  priority  : Priority
  selector  : Selector
  object    : BitVec 8
  offset    : BitVec 12
  operand   : Word
  timeout   : BitVec 16
  count     : BitVec 13
deriving DecidableEq, Repr

/-- The completion codes (R20). -/
inductive CompletionCode where
  | ok | busy | full | empty | timeout | aborted | cancelled | missing | protected_ | privilege
  | notHolder | late | self | wrongPort | inUse | range | badCommand | segmentChanged
deriving DecidableEq, Repr

/-- The result record; code `none` is "no result" (R3). -/
structure ResultRecord where
  code         : Option CompletionCode
  value        : Word
  aux          : BitVec 16
  abortLate    : Bool
  priorRevoked : Bool
  saturated    : Bool
deriving DecidableEq, Repr

/-- Why a running fill stops at its next burst boundary (R96). -/
inductive StopReason where
  | segmentChanged | aborted | cancelled
deriving DecidableEq, Repr

/-- The fill record of an ACTIVE context; its context number is the context that holds it (R96). -/
structure Fill where
  segment : SegNum
  start   : Nat
  count   : Nat
  zeroed  : Nat
  stop    : Option StopReason
deriving DecidableEq, Repr

/-- State of a context with its owning unit (R5). ACTIVE is owned by MU and carries its fill record (R96). -/
inductive CtxState where
  | idle
  | pending (owner : UnitId)
  | active (fill : Fill)
  | waiting (owner : UnitId)
  | done
deriving DecidableEq, Repr

/-- The abort notice that stands at the owning unit while the abort marker is set (R9, R10). `grants` and `taken`
are the model's own: grants of the owning unit's arbiter since the notice arrived, and whether the unit has taken
it, as MU does for a fill that then runs on to its burst boundary (R97). -/
structure AbortNotice where
  grants : Nat
  taken  : Bool
deriving DecidableEq, Repr

/-- A request context (R1). The abort marker is set exactly when a notice is present. -/
structure Context where
  state     : CtxState
  abort     : Option AbortNotice
  goRefused : Bool
  command   : CommandRecord
  result    : ResultRecord
  buffer    : Table Word 16
  index     : Fin 16
deriving DecidableEq, Repr

/-! ## Port interfaces (R132, R144, R150, R151, R155, R57) -/

/-- The port state; the acknowledgement set and the clear-at-completion mark exist only while WITHDRAWING (R132). -/
inductive PortState where
  | offline
  | online
  | withdrawing (acks : PerUnit Bool) (clearAtCompletion : Bool)
deriving DecidableEq, Repr

/-- Direction of a frame (R155). -/
inductive Direction where
  | read | write
deriving DecidableEq, Repr

/-- The frame of a port (R155, R158): none in progress, one in its header byte period, one in progress at a current
word address, or one cut by a chip reset, whose rest is ignored (R130). -/
inductive Frame where
  | none
  | header
  | inFrame (dir : Direction) (addr : WindowAddr)
  | cut
deriving DecidableEq, Repr

/-- Which register the read word in progress shows, and so which side effect waits for its last bit (R156, R59).
`log pops` removes the oldest record if the word carries one that is still in the log; `register` is a register whose
read has no side effect. -/
inductive LatchedSource where
  | log (pops : Bool)
  | data (cx : CtxNum)
  | register (a : WindowAddr)
deriving DecidableEq, Repr

/-- The value latched at the first bit of a read word (R156). -/
structure ReadLatch where
  source : LatchedSource
  value  : Word
deriving DecidableEq, Repr

/-- Causes of a window error; `none` is the cleared register (R148, R149). -/
inductive ErrorCause where
  | none | contextBusy | portNotOnline | contextLocked | frameShort | attachRefused
deriving DecidableEq, Repr

/-- Polarity of INTn (R151). -/
inductive Polarity where
  | activeLow | activeHigh
deriving DecidableEq, Repr

/-- Cause of a revocation (R50). -/
inductive RevocationCause where
  | expired | forced | withdrawn
deriving DecidableEq, Repr

/-- A revocation record (R57). -/
structure RevocationRecord where
  lock       : LockNum
  generation : BitVec 8
  cause      : RevocationCause
  epoch      : BitVec 16
deriving DecidableEq, Repr

/-- A port interface. The DONE flags are a view of the context states (R145) and INTn is a view of the flags (R152);
neither is stored. `sent`, the read word last sent whole, is the model's own (DESIGN CHOICE, log 8,
safe); the level that the data output holds between two words is read from it. -/
structure PortInterface where
  state        : PortState
  leaseLost    : Bool
  windowError  : Bool
  dataFlags    : BitVec 16
  spaceFlags   : BitVec 16
  enables0     : BitVec 6
  enables1     : BitVec 16
  enables2     : BitVec 16
  masterEnable : Bool
  polarity     : Polarity
  errorCause   : ErrorCause
  errorAddr    : WindowAddr
  log          : List RevocationRecord
  overflow     : Bool
  frame        : Frame
  latch        : Option ReadLatch
  sent         : Option Word
deriving DecidableEq, Repr

/-! ## Messages in transit between blocks (R130) -/

/-- A withdrawal notice of a port at one unit: none, on its way, or standing there with the grants that the unit's
arbiter has made since it arrived (R17, R138). -/
inductive NoticeState where
  | none
  | inTransit
  | standing (grants : Nat)
deriving DecidableEq, Repr

/-- What LU sends to a PI, in order (R54). -/
inductive LuMessage where
  | record (r : RevocationRecord)
  | acknowledge
deriving DecidableEq, Repr

/-- Which of a channel's two flags (R144). -/
inductive FlagKind where
  | data | space
deriving DecidableEq, Repr

/-- A setting or a clearing of one channel's flag, sent by CU to a PI (R75, R82). -/
structure CuMessage where
  channel : ChanNum
  kind    : FlagKind
  set     : Bool
deriving DecidableEq, Repr

/-- What is in transit to and from one port (DEDUCED from R17, R54, R75, R130 and R139, log 6, safe). -/
structure Links where
  notices    : PerUnit NoticeState
  /-- MU has taken the notice and acknowledges when the port's last fill ends (R104). -/
  muOwesAck  : Bool
  muAck      : Bool
  cuAck      : Bool
  suAck      : Bool
  fromLu     : List LuMessage
  fromCu     : List CuMessage
  evictions  : Nat
deriving DecidableEq, Repr

/-! ## Lock unit (R25, R26, R46) -/

/-- A waiter entry; `ticks` 0 means no limit (R26). -/
structure Waiter where
  ctx      : CtxNum
  priority : Priority
  ticks    : BitVec 16
deriving DecidableEq, Repr

/-- A lock record; the lock is HELD exactly when it has a holder (R25). -/
structure Lock where
  key        : Key
  period     : BitVec 16
  holder     : Option CtxNum
  generation : BitVec 8
  lease      : BitVec 16
  revoked    : Bool
  queue      : List Waiter
deriving DecidableEq, Repr

/-- How far LU has got in the step of a tick event: the model's own, for the commands that name a part of the step
(R46 to R48). `waits` is within the first part; `leases k` is the second part with locks below `k` visited. -/
inductive TickPoint where
  | start
  | waits
  | leases (next : Nat)
deriving DecidableEq, Repr

/-- A tick event delivered to LU, with the epoch it carries (R120, R121). -/
structure LuTick where
  epoch : BitVec 16
  point : TickPoint
deriving DecidableEq, Repr

/-! ## Channel unit (R63 to R65) -/

/-- A message in a FULL slot; its length is that of `words` (R64). -/
structure Message where
  words  : List Word
  sender : CtxNum
  seq    : BitVec 16
deriving DecidableEq, Repr

/-- An entry of a sender or receiver wait queue (R65). -/
structure WaitEntry where
  ctx   : CtxNum
  ticks : BitVec 16
deriving DecidableEq, Repr

/-- What BIND CHANNEL writes; bit p of `senders` is port p (R63, R80). -/
structure Binding where
  senders  : BitVec 4
  receiver : Port
  key      : Key
deriving DecidableEq, Repr

/-- A channel record. `slots` lists the FULL slots oldest first: which of the two slots stores a message is not
visible (R64). An unbound channel has no binding, and its key reads 000h (R63). -/
structure Channel where
  binding   : Option Binding
  counter   : BitVec 16
  slots     : List Message
  senders   : List WaitEntry
  receivers : List WaitEntry
deriving DecidableEq, Repr

/-! ## Memory unit (R86, R87) -/

/-- Rights of a segment (R87). -/
structure Rights where
  read   : Bool
  write  : Bool
  atomic : Bool
deriving DecidableEq, Repr

/-- A valid segment entry; an invalid one is `none` in the table (R87). -/
structure Segment where
  base   : BitVec 14
  length : BitVec 13
  key    : Key
  rights : Rights
deriving DecidableEq, Repr

/-- The coordination memory: (word address, word) pairs, addresses strictly rising, no word 0 (R86). -/
abbrev Memory := List (Nat × Word)

/-! ## System unit (R107, R119) -/

/-- Chip phase (R119). -/
inductive ChipPhase where
  | init | ready
deriving DecidableEq, Repr

/-- Period codes: 0 for 0.25 ms, 1 for 1 ms, 2 for 4 ms, 3 for 16 ms (R162). -/
abbrev PeriodCode := BitVec 2

/-- A port's pair of keys (R107). -/
structure KeyPair where
  primary   : Key
  alternate : Key
deriving DecidableEq, Repr

/-- The step of an INSPECT PORT that SU has begun and not ended, with the items it has read so far: the requesting
context, the port inspected, and the values as they go into the result (R127). The model's own. -/
structure Inspection where
  ctx       : CtxNum
  port      : Port
  portState : Option (BitVec 2)
  contexts  : Option (Table (BitVec 3) 4)
  locks     : Option Nat
deriving DecidableEq, Repr

/-! ## The whole part -/

/-- The state of the part and the queue of commands that are waiting. -/
structure State where
  contexts    : Table Context 16
  ports       : Table PortInterface 4
  links       : Table Links 4
  arbiters    : PerUnit CtxNum
  locks       : Table Lock 64
  luTicks     : List LuTick
  /-- LU is within the step of a FORCE RELEASE of this context: the model's own (R15, R124). -/
  forcing     : Option CtxNum
  channels    : Table Channel 16
  cuTicks     : Nat
  /-- CU is within the step of its oldest tick event: the model's own (R76). -/
  cuTickOpen  : Bool
  memory      : Memory
  segments    : Table (Option Segment) 64
  /-- MU is clearing the memory (R106). -/
  clearing    : Bool
  /-- The tick generator is RUNNING exactly when a period is under way; the code is the one it was started with
  (R119, R120). The time elapsed within it is not modelled
  (DESIGN CHOICE, log 4, safe). -/
  period      : Option PeriodCode
  periodCode  : PeriodCode
  epoch       : BitVec 16
  phase       : ChipPhase
  /-- MU's report of the end of the clear stands at SU (R106, R131). -/
  clearReport : Bool
  managerPort : Port
  keys        : Table KeyPair 4
  /-- SU is within the step of an INSPECT PORT (R127). -/
  inspection  : Option Inspection
  /-- RESETn is held low (R130). -/
  resetHeld   : Bool
  straps      : Straps
  pending     : List Instr
deriving DecidableEq, Repr

/-- Reasons for the machine to stop. -/
inductive Fault where
  /-- Raised by the data commands and by FILL_BURST for a word address outside 0 to 3FFFh, which no segment entry
  that satisfies R87 can name. Safe: the part has no such word. -/
  | noSuchWord
deriving DecidableEq, Repr

/-- Reasons to give a command no meaning. -/
inductive Refusal where
  /-- Raised by `exec` for a command that has no meaning yet; no arm raises it. Safe. -/
  | notModelled (mnemonic : String)
deriving DecidableEq, Repr

/-! ## Reset values -/

/-- The cleared command record (R23). -/
def CommandRecord.zero : CommandRecord :=
  { code := 0, mode := .nowait, priority := .normal, selector := .primary, object := 0, offset := 0, operand := 0,
    timeout := 0, count := 0 }

/-- The cleared result record (R3). -/
def ResultRecord.cleared : ResultRecord :=
  { code := none, value := 0, aux := 0, abortLate := false, priorRevoked := false, saturated := false }

/-- A context after a chip reset or a port reset (R23, R24). -/
def Context.reset : Context :=
  { state := .idle, abort := none, goRefused := false, command := .zero, result := .cleared,
    buffer := Table.all 16 0, index := 0 }

/-- A port interface after a chip reset, with no frame in progress (R62, R132, R143, R153). -/
def PortInterface.reset : PortInterface :=
  { state := .offline, leaseLost := false, windowError := false, dataFlags := 0, spaceFlags := 0, enables0 := 0,
    enables1 := 0, enables2 := 0, masterEnable := false, polarity := .activeLow, errorCause := .none, errorAddr := 0,
    log := [], overflow := false, frame := .none, latch := none, sent := none }

/-- Nothing in transit (R130). -/
def Links.quiet : Links :=
  { notices := .all .none, muOwesAck := false, muAck := false, cuAck := false, suAck := false, fromLu := [],
    fromCu := [], evictions := 0 }

/-- A lock record after a chip reset (R31). -/
def Lock.reset : Lock :=
  { key := 0, period := 0, holder := none, generation := 0, lease := 0, revoked := false, queue := [] }

/-- A channel record after a chip reset (R67). -/
def Channel.reset : Channel :=
  { binding := none, counter := 0, slots := [], senders := [], receivers := [] }

/-- The machine right after reset: the chip is in INIT and MU has begun the clear (R130, R131). The straps are low,
so P0 is the manager port (DESIGN CHOICE, log 2, unsafe: the spec gives no levels), and the memory that MU is about
to clear lists nothing (DESIGN CHOICE, log 3, unsafe: the spec gives the words no value before the clear has ended). -/
def State.reset : State :=
  { contexts := Table.all 16 .reset
    ports := Table.all 4 .reset
    links := Table.all 4 .quiet
    arbiters := .all 15
    locks := Table.all 64 .reset
    luTicks := []
    forcing := none
    channels := Table.all 16 .reset
    cuTicks := 0
    cuTickOpen := false
    memory := []
    segments := Table.all 64 none
    clearing := true
    period := none
    periodCode := 1
    epoch := 0
    phase := .init
    clearReport := false
    managerPort := 0
    keys := Table.all 4 { primary := 0, alternate := 0 }
    inspection := none
    resetHeld := false
    straps := { msel1 := false, msel0 := false }
    pending := [] }

end Sys2Proof.Machine
end

