-- ==== Sys2Proof/Machine/Operands.lean ====
section
/-! DEFINITION. The command codes, the fields of the command record and of packed operands, and the packing of
results and registers (R162 to R167). -/

namespace Sys2Proof.Machine

/-! ## Command codes (R12, R164) -/

/-- The 26 commands of the part. -/
inductive Command where
  | read | write | readGroup | writeGroup | tally | setIfZero | zeroFill | defineSegment | clearSegment
  | inspectSegment
  | acquire | release | renew | inspectLock | setLock | forceRelease
  | send | receive | inspectChannel | bindChannel | unbindChannel
  | setPortKeys | setTick | evictPort | inspectPort | chipReset
deriving DecidableEq, Repr

/-- The code of a command (R164). -/
def Command.code : Command → BitVec 8
  | .read => 0x01 | .write => 0x02 | .readGroup => 0x03 | .writeGroup => 0x04 | .tally => 0x05
  | .setIfZero => 0x06 | .zeroFill => 0x07 | .defineSegment => 0x08 | .clearSegment => 0x09
  | .inspectSegment => 0x0A
  | .acquire => 0x0B | .release => 0x0C | .renew => 0x0D | .inspectLock => 0x0E | .setLock => 0x0F
  | .forceRelease => 0x10
  | .send => 0x11 | .receive => 0x12 | .inspectChannel => 0x13 | .bindChannel => 0x14 | .unbindChannel => 0x15
  | .setPortKeys => 0x16 | .setTick => 0x17 | .evictPort => 0x18 | .inspectPort => 0x19 | .chipReset => 0x1A

/-- The commands in the order of their codes (R164). -/
def allCommands : List Command :=
  [.read, .write, .readGroup, .writeGroup, .tally, .setIfZero, .zeroFill, .defineSegment, .clearSegment,
   .inspectSegment, .acquire, .release, .renew, .inspectLock, .setLock, .forceRelease, .send, .receive,
   .inspectChannel, .bindChannel, .unbindChannel, .setPortKeys, .setTick, .evictPort, .inspectPort, .chipReset]

/-- The command with a code; `none` for an unknown code (R12, R164). -/
def commandOf (code : BitVec 8) : Option Command := allCommands.find? fun c => c.code == code

/-- The unit that owns a command (R12). -/
def Command.owner : Command → UnitId
  | .read | .write | .readGroup | .writeGroup | .tally | .setIfZero | .zeroFill | .defineSegment | .clearSegment
  | .inspectSegment => .mu
  | .acquire | .release | .renew | .inspectLock | .setLock | .forceRelease => .lu
  | .send | .receive | .inspectChannel | .bindChannel | .unbindChannel => .cu
  | .setPortKeys | .setTick | .evictPort | .inspectPort | .chipReset => .su

/-- The ten manager commands (R117). -/
def Command.isManager : Command → Bool
  | .defineSegment | .clearSegment | .setLock | .forceRelease | .bindChannel | .unbindChannel | .setPortKeys
  | .setTick | .evictPort | .chipReset => true
  | _ => false

/-- The two commands whose every completion sets the data index to 0 (R4). -/
def bringsData (code : BitVec 8) : Bool := code == Command.receive.code || code == Command.readGroup.code

/-! ## Fields of COMMAND, TARGET and PARAM (R163) -/

/-- Mode from its bit. -/
def modeOfBit (b : Bool) : Mode := if b then .wait else .nowait

/-- Priority from its bit. -/
def priorityOfBit (b : Bool) : Priority := if b then .urgent else .normal

/-- Key selector from its two bits (R110, R163). -/
def selectorOfBits (b : BitVec 2) : Selector :=
  if b = 0 then .primary else if b = 1 then .alternate else if b = 2 then .override else .unused

/-- The two bits of a key selector. -/
def Selector.bits : Selector → BitVec 2
  | .primary => 0 | .alternate => 1 | .override => 2 | .unused => 3

/-- The command record after a write of COMMAND (R163). -/
def CommandRecord.withCommand (r : CommandRecord) (w : Word) : CommandRecord :=
  { r with code := w.extractLsb' 0 8, mode := modeOfBit (w.getLsbD 8), priority := priorityOfBit (w.getLsbD 9),
           selector := selectorOfBits (w.extractLsb' 10 2) }

/-- The command record after a write of TARGET (R163). -/
def CommandRecord.withTarget (r : CommandRecord) (w : Word) : CommandRecord :=
  { r with object := w.extractLsb' 0 8, offset := w.extractLsb' 16 12 }

/-- The command record after a write of OPERAND (R163). -/
def CommandRecord.withOperand (r : CommandRecord) (w : Word) : CommandRecord := { r with operand := w }

/-- The command record after a write of PARAM (R163). -/
def CommandRecord.withParam (r : CommandRecord) (w : Word) : CommandRecord :=
  { r with timeout := w.extractLsb' 0 16, count := w.extractLsb' 16 13 }

/-- A field `x` placed at bit `at_` of a word whose other bits are 0. -/
def field {n : Nat} (at_ : Nat) (x : BitVec n) : Word := (x.setWidth 32) <<< at_

/-- A one-bit field. -/
def flag (at_ : Nat) (b : Bool) : Word := field at_ (BitVec.ofBool b)

/-- COMMAND as it reads (R163). -/
def CommandRecord.commandWord (r : CommandRecord) : Word :=
  field 0 r.code ||| flag 8 (r.mode == .wait) ||| flag 9 (r.priority == .urgent) ||| field 10 r.selector.bits

/-- TARGET as it reads (R163). -/
def CommandRecord.targetWord (r : CommandRecord) : Word := field 0 r.object ||| field 16 r.offset

/-- PARAM as it reads (R163). -/
def CommandRecord.paramWord (r : CommandRecord) : Word := field 0 r.timeout ||| field 16 r.count

/-- A target's object number as a number below `n`; `none` is out of range (R22, R164). -/
def CommandRecord.objectBelow (r : CommandRecord) (n : Nat) : Option (Fin n) :=
  if h : r.object.toNat < n then some ⟨r.object.toNat, h⟩ else none

/-- The lock named by the target (R25). -/
def CommandRecord.lockNum (r : CommandRecord) : Option LockNum := r.objectBelow 64

/-- The channel named by the target (R63). -/
def CommandRecord.chanNum (r : CommandRecord) : Option ChanNum := r.objectBelow 16

/-- The segment named by the target (R87). -/
def CommandRecord.segNum (r : CommandRecord) : Option SegNum := r.objectBelow 64

/-- The port named by the target. -/
def CommandRecord.portNum (r : CommandRecord) : Option Port := r.objectBelow 4

/-- A count or length is from 1 to `max` (R22). -/
def CommandRecord.countWithin (r : CommandRecord) (max : Nat) : Bool :=
  decide (1 ≤ r.count.toNat ∧ r.count.toNat ≤ max)

/-! ## Packed operands (R166) -/

/-- SET LOCK: the key. -/
def lockKeyField (w : Word) : Key := w.extractLsb' 0 12

/-- SET LOCK: the lease period. -/
def leasePeriodField (w : Word) : BitVec 16 := w.extractLsb' 16 16

/-- DEFINE SEGMENT: the base. -/
def baseField (w : Word) : BitVec 14 := w.extractLsb' 0 14

/-- DEFINE SEGMENT: the rights. -/
def rightsField (w : Word) : Rights := { read := w.getLsbD 16, write := w.getLsbD 17, atomic := w.getLsbD 18 }

/-- DEFINE SEGMENT: the key. -/
def segmentKeyField (w : Word) : Key := w.extractLsb' 20 12

/-- BIND CHANNEL: the sender set. -/
def sendersField (w : Word) : BitVec 4 := w.extractLsb' 0 4

/-- BIND CHANNEL: the receiver port. -/
def receiverField (w : Word) : Port := (w.extractLsb' 4 2).toFin

/-- BIND CHANNEL: the key. -/
def channelKeyField (w : Word) : Key := w.extractLsb' 16 12

/-- UNBIND CHANNEL: the force bit. -/
def forceField (w : Word) : Bool := w.getLsbD 0

/-- SET PORT KEYS: the pair. -/
def keyPairField (w : Word) : KeyPair := { primary := w.extractLsb' 0 12, alternate := w.extractLsb' 16 12 }

/-- SET TICK: the period code. -/
def periodCodeField (w : Word) : PeriodCode := w.extractLsb' 0 2

/-- SET TICK: the enable bit. -/
def tickEnableField (w : Word) : Bool := w.getLsbD 4

/-! ## Encodings (R162, R163, R165) -/

/-- Value of a completion code (R165). -/
def CompletionCode.bits : CompletionCode → BitVec 5
  | .ok => 0x01 | .busy => 0x02 | .full => 0x03 | .empty => 0x04 | .timeout => 0x05 | .aborted => 0x06
  | .cancelled => 0x07 | .missing => 0x08 | .protected_ => 0x09 | .privilege => 0x0A | .notHolder => 0x0B
  | .late => 0x0C | .self => 0x0D | .wrongPort => 0x0E | .inUse => 0x0F | .range => 0x10 | .badCommand => 0x11
  | .segmentChanged => 0x12

/-- RESULT CODE: "no result" is 0 (R165). -/
def resultCodeBits : Option CompletionCode → BitVec 5
  | none => 0
  | some c => c.bits

/-- Context state as STATE and INSPECT PORT encode it (R163, R167). -/
def CtxState.bits : CtxState → BitVec 3
  | .idle => 0 | .pending _ => 1 | .active _ => 2 | .waiting _ => 3 | .done => 4

/-- The unit that owns a context's request; ACTIVE is MU's (R5). -/
def CtxState.owner : CtxState → Option UnitId
  | .idle => none | .pending u => some u | .active _ => some .mu | .waiting u => some u | .done => none

/-- Owning unit as STATE encodes it (R163). -/
def ownerBits : Option UnitId → BitVec 3
  | none => 0 | some .mu => 1 | some .lu => 2 | some .cu => 3 | some .su => 4

/-- Port state as PORT STATUS and INSPECT PORT encode it (R162, R167). -/
def PortState.bits : PortState → BitVec 2
  | .offline => 0 | .online => 1 | .withdrawing _ _ => 2

/-- Cause as WINDOW ERROR CAUSE encodes it (R162). -/
def ErrorCause.bits : ErrorCause → BitVec 3
  | .none => 0 | .contextBusy => 1 | .portNotOnline => 2 | .contextLocked => 3 | .frameShort => 4
  | .attachRefused => 5

/-- Cause as LOG encodes it (R57, R162). -/
def RevocationCause.bits : RevocationCause → BitVec 2
  | .expired => 1 | .forced => 2 | .withdrawn => 3

/-- A revocation record as LOG reads (R162). -/
def RevocationRecord.word (r : RevocationRecord) : Word :=
  field 0 (BitVec.ofNat 6 r.lock.val) ||| field 6 r.cause.bits ||| field 8 r.generation ||| field 16 r.epoch

/-- The 16-bit AUX of a count. -/
def auxOf (n : Nat) : BitVec 16 := BitVec.ofNat 16 n

/-- A context number as a word. -/
def ctxWord (cx : CtxNum) : Word := BitVec.ofNat 32 cx.val

/-! ## Packed results (R166, R167) -/

/-- SET PORT KEYS: the replaced pair in VALUE. -/
def KeyPair.word (k : KeyPair) : Word := field 0 k.primary ||| field 16 k.alternate

/-- SET TICK: the generator found, in VALUE. -/
def tickWord (running : Bool) (code : PeriodCode) : Word := field 0 code ||| flag 4 running

/-- RECEIVE, OK: length and sender in AUX. -/
def receiveAux (m : Message) : BitVec 16 :=
  BitVec.ofNat 16 m.words.length ||| (BitVec.ofNat 16 m.sender.val <<< 8)

/-- INSPECT LOCK: VALUE. -/
def Lock.inspectWord (l : Lock) : Word :=
  flag 0 l.holder.isSome ||| flag 1 l.revoked ||| field 4 (BitVec.ofNat 4 ((l.holder.map Fin.val).getD 0)) |||
    field 8 l.generation ||| field 16 l.lease

/-- INSPECT CHANNEL: VALUE. -/
def Channel.inspectWord (c : Channel) : Word :=
  flag 0 c.binding.isSome ||| field 2 (BitVec.ofNat 2 c.slots.length) |||
    field 8 (BitVec.ofNat 4 c.senders.length) ||| field 12 (BitVec.ofNat 3 c.receivers.length)

/-- INSPECT SEGMENT: VALUE, with the key shown to the manager port alone (R102). -/
def segmentInspectWord (e : Option Segment) (manager : Bool) : Word :=
  match e with
  | none => 0
  | some g =>
    flag 0 true ||| flag 1 g.rights.read ||| flag 2 g.rights.write ||| flag 3 g.rights.atomic |||
      field 4 g.length ||| (if manager then field 20 g.key else 0)

/-- INSPECT SEGMENT: AUX, the base, shown to the manager port alone (R102). -/
def segmentInspectAux (e : Option Segment) (manager : Bool) : BitVec 16 :=
  match e with
  | none => 0
  | some g => if manager then g.base.setWidth 16 else 0

end Sys2Proof.Machine
end

