-- ==== Sys2Proof/Machine/Ops.lean ====
section
/-! DEFINITION. The shared operations over the state: reading and replacing its records, the coordination memory,
completion of a context, the arbiters, the checks made when a unit takes a request, window errors, and the port's
withdrawal. -/

namespace Sys2Proof.Machine

/-- What a command answers. -/
abbrev Out := Host.Outcome State Fault Refusal

/-! ## Reading and replacing records -/

/-- Context `cx`. -/
def State.ctx (s : State) (cx : CtxNum) : Context := s.contexts.at cx
/-- Replace a context by a function of itself. -/
def State.modCtx (s : State) (cx : CtxNum) (f : Context → Context) : State :=
  { s with contexts := s.contexts.put cx (f (s.ctx cx)) }

/-- Port interface of port `p`. -/
def State.port (s : State) (p : Port) : PortInterface := s.ports.at p
/-- Replace a port interface by a function of itself. -/
def State.modPort (s : State) (p : Port) (f : PortInterface → PortInterface) : State :=
  { s with ports := s.ports.put p (f (s.port p)) }

/-- The messages in transit to and from port `p`. -/
def State.link (s : State) (p : Port) : Links := s.links.at p
/-- Replace the messages of a port by a function of themselves. -/
def State.modLink (s : State) (p : Port) (f : Links → Links) : State :=
  { s with links := s.links.put p (f (s.link p)) }

/-- Lock `l`. -/
def State.lock (s : State) (l : LockNum) : Lock := s.locks.at l
/-- Replace a lock by a function of itself. -/
def State.modLock (s : State) (l : LockNum) (f : Lock → Lock) : State :=
  { s with locks := s.locks.put l (f (s.lock l)) }

/-- Channel `n`. -/
def State.chan (s : State) (n : ChanNum) : Channel := s.channels.at n
/-- Replace a channel by a function of itself. -/
def State.modChan (s : State) (n : ChanNum) (f : Channel → Channel) : State :=
  { s with channels := s.channels.put n (f (s.chan n)) }

/-- Segment entry `g`; `none` is invalid. -/
def State.seg (s : State) (g : SegNum) : Option Segment := s.segments.at g
/-- Replace a segment entry. -/
def State.setSeg (s : State) (g : SegNum) (e : Option Segment) : State :=
  { s with segments := s.segments.put g e }

/-- The keys of port `p`. -/
def State.keyPair (s : State) (p : Port) : KeyPair := s.keys.at p
/-- Replace a port's pair of keys in one step (R108). -/
def State.setKeyPair (s : State) (p : Port) (k : KeyPair) : State := { s with keys := s.keys.put p k }

/-- Replace each context by a function of its number and itself. -/
def State.mapCtxs (s : State) (f : CtxNum → Context → Context) : State :=
  { s with contexts := s.contexts.mapEach f }
/-- Replace each lock by a function of itself. -/
def State.mapLocks (s : State) (f : Lock → Lock) : State := { s with locks := s.locks.mapEach fun _ k => f k }
/-- Replace each channel by a function of itself. -/
def State.mapChans (s : State) (f : Channel → Channel) : State :=
  { s with channels := s.channels.mapEach fun _ c => f c }

/-- Replace the coordination memory. -/
def State.setMemory (s : State) (m : Memory) : State := { s with memory := m }
/-- Replace the tick events delivered to LU. -/
def State.setLuTicks (s : State) (ts : List LuTick) : State := { s with luTicks := ts }
/-- LU is, or is no longer, within the step of a FORCE RELEASE (R124). -/
def State.setForcing (s : State) (f : Option CtxNum) : State := { s with forcing := f }
/-- Replace the tick events delivered to CU; `isOpen` is whether the step of the oldest is under way. -/
def State.setCuTicks (s : State) (k : Nat) (isOpen : Bool) : State := { s with cuTicks := k, cuTickOpen := isOpen }

/-- The four ports. -/
def allPorts : List Port := [0, 1, 2, 3]
/-- The contexts 0 to 3 of a port. -/
def allSlots : List (Fin 4) := [0, 1, 2, 3]
/-- The sixteen context numbers. -/
def allCtxs : List CtxNum := List.finRange 16
/-- The sixteen channels. -/
def allChans : List ChanNum := List.finRange 16
/-- The 64 locks, in increasing number. -/
def allLocks : List LockNum := List.finRange 64

/-! ## Coordination memory (R86) -/

/-- The word at an address; an address that is not listed reads 0 (R106; before the first clear has ended,
DESIGN CHOICE, log 3, unsafe). -/
def Memory.read : Memory → Nat → Word
  | [], _ => 0
  | (b, v) :: m, a => if a = b then v else Memory.read m a

/-- The memory with the word at `a` replaced, in canonical form: a word 0 is not listed. -/
def Memory.write : Memory → Nat → Word → Memory
  | [], a, w => if w = 0 then [] else [(a, w)]
  | (b, v) :: m, a, w =>
    if a < b then (if w = 0 then (b, v) :: m else (a, w) :: (b, v) :: m)
    else if a = b then (if w = 0 then m else (a, w) :: m)
    else (b, v) :: Memory.write m a w

/-- The words at `a`, `a + 1`, …, `n` of them (R90). -/
def Memory.readRun (m : Memory) (a n : Nat) : List Word := (List.range n).map fun i => m.read (a + i)

/-- The memory with consecutive words from `a` replaced (R91). -/
def Memory.writeRun : Memory → Nat → List Word → Memory
  | m, _, [] => m
  | m, a, w :: ws => Memory.writeRun (m.write a w) (a + 1) ws

/-- The memory with the `n` words from `a` set to 0 (R96). -/
def Memory.clearRun (m : Memory) (a n : Nat) : Memory :=
  m.filter fun c => decide (c.1 < a ∨ a + n ≤ c.1)

/-- Canonical form from address `lo` up: strictly rising, inside the memory, no word 0. -/
def Memory.wfFrom : Nat → Memory → Bool
  | _, [] => true
  | lo, (a, w) :: m => decide (lo ≤ a) && decide (a < Config.memoryWords) && decide (w ≠ 0) && Memory.wfFrom (a + 1) m

/-- The canonical form of the memory. -/
def Memory.wf (m : Memory) : Bool := Memory.wfFrom 0 m

/-! ## Data buffers (R4) -/

/-- The first `n` words of a buffer (SEND, WRITE GROUP). -/
def bufferPrefix (b : Table Word 16) (n : Nat) : List Word := b.toList.take n

/-- The buffer with words from number `i` on replaced by `ws`; words past 15 are dropped. -/
def overlayFrom : Nat → List Word → Table Word 16 → Table Word 16
  | _, [], b => b
  | i, w :: ws, b => overlayFrom (i + 1) ws (if h : i < 16 then b.put ⟨i, h⟩ w else b)

/-- A context whose buffer words 0, 1, … are replaced by `ws` (RECEIVE, READ GROUP). -/
def Context.withWords (c : Context) (ws : List Word) : Context := { c with buffer := overlayFrom 0 ws c.buffer }

/-! ## Contexts (R5, R9, R18) -/

/-- PENDING, ACTIVE or WAITING. -/
def CtxState.busy (t : CtxState) : Bool := t.owner.isSome

/-- The abort marker (R1). -/
def Context.marker (c : Context) : Bool := c.abort.isSome

/-- What a completion writes besides ABORT_LATE; fields that no rule gives are 0 or clear (R18). -/
structure Answer where
  code         : CompletionCode
  value        : Word := 0
  aux          : BitVec 16 := 0
  priorRevoked : Bool := false
  saturated    : Bool := false
deriving DecidableEq, Repr

/-- The result record of a completion, with ABORT_LATE as the abort marker decides (R18). -/
def Answer.record (r : Answer) (marker : Bool) : ResultRecord :=
  { code := some r.code, value := r.value, aux := r.aux, abortLate := marker && decide (r.code ≠ .aborted),
    priorRevoked := r.priorRevoked, saturated := r.saturated }

/-- A context in DONE: result written, owning unit dropped, abort marker cleared, and the data index set to 0 for
RECEIVE and READ GROUP (R18, R4). -/
def Context.completed (c : Context) (r : Answer) : Context :=
  { c with state := .done, abort := none, result := r.record c.marker,
           index := if bringsData c.command.code then 0 else c.index }

/-- Some context of port `p` satisfies `f`. -/
def State.anyOfPort (s : State) (p : Port) (f : Context → Bool) : Bool :=
  allSlots.any fun c => f (s.ctx (ctxOf p c))

/-- No context of the port is PENDING, ACTIVE or WAITING (R140). -/
def State.portAtRest (s : State) (p : Port) : Bool := !s.anyOfPort p fun c => c.state.busy

/-! ## Withdrawal of a port (R138 to R142) -/

/-- All four units have answered (R140). -/
def allAcked (a : PerUnit Bool) : Bool := a.mu && a.lu && a.cu && a.su

/-- The pending removal of a LOG word does nothing once the log has been emptied under it (R59). -/
def ReadLatch.withoutPop (l : ReadLatch) : ReadLatch :=
  match l.source with
  | .log _ => { l with source := .log false }
  | .data _ | .register _ => l

/-- The port's window state as a port reset leaves it; the port record, the frame and the word being sent are not
part of it (R142). -/
def PortInterface.cleared (i : PortInterface) : PortInterface :=
  { PortInterface.reset with state := i.state, frame := i.frame, latch := i.latch.map ReadLatch.withoutPop,
                             sent := i.sent }

/-- Replace each context of port `p` by a function of itself. -/
def State.modPortCtxs (s : State) (p : Port) (f : Context → Context) : State :=
  s.mapCtxs fun cx c => if portOf cx = p then f c else c

/-- The port reset clearing (R142, R24). -/
def State.portResetClearing (s : State) (p : Port) : State :=
  (s.modPortCtxs p fun _ => Context.reset).modPort p PortInterface.cleared

/-- A context at the completion of its port's withdrawal (R24, R141). -/
def Context.released (c : Context) : Context := { c with state := .idle, result := .cleared }

/-- A port interface at the completion of its withdrawal (R141). -/
def PortInterface.withdrawn (i : PortInterface) : PortInterface :=
  { i with state := .offline, dataFlags := 0, spaceFlags := 0, windowError := false }

/-- The completion step of a withdrawal, ending with the port reset clearing if the mark is set (R141). -/
def State.completeWithdrawal (s : State) (p : Port) (mark : Bool) : State :=
  let s := (s.modPortCtxs p Context.released).modPort p PortInterface.withdrawn
  if mark then s.portResetClearing p else s

/-- The PI's test of the completion condition (R140). -/
def State.testWithdrawal (s : State) (p : Port) : State :=
  match (s.port p).state with
  | .withdrawing acks mark => if allAcked acks && s.portAtRest p then s.completeWithdrawal p mark else s
  | _ => s

/-- A withdrawal begins: WITHDRAWING, no unit has answered, a notice goes to each unit (R138); `mark` is the
clear-at-completion mark (R142). -/
def State.beginWithdrawal (s : State) (p : Port) (mark : Bool) : State :=
  (s.modPort p fun i => { i with state := .withdrawing (.all false) mark }).modLink p fun k =>
    { k with notices := .all .inTransit }

/-! ## Completion (R18) -/

/-- A unit, or the context itself, ends a request: the context enters DONE with its result, and the PI tests the
completion condition of a withdrawal (R18, R140). -/
def State.complete (s : State) (cx : CtxNum) (r : Answer) : State :=
  (s.modCtx cx fun c => c.completed r).testWithdrawal (portOf cx)

/-- Complete with CANCELLED every context of `p` that is in state `t` (R17, R44, R84). -/
def State.cancelAll (s : State) (p : Port) (t : CtxState) : State :=
  allSlots.foldl (fun s c =>
    if (s.ctx (ctxOf p c)).state = t then s.complete (ctxOf p c) { code := .cancelled } else s) s

/-! ## Arbiters (R14, R10, R17) -/

/-- A request stands at unit `u`'s arbiter for a context in state `t`: PENDING there, or a fill between bursts
(R14, R15). -/
def CtxState.standsAt (t : CtxState) (u : UnitId) : Bool :=
  match t with
  | .pending v => decide (v = u)
  | .active _ => decide (u = .mu)
  | _ => false

/-- The context that `u`'s arbiter grants next: the first standing number after the last granted (R14). -/
def State.nextGrant (s : State) (u : UnitId) : Option CtxNum :=
  (allCtxs.map fun k => s.arbiters.get u + 1 + k).find? fun cx => (s.ctx cx).state.standsAt u

/-- A tick event stands at the unit (R14, R121). -/
def State.tickStands (s : State) (u : UnitId) : Bool :=
  match u with
  | .lu => !s.luTicks.isEmpty
  | .cu => decide (s.cuTicks ≠ 0)
  | _ => false

/-- LU is inside the step of its oldest tick event (R46). -/
def State.luTickOpen (s : State) : Bool :=
  match s.luTicks with
  | [] => false
  | t :: _ => decide (t.point ≠ .start)

/-- The unit is inside a step of its own, during which it takes nothing else: LU and CU inside that of a tick event, LU
inside that of a FORCE RELEASE, SU inside that of an INSPECT PORT (R15, R46, R76, R124, R127). -/
def State.midStep (s : State) (u : UnitId) : Bool :=
  match u with
  | .lu => s.luTickOpen || s.forcing.isSome
  | .cu => s.cuTickOpen
  | .su => s.inspection.isSome
  | .mu => false

/-- An abort notice at `u` that must be taken before a further grant (R10). -/
def Context.abortDue (c : Context) (u : UnitId) : Bool :=
  match c.abort with
  | some n => decide (c.state.owner = some u) && !n.taken && decide (Config.noticeGrants ≤ n.grants + 1)
  | none => false

/-- A withdrawal notice that must be taken before a further grant (R17). -/
def NoticeState.due : NoticeState → Bool
  | .standing g => decide (Config.noticeGrants ≤ g + 1)
  | _ => false

/-- No notice at the unit is due. -/
def State.noNoticeDue (s : State) (u : UnitId) : Bool :=
  (allCtxs.all fun cx => !(s.ctx cx).abortDue u) && (allPorts.all fun p => !((s.link p).notices.get u).due)

/-- The grant that `u`'s arbiter makes if the unit takes a request now (R14, R15, R10, R17, R121). -/
def State.grants (s : State) (u : UnitId) : Option CtxNum :=
  if s.tickStands u || s.midStep u || !s.noNoticeDue u then none else s.nextGrant u

/-- One further grant of `u` counted by an abort notice that stands there. -/
def Context.countGrant (u : UnitId) (c : Context) : Context :=
  if c.state.owner = some u then
    { c with abort := c.abort.map fun n => if n.taken then n else { n with grants := n.grants + 1 } }
  else c

/-- One further grant counted by a standing withdrawal notice. -/
def NoticeState.countGrant : NoticeState → NoticeState
  | .standing g => .standing (g + 1)
  | n => n

/-- The state after `u`'s arbiter has granted `cx`: the number is recorded, and the standing notices count it. -/
def State.granted (s : State) (u : UnitId) (cx : CtxNum) : State :=
  { s with
    arbiters := s.arbiters.set u cx
    contexts := s.contexts.mapEach fun _ c => c.countGrant u
    links := s.links.mapEach fun _ k => { k with notices := k.notices.set u (k.notices.get u).countGrant } }

/-- The part is out of reset; while RESETn is low every block is held at its reset values (R130). -/
def State.live (s : State) (k : Out) : Out := if s.resetHeld then .next s else k

/-- `u` takes the request `c` of context `cx`: it stands there, and the arbiter grants it now (R13, R14). Where the
request does not stand or it is not its turn there is nothing to take, and nothing changes
(DESIGN CHOICE, log 9, safe). -/
def State.take (s : State) (c : Command) (cx : CtxNum) (k : State → Out) : Out :=
  if s.resetHeld then .next s
  else if (s.ctx cx).state = .pending c.owner ∧ (s.ctx cx).command.code = c.code ∧ s.grants c.owner = some cx then
    k (s.granted c.owner cx)
  else .next s

/-! ## Checks (R21, R22, R110, R111, R117) -/

/-- A request ended by a failed check: VALUE 0, AUX 0, nothing else changed (R21). -/
def State.failed (s : State) (cx : CtxNum) (code : CompletionCode) : Out := .next (s.complete cx { code := code })

/-- The requesting context's port is the manager port (R117). -/
def State.isManager (s : State) (cx : CtxNum) : Bool := decide (portOf cx = s.managerPort)

/-- The privilege check of a manager command (R117). -/
def State.asManager (s : State) (cx : CtxNum) (k : Out) : Out :=
  if s.isManager cx then k else s.failed cx .privilege

/-- The range check of a target that names one object (R22). -/
def State.onTarget {α : Type} (s : State) (cx : CtxNum) (target : Option α) (k : α → Out) : Out :=
  match target with
  | none => s.failed cx .range
  | some x => k x

/-- The key selector holds one of the three valid encodings (R22, R110). -/
def CommandRecord.selectorValid (r : CommandRecord) : Bool := decide (r.selector ≠ .unused)

/-- A presented key opens an object key: 000h is open (R111). -/
def keyMatches (object presented : Key) : Bool := decide (object = 0) || decide (object = presented)

/-- The key comparison of step 5 for context `cx` against an object's key (R110, R111). -/
def State.keyOpens (s : State) (cx : CtxNum) (object : Key) : Bool :=
  match (s.ctx cx).command.selector with
  | .primary => keyMatches object (s.keyPair (portOf cx)).primary
  | .alternate => keyMatches object (s.keyPair (portOf cx)).alternate
  | .override => s.isManager cx
  | .unused => false

/-! ## Window errors (R148) -/

/-- A refused window access: WINDOW_ERROR set, cause and address replaced. -/
def State.windowRefusal (s : State) (p : Port) (cause : ErrorCause) (addr : WindowAddr) : State :=
  s.modPort p fun i => { i with windowError := true, errorCause := cause, errorAddr := addr }

/-! ## Messages (R54, R75) -/

/-- LU sends to the PI of port `p`, after what it has sent before. -/
def State.sendLu (s : State) (p : Port) (m : LuMessage) : State :=
  s.modLink p fun k => { k with fromLu := k.fromLu ++ [m] }

/-- CU sends a setting or clearing to the PI of port `p`, after what it has sent before. -/
def State.sendCu (s : State) (p : Port) (m : CuMessage) : State :=
  s.modLink p fun k => { k with fromCu := k.fromCu ++ [m] }

/-- CU sends the same message to every port of a sender set. -/
def State.sendCuAll (s : State) (ports : BitVec 4) (m : CuMessage) : State :=
  allPorts.foldl (fun s p => if ports.getLsbD p.val then s.sendCu p m else s) s

/-- MU acknowledges a withdrawal it owes the answer of, once the port has no running fill left (R104). -/
def State.muSettle (s : State) (p : Port) : State :=
  if (s.link p).muOwesAck && !s.anyOfPort p (fun c => match c.state with | .active _ => true | _ => false) then
    s.modLink p fun k => { k with muOwesAck := false, muAck := true }
  else s

end Sys2Proof.Machine
end

