-- ==== Sys2Proof/Machine/Flags.lean ====
section
/-! DEFINITION. The event flags of a port, their clearing by a written 1, their computation at ATTACH, and the
INTn line (R135, R144 to R154). -/

namespace Sys2Proof.Machine

/-- A 16-bit word whose bit n is `f n`. -/
def bitsOf (f : ChanNum → Bool) : BitVec 16 :=
  allChans.foldl (fun b n => if f n then b ||| BitVec.twoPow 16 n.val else b) 0

/-- The word with bit `n` alone set. -/
def chanBit (n : ChanNum) : BitVec 16 := BitVec.twoPow 16 n.val

/-- The DONE flag of context `c` of port `p`: a view of its state (R145). -/
def State.doneFlag (s : State) (p : Port) (c : Fin 4) : Bool := decide ((s.ctx (ctxOf p c)).state = .done)

/-- EVENT FLAGS 0 as six bits: DONE of contexts 0 to 3, LEASE_LOST, WINDOW_ERROR (R162). -/
def State.flags0 (s : State) (p : Port) : BitVec 6 :=
  (BitVec.ofBool (s.port p).windowError ++ (BitVec.ofBool (s.port p).leaseLost ++
    (BitVec.ofBool (s.doneFlag p 3) ++ (BitVec.ofBool (s.doneFlag p 2) ++
      (BitVec.ofBool (s.doneFlag p 1) ++ BitVec.ofBool (s.doneFlag p 0))))))

/-- The channel is bound with the port as receiver and a slot is FULL (R135, R147). -/
def Channel.hasDataFor (c : Channel) (p : Port) : Bool :=
  match c.binding with
  | none => false
  | some b => decide (b.receiver = p) && !c.slots.isEmpty

/-- The channel is bound with the port as a sender and a slot is EMPTY (R135, R147). -/
def Channel.hasSpaceFor (c : Channel) (p : Port) : Bool :=
  match c.binding with
  | none => false
  | some b => b.senders.getLsbD p.val && decide (c.slots.length < Config.channelSlots)

/-- The channels with a message waiting for the port (R135). -/
def State.dataTest (s : State) (p : Port) : BitVec 16 := bitsOf fun n => (s.chan n).hasDataFor p

/-- The channels with room for the port's messages (R135). -/
def State.spaceTest (s : State) (p : Port) : BitVec 16 := bitsOf fun n => (s.chan n).hasSpaceFor p

/-- ONLINE or WITHDRAWING: CU's settings are taken and the test of a clear is made (R75, R147). -/
def PortState.inService : PortState → Bool
  | .offline => false
  | _ => true

/-- Flags after a clearing word: each flag named by a 1 becomes its test, the others stay (R146, R147). -/
def clearedFlags (flags mask test : BitVec 16) : BitVec 16 := (flags &&& ~~~mask) ||| (mask &&& test)

/-- A clearing word at EVENT FLAGS 1 (R146, R147). -/
def State.clearData (s : State) (p : Port) (mask : BitVec 16) : State :=
  s.modPort p fun i =>
    let test := if i.state.inService then s.dataTest p else 0
    { i with dataFlags := clearedFlags i.dataFlags mask test }

/-- A clearing word at EVENT FLAGS 2 (R146, R147). -/
def State.clearSpace (s : State) (p : Port) (mask : BitVec 16) : State :=
  s.modPort p fun i =>
    let test := if i.state.inService then s.spaceTest p else 0
    { i with spaceFlags := clearedFlags i.spaceFlags mask test }

/-- A written 1 at LEASE_LOST: the flag is set again if the log holds a record (R61). -/
def State.clearLeaseLost (s : State) (p : Port) : State :=
  s.modPort p fun i => { i with leaseLost := !i.log.isEmpty }

/-- A written 1 at WINDOW_ERROR; the cause is kept (R149). -/
def State.clearWindowError (s : State) (p : Port) : State :=
  s.modPort p fun i => { i with windowError := false }

/-- A written 1 at OVERFLOW (R60). -/
def State.clearOverflow (s : State) (p : Port) : State :=
  s.modPort p fun i => { i with overflow := false }

/-- A write of EVENT ENABLES k replaces its enables (R150). -/
def State.writeEnables (s : State) (p : Port) (k : Fin 3) (w : Word) : State :=
  s.modPort p fun i =>
    if k = 0 then { i with enables0 := w.extractLsb' 0 6 }
    else if k = 1 then { i with enables1 := w.extractLsb' 0 16 }
    else { i with enables2 := w.extractLsb' 0 16 }

/-- A write of INT CONFIG replaces both settings (R151, R162). -/
def State.writeIntConfig (s : State) (p : Port) (w : Word) : State :=
  s.modPort p fun i =>
    { i with masterEnable := w.getLsbD 0, polarity := if w.getLsbD 1 then .activeHigh else .activeLow }

/-- Some set event flag of the port has its enable on (R152). -/
def State.enabledFlagSet (s : State) (p : Port) : Bool :=
  decide (s.flags0 p &&& (s.port p).enables0 ≠ 0) || decide ((s.port p).dataFlags &&& (s.port p).enables1 ≠ 0) ||
    decide ((s.port p).spaceFlags &&& (s.port p).enables2 ≠ 0)

/-- INTn of the port is asserted (R152). -/
def State.intAsserted (s : State) (p : Port) : Bool :=
  (s.port p).state.inService && (s.port p).masterEnable && s.enabledFlagSet p

/-- The level of the port's INTn pin, `true` for high (R151, R152). -/
def State.intLevel (s : State) (p : Port) : Bool :=
  match (s.port p).polarity with
  | .activeLow => !s.intAsserted p
  | .activeHigh => s.intAsserted p

/-- A setting or clearing from CU as the PI takes it: a setting is not taken while OFFLINE (R75, R82). -/
def PortInterface.takeCu (i : PortInterface) (m : CuMessage) : PortInterface :=
  match m.kind, m.set with
  | .data, true => if i.state.inService then { i with dataFlags := i.dataFlags ||| chanBit m.channel } else i
  | .space, true => if i.state.inService then { i with spaceFlags := i.spaceFlags ||| chanBit m.channel } else i
  | .data, false => { i with dataFlags := i.dataFlags &&& ~~~chanBit m.channel }
  | .space, false => { i with spaceFlags := i.spaceFlags &&& ~~~chanBit m.channel }

/-- A revocation record arrives: appended, or dropped with OVERFLOW; LEASE_LOST is set (R58). -/
def PortInterface.takeRecord (i : PortInterface) (r : RevocationRecord) : PortInterface :=
  if i.log.length < Config.logRecords then { i with log := i.log ++ [r], leaseLost := true }
  else { i with overflow := true, leaseLost := true }

end Sys2Proof.Machine
end

