-- ==== Sys2Proof/Machine/Window.lean ====
section
/-! DEFINITION. The serial window: the register map, what each register reads, what a written word does, and the
frame that carries the words (R155 to R163). -/

namespace Sys2Proof.Machine

/-! ## The window map (R161) -/

/-- Registers of a context block. -/
inductive CtxRegister where
  | command | target | operand | param | control | state | resultCode | resultValue | resultAux | data | dataIndex
  | unimplemented
deriving DecidableEq, Repr

/-- Registers of the window. -/
inductive Register where
  | ident | chipStatus | portControl | portStatus
  | eventFlags (k : Fin 3)
  | eventEnables (k : Fin 3)
  | intConfig | windowErrorCause | log | logStatus
  | context (c : Fin 4) (r : CtxRegister)
  | unimplemented
deriving DecidableEq, Repr

/-- The register at an offset of a context block (R161). -/
def ctxRegisterAt (offset : Nat) : CtxRegister :=
  match offset with
  | 0 => .command | 1 => .target | 2 => .operand | 3 => .param | 4 => .control | 5 => .state
  | 6 => .resultCode | 7 => .resultValue | 8 => .resultAux | 9 => .data | 10 => .dataIndex
  | _ => .unimplemented

/-- The register at a window address (R161). -/
def registerAt (a : WindowAddr) : Register :=
  match a.toNat with
  | 0x00 => .ident | 0x01 => .chipStatus | 0x02 => .portControl | 0x03 => .portStatus
  | 0x04 => .eventFlags 0 | 0x05 => .eventFlags 1 | 0x06 => .eventFlags 2
  | 0x07 => .eventEnables 0 | 0x08 => .eventEnables 1 | 0x09 => .eventEnables 2
  | 0x0A => .intConfig | 0x0B => .windowErrorCause | 0x0C => .log | 0x0D => .logStatus
  | n =>
    if n < 0x20 then .unimplemented
    else if n < 0x30 then .context 0 (ctxRegisterAt (n - 0x20))
    else if n < 0x40 then .context 1 (ctxRegisterAt (n - 0x30))
    else if n < 0x50 then .context 2 (ctxRegisterAt (n - 0x40))
    else if n < 0x60 then .context 3 (ctxRegisterAt (n - 0x50))
    else .unimplemented

/-- Address of offset `k` of the block of context `c`: 20h + 10h × c + k (R161). -/
def ctxAddr (c : Fin 4) (k : Nat) : WindowAddr := BitVec.ofNat 7 (0x20 + 0x10 * c.val + k)

/-- Offset of CONTROL in a context block. -/
def controlOffset : Nat := 4
/-- Offset of DATA in a context block. -/
def dataOffset : Nat := 9

/-- The frame's address after a complete word: the next one, but DATA and LOG hold it (R158). -/
def nextAddr (a : WindowAddr) : WindowAddr :=
  match registerAt a with
  | .log => a
  | .context _ .data => a
  | _ => a + 1

/-! ## What the registers read (R162, R163) -/

/-- CHIP STATUS. -/
def State.chipStatusWord (s : State) : Word :=
  field 0 s.epoch ||| field 16 s.periodCode ||| flag 18 s.period.isSome ||| flag 19 (s.phase == .ready) |||
    field 20 (BitVec.ofNat 2 s.managerPort.val)

/-- The acknowledgement set as four bits: MU, LU, CU, SU from the lowest (R162). -/
def ackBits (a : PerUnit Bool) : BitVec 4 :=
  BitVec.ofBool a.su ++ (BitVec.ofBool a.cu ++ (BitVec.ofBool a.lu ++ BitVec.ofBool a.mu))

/-- PORT STATUS. -/
def State.portStatusWord (s : State) (p : Port) : Word :=
  let own : Word := field 12 (BitVec.ofNat 2 p.val)
  let state : Word := field 0 (s.port p).state.bits
  match (s.port p).state with
  | .withdrawing acks mark => own ||| state ||| field 4 (ackBits acks) ||| flag 8 mark
  | _ => own ||| state

/-- LOG: the oldest record, or all 0 when the log is empty (R59). -/
def PortInterface.logWord (i : PortInterface) : Word :=
  match i.log with
  | [] => 0
  | r :: _ => r.word

/-- A register of a context block. -/
def Context.registerWord (c : Context) : CtxRegister → Word
  | .command => c.command.commandWord
  | .target => c.command.targetWord
  | .operand => c.command.operand
  | .param => c.command.paramWord
  | .control => 0
  | .state =>
    field 0 c.state.bits ||| field 4 (ownerBits c.state.owner) ||| flag 8 c.marker ||| flag 9 c.goRefused
  | .resultCode => field 0 (resultCodeBits c.result.code)
  | .resultValue => c.result.value
  | .resultAux =>
    field 0 c.result.aux ||| flag 16 c.result.abortLate ||| flag 17 c.result.priorRevoked |||
      flag 18 c.result.saturated
  | .data => c.buffer.at c.index
  | .dataIndex => BitVec.ofNat 32 c.index.val
  | .unimplemented => 0

/-- The value that a read of address `a` in port `p`'s window takes (R156, R160, R161). -/
def State.windowRead (s : State) (p : Port) (a : WindowAddr) : Word :=
  match registerAt a with
  | .ident => Config.ident
  | .chipStatus => s.chipStatusWord
  | .portControl => 0
  | .portStatus => s.portStatusWord p
  | .eventFlags k => if k = 0 then field 0 (s.flags0 p)
      else if k = 1 then field 0 (s.port p).dataFlags else field 0 (s.port p).spaceFlags
  | .eventEnables k => if k = 0 then field 0 (s.port p).enables0
      else if k = 1 then field 0 (s.port p).enables1 else field 0 (s.port p).enables2
  | .intConfig => flag 0 (s.port p).masterEnable ||| flag 1 ((s.port p).polarity == .activeHigh)
  | .windowErrorCause => field 0 (s.port p).errorCause.bits ||| field 8 (s.port p).errorAddr
  | .log => (s.port p).logWord
  | .logStatus => field 0 (BitVec.ofNat 4 (s.port p).log.length) ||| flag 8 (s.port p).overflow
  | .context c r => (s.ctx (ctxOf p c)).registerWord r
  | .unimplemented => 0

/-! ## The strobes of CONTROL (R6 to R9, R12) -/

/-- ACK: a DONE context returns to IDLE with its result cleared; ignored otherwise (R8). -/
def Context.acked (c : Context) : Context :=
  match c.state with
  | .done => { c with state := .idle, result := .cleared }
  | _ => c

/-- A taken GO: GO_REFUSED clears, an old result is acknowledged, and the command is dispatched by its code (R7,
R12). -/
def Context.started (c : Context) : Context :=
  let c := { c.acked with goRefused := false }
  match commandOf c.command.code with
  | some k => { c with state := .pending k.owner }
  | none => c.completed { code := .badCommand }

/-- GO strobe of context `cx` (R7). -/
def State.goStrobe (s : State) (cx : CtxNum) : State :=
  let refuse (cause : ErrorCause) : State :=
    (s.modCtx cx fun c => { c with goRefused := true }).windowRefusal (portOf cx) cause
      (ctxAddr (slotOf cx) controlOffset)
  match (s.port (portOf cx)).state with
  | .online => if (s.ctx cx).state.busy then refuse .contextBusy else s.modCtx cx Context.started
  | _ => refuse .portNotOnline

/-- ACK strobe of context `cx` (R8). -/
def State.ackStrobe (s : State) (cx : CtxNum) : State := s.modCtx cx Context.acked

/-- ABORT: ABORT_LATE in DONE, the abort marker with its notice in a busy context, ignored otherwise (R9, R10). -/
def Context.abortRequested (c : Context) : Context :=
  match c.state with
  | .idle => c
  | .done => { c with result := { c.result with abortLate := true } }
  | _ => match c.abort with
    | some _ => c
    | none => { c with abort := some { grants := 0, taken := false } }

/-- ABORT strobe of context `cx` (R9). -/
def State.abortStrobe (s : State) (cx : CtxNum) : State := s.modCtx cx Context.abortRequested

/-! ## The actions of PORT CONTROL (R133, R134, R136, R142) -/

/-- Address of PORT CONTROL. -/
def portControlAddr : WindowAddr := 0x02

/-- The port comes ONLINE with its DATA and SPACE flags computed from the channel table (R134, R135). -/
def State.attached (s : State) (p : Port) : State :=
  s.modPort p fun i => { i with state := .online, dataFlags := s.dataTest p, spaceFlags := s.spaceTest p }

/-- ATTACH (R134). -/
def State.attachAction (s : State) (p : Port) : State :=
  match (s.port p).state, s.phase with
  | .offline, .ready => s.attached p
  | .offline, .init => s.windowRefusal p .attachRefused portControlAddr
  | .online, _ => s
  | .withdrawing _ _, _ => s.windowRefusal p .attachRefused portControlAddr

/-- DETACH, or an eviction order, begins the withdrawal of an ONLINE port and does nothing otherwise (R136, R126). -/
def State.detachAction (s : State) (p : Port) : State :=
  match (s.port p).state with
  | .online => s.beginWithdrawal p false
  | _ => s

/-- PORT RESET (R142). -/
def State.portResetAction (s : State) (p : Port) : State :=
  match (s.port p).state with
  | .online => s.beginWithdrawal p true
  | .withdrawing acks _ => s.modPort p fun i => { i with state := .withdrawing acks true }
  | .offline => s.portResetClearing p

/-! ## Written words (R157, R160) -/

/-- A write to a locked register of a context: refused with CONTEXT_LOCKED while the context is busy (R11). -/
def State.lockedWrite (s : State) (p : Port) (c : Fin 4) (a : WindowAddr) (f : Context → Context) : State :=
  if (s.ctx (ctxOf p c)).state.busy then s.windowRefusal p .contextLocked a else s.modCtx (ctxOf p c) f

/-- A word written to DATA: buffer[index], then the index advances modulo 16 (R4). -/
def Context.dataWritten (w : Word) (c : Context) : Context :=
  { c with buffer := c.buffer.put c.index w, index := c.index + 1 }

/-- Apply `f` if the bit is 1. -/
def strobe (bit : Bool) (f : State → State) (s : State) : State := if bit then f s else s

/-- A word written whole to a register of a context block (R6, R11, R160). -/
def State.writeCtxRegister (s : State) (p : Port) (c : Fin 4) (a : WindowAddr) (w : Word) : CtxRegister → State
  | .command => s.lockedWrite p c a fun x => { x with command := x.command.withCommand w }
  | .target => s.lockedWrite p c a fun x => { x with command := x.command.withTarget w }
  | .operand => s.lockedWrite p c a fun x => { x with command := x.command.withOperand w }
  | .param => s.lockedWrite p c a fun x => { x with command := x.command.withParam w }
  | .control =>
    strobe (w.getLsbD 2) (fun s => s.abortStrobe (ctxOf p c))
      (strobe (w.getLsbD 1) (fun s => s.goStrobe (ctxOf p c))
        (strobe (w.getLsbD 0) (fun s => s.ackStrobe (ctxOf p c)) s))
  | .data => s.lockedWrite p c a (Context.dataWritten w)
  | .dataIndex => s.lockedWrite p c a fun x => { x with index := (w.extractLsb' 0 4).toFin }
  | .state | .resultCode | .resultValue | .resultAux | .unimplemented => s

/-- A word written whole at address `a` of port `p`'s window, in one step (R157, R160, R169). -/
def State.writeWord (s : State) (p : Port) (a : WindowAddr) (w : Word) : State :=
  match registerAt a with
  | .portControl =>
    strobe (w.getLsbD 2) (fun s => s.portResetAction p)
      (strobe (w.getLsbD 1) (fun s => s.detachAction p) (strobe (w.getLsbD 0) (fun s => s.attachAction p) s))
  | .eventFlags k =>
    if k = 0 then strobe (w.getLsbD 5) (fun s => s.clearWindowError p) (strobe (w.getLsbD 4) (fun s => s.clearLeaseLost p) s)
    else if k = 1 then s.clearData p (w.extractLsb' 0 16)
    else s.clearSpace p (w.extractLsb' 0 16)
  | .eventEnables k => s.writeEnables p k w
  | .intConfig => s.writeIntConfig p w
  | .logStatus => strobe (w.getLsbD 8) (fun s => s.clearOverflow p) s
  | .context c r => s.writeCtxRegister p c a w r
  | .ident | .chipStatus | .portStatus | .windowErrorCause | .log | .unimplemented => s

/-! ## Frames (R155, R158, R159) -/

/-- Replace the frame of a port. -/
def State.setFrame (s : State) (p : Port) (f : Frame) : State := s.modPort p fun i => { i with frame := f }

/-- The PI takes a complete word of direction `dir` at address `a` and does `act` with it.

With no frame in progress the word is a frame of its own, whose header names the direction and `a`
(DESIGN CHOICE, log 7, safe). A frame in progress carries words of its own direction at its current address alone, and
the address then moves on: a word of the other direction, such as one on the data input in a read frame, or at another
address, is no word of it, and nothing changes (R155, R158; DESIGN CHOICE, log 9, safe). In the header byte period,
in the rest of a frame cut by a chip reset (R130) and while RESETn is low (R168) there are no words. -/
def State.word (s : State) (p : Port) (dir : Direction) (a : WindowAddr) (act : State → State) : Out :=
  if s.resetHeld then .next s
  else match (s.port p).frame with
    | .none => .next (act s)
    | .inFrame d b =>
      if d = dir ∧ b = a then .next ((act s).setFrame p (.inFrame dir (nextAddr a))) else .next s
    | .header | .cut => .next s

/-- First bit of a read word: the value is latched (R156). -/
def State.latchWord (s : State) (p : Port) (l : ReadLatch) : State := s.modPort p fun i => { i with latch := some l }

/-- Last bit of a read word: the latched value has been sent, and the side effect, if the register has one, is made
(R156, R59): the data index advances from the value it holds now, or the record that was latched leaves the log. -/
def State.sendLatched (s : State) (p : Port) : State :=
  match (s.port p).latch with
  | none => s
  | some l =>
    let s := s.modPort p fun i => { i with latch := none, sent := some l.value }
    match l.source with
    | .data cx => s.modCtx cx fun c => { c with index := c.index + 1 }
    | .log pops => if pops then s.modPort p fun i => { i with log := i.log.tail } else s
    | .register _ => s

/-- The register that a read word at address `a` shows; that of LOG takes a record with it if there is one (R59,
R156). -/
def State.readSource (s : State) (p : Port) (a : WindowAddr) : LatchedSource :=
  match registerAt a with
  | .log => .log (!(s.port p).log.isEmpty)
  | .context c .data => .data (ctxOf p c)
  | _ => .register a

/-- What the first bit of a read word at address `a` latches (R156). -/
def State.readLatch (s : State) (p : Port) (a : WindowAddr) : ReadLatch :=
  { source := s.readSource p a, value := s.windowRead p a }

/-- Two latched words are reads of the same register. -/
def LatchedSource.sameRegister : LatchedSource → LatchedSource → Bool
  | .log _, .log _ => true
  | .data a, .data b => decide (a = b)
  | .register a, .register b => decide (a = b)
  | _, _ => false

/-- The word of this register is between its first and its last bit. -/
def PortInterface.sending (i : PortInterface) (l : LatchedSource) : Bool :=
  match i.latch with
  | none => false
  | some m => m.source.sameRegister l

/-- The step or steps of a read word at address `a` (R156): no other word is between its first and its last bit, and
the first bit is one of a read frame at that address. Only the last bit completes the word and moves the frame's address
(R158). -/
def State.readWord (s : State) (p : Port) (a : WindowAddr) (part : ReadPart) : Out :=
  match part with
  | .firstBit =>
    if s.resetHeld = false ∧ (s.port p).frame = .inFrame .read a ∧ (s.port p).latch = none then
      .next (s.latchWord p (s.readLatch p a))
    else .next s
  | .lastBit =>
    if (s.port p).frame = .inFrame .read a ∧ (s.port p).sending (s.readSource p a) = true then
      s.word p .read a fun s => s.sendLatched p
    else .next s
  | .whole =>
    if (s.port p).latch = none then s.word p .read a fun s => (s.latchWord p (s.readLatch p a)).sendLatched p
    else .next s

/-! ## The data output (R168) -/

/-- The level at which the data output of a read frame stands while no word is between its bits: 0, as in the header byte
period, up to the first word, and from then on the last bit of the word last sent. R168 changes the output only to send a
bit (DEDUCED, log 8, unsafe if the output moves between two words). -/
def PortInterface.heldLevel (i : PortInterface) : Bool :=
  match i.sent with
  | none => false
  | some w => w.getLsbD 0

/-- What the data output of port `p` shows: driven only while its chip select and RESETn let it be; 0 in the header byte
period and throughout a write frame; in a read frame the word that was latched at its first bit, and between words the
level held (R168). In the rest of a cut frame the spec does not say: a free value (DESIGN CHOICE, log 8, safe but for a
claim that two such moments show the same). -/
def State.dataOutput (s : State) (p : Port) : Config.DataOutput :=
  if s.resetHeld then .highImpedance
  else match (s.port p).frame with
    | .none => .highImpedance
    | .header | .inFrame .write _ => .level false
    | .inFrame .read _ =>
      match (s.port p).latch with
      | some l => .sending l.value
      | none => .level (s.port p).heldLevel
    | .cut => Config.outputOfCutFrame p

end Sys2Proof.Machine
end

