-- ==== Sys2Proof/Machine/Arrivals.lean ====
section
/-! DEFINITION. The meanings of the messages that arrive at a PI: eviction orders, acknowledgements, revocation
records, and CU's settings and clearings (R126, R139, R58, R75, R82). A message that is not in transit does not
arrive, and nothing changes (DESIGN CHOICE, log 9, safe). -/

namespace Sys2Proof.Machine

/-- The PI takes an eviction order from SU (R126). -/
def execEvictionOrder (p : Port) (s : State) : Out :=
  s.live <|
    match (s.link p).evictions with
    | 0 => .next s
    | n + 1 => .next ((s.modLink p fun k => { k with evictions := n }).detachAction p)

/-- The PI adds a unit to the acknowledgement set and tests the completion condition (R139, R140). -/
def State.acknowledged (s : State) (p : Port) (u : UnitId) : State :=
  (s.modPort p fun i => match i.state with
    | .withdrawing acks mark => { i with state := .withdrawing (acks.set u true) mark }
    | _ => i).testWithdrawal p

/-- The PI takes a unit's acknowledgement (R139); that of LU comes behind the records LU sent before it (R54). -/
def execWithdrawalAck (p : Port) (u : UnitId) (s : State) : Out :=
  s.live <|
    match u with
    | .mu => if (s.link p).muAck then .next ((s.modLink p fun k => { k with muAck := false }).acknowledged p u)
        else .next s
    | .lu =>
      match (s.link p).fromLu with
      | .acknowledge :: rest => .next ((s.modLink p fun k => { k with fromLu := rest }).acknowledged p u)
      | _ => .next s
    | .cu => if (s.link p).cuAck then .next ((s.modLink p fun k => { k with cuAck := false }).acknowledged p u)
        else .next s
    | .su => if (s.link p).suAck then .next ((s.modLink p fun k => { k with suAck := false }).acknowledged p u)
        else .next s

/-- The PI takes the next revocation record from LU (R58, R54). -/
def execRevocationRecordArrival (p : Port) (s : State) : Out :=
  s.live <|
    match (s.link p).fromLu with
    | .record r :: rest =>
      .next ((s.modLink p fun k => { k with fromLu := rest }).modPort p fun i => i.takeRecord r)
    | _ => .next s

/-- The first message about channel `n` in the order CU sent them (R75). -/
def nextAbout (n : ChanNum) (ms : List CuMessage) : Option CuMessage := ms.find? fun m => decide (m.channel = n)

/-- The messages without that first one. -/
def withoutNextAbout (n : ChanNum) : List CuMessage → List CuMessage
  | [] => []
  | m :: ms => if m.channel = n then ms else m :: withoutNextAbout n ms

/-- The PI takes CU's next message about channel `n`, if it is of the given sort (R75, R82). -/
def State.takeCuMessage (s : State) (p : Port) (n : ChanNum) (set : Bool) : Out :=
  match nextAbout n (s.link p).fromCu with
  | some m =>
    if m.set = set then
      .next ((s.modLink p fun k => { k with fromCu := withoutNextAbout n k.fromCu }).modPort p fun i => i.takeCu m)
    else .next s
  | none => .next s

/-- A DATA or SPACE setting arrives (R75). -/
def execFlagSettingArrival (p : Port) (n : ChanNum) (s : State) : Out := s.live (s.takeCuMessage p n true)

/-- A DATA or SPACE clearing arrives (R82). -/
def execFlagClearingArrival (p : Port) (n : ChanNum) (s : State) : Out := s.live (s.takeCuMessage p n false)

end Sys2Proof.Machine
end

