-- ==== Sys2Proof/Machine/LockUnit.lean ====
section
/-! DEFINITION. The lock unit: waiter queues, the grant, revocation, the lock commands, and its tick step (chapters
02 and 03). -/

namespace Sys2Proof.Machine

/-! ## Waiter queues (R26, R27) -/

/-- A new entry joins: URGENT behind the last URGENT entry, NORMAL at the tail (R27). -/
def joinQueue (q : List Waiter) (w : Waiter) : List Waiter :=
  match w.priority with
  | .urgent => (q.takeWhile fun x => x.priority == .urgent) ++ w :: (q.dropWhile fun x => x.priority == .urgent)
  | .normal => q ++ [w]

/-- The queue without the entries of context `cx` (R27). -/
def leaveQueue (cx : CtxNum) (q : List Waiter) : List Waiter := q.filter fun w => decide (w.ctx ≠ cx)

/-- The waiter count as AUX reports it (R27). -/
def Lock.waiterCount (l : Lock) : BitVec 16 := auxOf l.queue.length

/-- A generation as VALUE reports it. -/
def Lock.generationWord (l : Lock) : Word := l.generation.setWidth 32

/-! ## The grant (R30) -/

/-- The lock record after a grant to `cx` (R30, steps 2 to 5). -/
def Lock.grantedTo (l : Lock) (cx : CtxNum) : Lock :=
  { l with holder := some cx, generation := l.generation + 1, lease := l.period, revoked := false }

/-- A grant of lock `l` to `cx`, whose entry, if it had one, has left the queue (R30). -/
def State.grantLock (s : State) (l : LockNum) (cx : CtxNum) : State :=
  let g := (s.lock l).grantedTo cx
  (s.modLock l fun _ => g).complete cx
    { code := .ok, value := g.generationWord, aux := g.waiterCount, priorRevoked := (s.lock l).revoked }

/-- A grant to the head waiter, if there is one (R30, R38, R50). -/
def State.grantHead (s : State) (l : LockNum) : State :=
  match (s.lock l).queue with
  | [] => s
  | w :: rest => (s.modLock l fun x => { x with queue := rest }).grantLock l w.ctx

/-! ## Revocation (R50) -/

/-- The lock without its holder and lease; the revoked mark is left to the caller (R25, R38, R50). -/
def Lock.freed (l : Lock) : Lock := { l with holder := none, lease := 0 }

/-- Revocation of a HELD lock (R50): the record goes to the holder's port and the lock to its head waiter. -/
def State.revoke (s : State) (l : LockNum) (cause : RevocationCause) (epoch : BitVec 16) : State :=
  match (s.lock l).holder with
  | none => s
  | some h =>
    let r : RevocationRecord := { lock := l, generation := (s.lock l).generation, cause := cause, epoch := epoch }
    ((s.modLock l fun x => { x.freed with revoked := true }).sendLu (portOf h) (.record r)).grantHead l

/-! ## ACQUIRE (R32 to R35) -/

/-- The context parks in the lock's queue and becomes WAITING (R35). -/
def State.parkWaiter (s : State) (l : LockNum) (cx : CtxNum) : State :=
  let r := (s.ctx cx).command
  let w : Waiter := { ctx := cx, priority := r.priority, ticks := r.timeout }
  (s.modLock l fun x => { x with queue := joinQueue x.queue w }).modCtx cx fun c => { c with state := .waiting .lu }

/-- An ACQUIRE that has passed its checks (R34). -/
def State.acquireLock (s : State) (l : LockNum) (cx : CtxNum) : State :=
  let k := s.lock l
  match k.holder with
  | none => s.grantLock l cx
  | some h =>
    if h = cx then s.complete cx { code := .self, value := k.generationWord, aux := k.waiterCount }
    else match (s.ctx cx).command.mode with
      | .nowait => s.complete cx { code := .busy, value := ctxWord h, aux := k.waiterCount }
      | .wait => s.parkWaiter l cx

/-- ACQUIRE (R32 to R35). -/
def execAcquire (cx : CtxNum) (s : State) : Out :=
  s.take .acquire cx fun s =>
    let r := (s.ctx cx).command
    s.onTarget cx (if r.selectorValid then r.lockNum else none) fun l =>
      if s.keyOpens cx (s.lock l).key then .next (s.acquireLock l cx) else s.failed cx .protected_

/-! ## RELEASE and RENEW (R36 to R39, R52) -/

/-- The target and generation of a RELEASE or RENEW, if in range (R36). -/
def holderTarget (r : CommandRecord) : Option LockNum :=
  if decide (r.operand.toNat ≤ 255) then r.lockNum else none

/-- The named generation counts as the lock's current one; that of a FREE lock with its mark set does not (R36,
R52). -/
def Lock.isCurrent (l : Lock) (named : Word) : Bool :=
  decide (named = l.generationWord) && !(l.holder.isNone && l.revoked)

/-- The two tests of R36 for context `cx` naming a generation: success, LATE or NOT_HOLDER. -/
def State.judgeHolder (s : State) (l : LockNum) (cx : CtxNum) (named : Word) (ok : Out) : Out :=
  let k := s.lock l
  if k.isCurrent named then
    if k.holder = some cx then ok
    else .next (s.complete cx { code := .notHolder, value := k.generationWord, aux := k.waiterCount })
  else .next (s.complete cx { code := .late, value := k.generationWord, aux := k.waiterCount })

/-- The lock after its holder's successful RELEASE: FREE, or handed to the head waiter (R38). -/
def State.handOff (s : State) (l : LockNum) : State :=
  match (s.lock l).queue with
  | [] => s.modLock l Lock.freed
  | _ => s.grantHead l

/-- RELEASE (R36 to R38). -/
def execRelease (cx : CtxNum) (s : State) : Out :=
  s.take .release cx fun s =>
    let r := (s.ctx cx).command
    s.onTarget cx (holderTarget r) fun l =>
      s.judgeHolder l cx r.operand <|
        let t := s.handOff l
        .next (t.complete cx { code := .ok, value := r.operand, aux := (t.lock l).waiterCount })

/-- RENEW (R39). -/
def execRenew (cx : CtxNum) (s : State) : Out :=
  s.take .renew cx fun s =>
    let r := (s.ctx cx).command
    s.onTarget cx (holderTarget r) fun l =>
      s.judgeHolder l cx r.operand <|
        let k := s.lock l
        .next ((s.modLock l fun x => { x with lease := x.period }).complete cx
          { code := .ok, value := k.period.setWidth 32, aux := k.waiterCount })

/-! ## INSPECT LOCK and the manager's lock commands (R40 to R42) -/

/-- INSPECT LOCK (R40). -/
def execInspectLock (cx : CtxNum) (s : State) : Out :=
  s.take .inspectLock cx fun s =>
    s.onTarget cx (s.ctx cx).command.lockNum fun l =>
      .next (s.complete cx { code := .ok, value := (s.lock l).inspectWord, aux := (s.lock l).waiterCount })

/-- SET LOCK (R41). -/
def execSetLock (cx : CtxNum) (s : State) : Out :=
  s.take .setLock cx fun s =>
    let r := (s.ctx cx).command
    s.asManager cx <| s.onTarget cx r.lockNum fun l =>
      .next ((s.modLock l fun x => { x with key := lockKeyField r.operand, period := leasePeriodField r.operand }).complete
        cx { code := .ok })

/-- What LU does within the step of a FORCE RELEASE: the checks, the read of the epoch counter, and the revocation of a
HELD lock (R42, R124). -/
def State.forceReleaseLock (s : State) (cx : CtxNum) : Out :=
  s.asManager cx <| s.onTarget cx (s.ctx cx).command.lockNum fun l =>
    let k := s.lock l
    match k.holder with
    | none => .next (s.complete cx { code := .ok, value := k.generationWord, aux := 0 })
    | some _ => .next ((s.revoke l .forced s.epoch).complete cx { code := .ok, value := k.generationWord, aux := 1 })

/-- FORCE RELEASE (R42): the whole step with no event between the take and the read of the epoch counter, or its
beginning, or its end. A period end taken by SU between the two gives the record the epoch of a tick that LU has not
taken (R124; DEDUCED, log 13, safe). -/
def execForceRelease (part : ForcedStep) (s : State) : Out :=
  match part with
  | .whole cx => s.take .forceRelease cx fun s => s.forceReleaseLock cx
  | .starts cx => s.take .forceRelease cx fun s => .next (s.setForcing (some cx))
  | .ends cx =>
    s.live <|
      if s.forcing = some cx ∧ (s.ctx cx).state = .pending .lu ∧
          (s.ctx cx).command.code = Command.forceRelease.code then
        (s.setForcing none).forceReleaseLock cx
      else .next s

/-! ## The tick step (R46 to R48) -/

/-- An entry whose count reaches 0 at this tick (R47). -/
def Waiter.timesOut (w : Waiter) : Bool := decide (w.ticks = 1)

/-- An entry counted once more; 0 is no limit (R47). -/
def Waiter.counted (w : Waiter) : Waiter := { w with ticks := if w.ticks = 0 then 0 else w.ticks - 1 }

/-- A queue after the first part of a tick step (R47). -/
def countQueue (q : List Waiter) : List Waiter := (q.filter fun w => !w.timesOut).map Waiter.counted

/-- The contexts whose waits end at this tick, in queue and lock order (R47). -/
def State.lockTimeouts (s : State) : List CtxNum :=
  allLocks.flatMap fun l => ((s.lock l).queue.filter Waiter.timesOut).map Waiter.ctx

/-- Complete each of these contexts with TIMEOUT (R47, R76). -/
def State.timeOutAll (s : State) (cs : List CtxNum) : State :=
  cs.foldl (fun s cx => s.complete cx { code := .timeout }) s

/-- First part of a tick step: wait timeouts (R47). -/
def State.countLockWaits (s : State) : State :=
  (s.mapLocks fun k => { k with queue := countQueue k.queue }).timeOutAll s.lockTimeouts

/-- The lock's lease is counted at a tick (R48). -/
def Lock.leaseRuns (l : Lock) : Bool := l.holder.isSome && decide (l.period ≠ 0) && decide (l.lease ≠ 0)

/-- The visit of one lock in the second part of a tick step (R48). -/
def State.visitLease (s : State) (epoch : BitVec 16) (l : LockNum) : State :=
  let k := s.lock l
  if k.leaseRuns then
    let t := s.modLock l fun x => { x with lease := x.lease - 1 }
    if k.lease = 1 then t.revoke l .expired epoch else t
  else s

/-- The visits of the locks numbered from `lo` to below `hi`, in increasing number (R48). -/
def State.visitLeases (s : State) (epoch : BitVec 16) (lo hi : Nat) : State :=
  (allLocks.filter fun l => decide (lo ≤ l.val ∧ l.val < hi)).foldl (fun s l => s.visitLease epoch l) s

/-- The tick step carried on until the locks below `hi` have been visited, from where it stands (R46). -/
def State.luTickUpTo (s : State) (t : LuTick) (hi : Nat) : State :=
  match t.point with
  | .leases next => s.visitLeases t.epoch next hi
  | _ => s.countLockWaits.visitLeases t.epoch 0 hi

/-- The oldest tick event delivered to LU, while LU is within no step but that event's own (R15, R121). -/
def State.onLuTick (s : State) (k : LuTick → List LuTick → Out) : Out :=
  s.live <|
    match s.luTicks, s.forcing with
    | t :: rest, none => k t rest
    | _, _ => .next s

/-- LU_TICK: LU takes its oldest tick event, or ends the step of it that is under way (R46). -/
def execLuTick (s : State) : Out :=
  s.onLuTick fun t rest => .next ((s.luTickUpTo t 64).setLuTicks rest)

/-- A context stands in a lock's queue with a count that reaches 0 at the next tick. -/
def State.lockTimeoutDue (s : State) (cx : CtxNum) : Bool := s.lockTimeouts.contains cx

/-- LOCK_WAIT_TIMEOUT: within the step of a standing tick event, the entry of `cx` leaves its queue and the context
completes with TIMEOUT (R47). LU_TICK ends that step, and LU takes nothing else before (DEDUCED
from R15 and R46, log 5, safe). -/
def execLockWaitTimeout (cx : CtxNum) (s : State) : Out :=
  s.onLuTick fun t rest =>
    match t.point with
    | .leases _ => .next s
    | _ =>
      if s.lockTimeoutDue cx then
        .next (((s.mapLocks fun k => { k with queue := leaveQueue cx k.queue }).setLuTicks
          ({ t with point := .waits } :: rest)).complete cx { code := .timeout })
      else .next s

/-- The lock's lease reaches 0 at the visit (R48). -/
def Lock.expires (l : Lock) : Bool := l.leaseRuns && decide (l.lease = 1)

/-- The second part of the step has gone past lock `l`. -/
def TickPoint.passed (p : TickPoint) (l : LockNum) : Bool :=
  match p with
  | .leases next => decide (l.val < next)
  | _ => false

/-- LEASE_EXPIRY: within the step of a standing tick event, lock `l` is revoked with cause EXPIRED (R48). The first
part of the step and the visits of the locks before `l` come first, as R46 orders them (DEDUCED, log 5, safe). -/
def execLeaseExpiry (l : LockNum) (s : State) : Out :=
  s.onLuTick fun t rest =>
    if t.point.passed l then .next s
    else
      let u := s.luTickUpTo t l.val
      if (u.lock l).expires then
        .next ((u.visitLease t.epoch l).setLuTicks ({ t with point := .leases (l.val + 1) } :: rest))
      else .next s

/-! ## Notices at LU (R43, R44) -/

/-- LOCK_WAIT_ABORT: LU takes the abort notice of a lock waiter (R43). -/
def execLockWaitAbort (cx : CtxNum) (s : State) : Out :=
  s.live <|
    if (s.ctx cx).state = .waiting .lu ∧ (s.ctx cx).marker = true ∧ s.midStep .lu = false then
      .next ((s.mapLocks fun k => { k with queue := leaveQueue cx k.queue }).complete cx { code := .aborted })
    else .next s

/-- The queue without the entries of port `p` (R44). -/
def leaveQueueOfPort (p : Port) (q : List Waiter) : List Waiter := q.filter fun w => decide (portOf w.ctx ≠ p)

/-- A context of port `p` holds the lock. -/
def Lock.heldByPort (l : Lock) (p : Port) : Bool :=
  match l.holder with
  | some h => decide (portOf h = p)
  | none => false

/-- Revoke, in increasing lock number, every lock held by a context of `p` (R44, step 3). -/
def State.revokePort (s : State) (p : Port) : State :=
  allLocks.foldl (fun s l => if (s.lock l).heldByPort p then s.revoke l .withdrawn s.epoch else s) s

/-- LU's part in the withdrawal of port `p` (R44). -/
def State.luWithdraw (s : State) (p : Port) : State :=
  let s := s.cancelAll p (.pending .lu)
  let s := s.mapLocks fun k => { k with queue := leaveQueueOfPort p k.queue }
  let s := s.cancelAll p (.waiting .lu)
  (s.revokePort p).sendLu p .acknowledge

end Sys2Proof.Machine
end

