-- ==== Sys2Proof/Machine/ChannelUnit.lean ====
section
/-! DEFINITION. The channel unit: acceptance, delivery, the channel commands, and its tick step (chapter 04). -/

namespace Sys2Proof.Machine

/-! ## Shared operations -/

/-- The binding check: the port is a sender of the bound channel (R68). -/
def Binding.sends (b : Binding) (p : Port) : Bool := b.senders.getLsbD p.val

/-- The binding check: the port is the receiver of the bound channel (R71). -/
def Binding.receives (b : Binding) (p : Port) : Bool := decide (b.receiver = p)

/-- The checks that SEND and RECEIVE share after their range check: existence, binding in the role, key (R68, R71). -/
def State.onChannel (s : State) (cx : CtxNum) (n : ChanNum) (role : Binding → Port → Bool) (k : Binding → Out) : Out :=
  match (s.chan n).binding with
  | none => s.failed cx .missing
  | some b =>
    if role b (portOf cx) then
      if s.keyOpens cx b.key then k b else s.failed cx .protected_
    else s.failed cx .wrongPort

/-- A slot of the channel is EMPTY (R64). -/
def Channel.hasRoom (c : Channel) : Bool := decide (c.slots.length < Config.channelSlots)

/-- The message that context `cx` offers, numbered as the counter advances (R66, R68). -/
def State.messageOf (s : State) (cx : CtxNum) (c : Channel) : Message :=
  { words := bufferPrefix (s.ctx cx).buffer (s.ctx cx).command.count.toNat, sender := cx, seq := c.counter + 1 }

/-- The channel with the message accepted as the younger FULL slot (R66, R68). -/
def Channel.accepted (c : Channel) (m : Message) : Channel :=
  { c with slots := c.slots ++ [m], counter := m.seq }

/-- What a sender is answered when its message is accepted (R68, R73). -/
def sendAnswer (m : Message) : Answer := { code := .ok, value := m.seq.setWidth 32, aux := auxOf m.words.length }

/-- What a receiver is answered when it gets a message (R69, R72). -/
def receiveAnswer (m : Message) : Answer := { code := .ok, value := m.seq.setWidth 32, aux := receiveAux m }

/-- The message is copied into the receiving context's buffer, and the context completes (R69, R72). -/
def State.deliver (s : State) (cx : CtxNum) (m : Message) : State :=
  (s.modCtx cx fun c => c.withWords m.words).complete cx (receiveAnswer m)

/-- A channel's flag set at one port: the setting is sent (R75). -/
def State.setFlagAt (s : State) (p : Port) (n : ChanNum) (kind : FlagKind) : State :=
  s.sendCu p { channel := n, kind := kind, set := true }

/-- A context parks in one of a channel's queues and becomes WAITING (R70, R74). -/
def State.parkAtChannel (s : State) (n : ChanNum) (cx : CtxNum) (join : WaitEntry → Channel → Channel) : State :=
  let e : WaitEntry := { ctx := cx, ticks := (s.ctx cx).command.timeout }
  (s.modChan n (join e)).modCtx cx fun c => { c with state := .waiting .cu }

/-! ## SEND (R68 to R70) -/

/-- The message is accepted: handed over to the head receiver at once, or kept in its slot with DATA set at the
receiver port (R68, R69). -/
def State.acceptSend (s : State) (n : ChanNum) (b : Binding) (cx : CtxNum) : State :=
  let c := s.chan n
  let m := s.messageOf cx c
  match c.receivers with
  | [] => ((s.modChan n fun c => c.accepted m).setFlagAt b.receiver n .data).complete cx (sendAnswer m)
  | r :: rest =>
    ((s.modChan n fun c => { c with counter := m.seq, receivers := rest }).deliver r.ctx m).complete cx (sendAnswer m)

/-- SEND (R68 to R70). -/
def execSend (cx : CtxNum) (s : State) : Out :=
  s.take .send cx fun s =>
    let r := (s.ctx cx).command
    s.onTarget cx (if r.countWithin Config.bufferWords && r.selectorValid then r.chanNum else none) fun n =>
      s.onChannel cx n Binding.sends fun b =>
        let c := s.chan n
        if c.hasRoom then .next (s.acceptSend n b cx)
        else match r.mode with
          | .nowait =>
            .next (s.complete cx { code := .full, value := c.counter.setWidth 32, aux := auxOf c.senders.length })
          | .wait => .next (s.parkAtChannel n cx fun e c => { c with senders := c.senders ++ [e] })

/-! ## RECEIVE (R71 to R74) -/

/-- What follows the freeing of a slot: a refill from the head waiting sender with DATA at the receiver port, or
SPACE at every sender port (R73). -/
def State.refill (s : State) (n : ChanNum) (b : Binding) : State :=
  let c := s.chan n
  match c.senders with
  | [] => s.sendCuAll b.senders { channel := n, kind := .space, set := true }
  | e :: rest =>
    let m := s.messageOf e.ctx c
    ((s.modChan n fun c => { c.accepted m with senders := rest }).setFlagAt b.receiver n .data).complete e.ctx
      (sendAnswer m)

/-- RECEIVE (R71 to R74). -/
def execReceive (cx : CtxNum) (s : State) : Out :=
  s.take .receive cx fun s =>
    let r := (s.ctx cx).command
    s.onTarget cx (if r.selectorValid then r.chanNum else none) fun n =>
      s.onChannel cx n Binding.receives fun b =>
        let c := s.chan n
        match c.slots with
        | m :: rest => .next (((s.modChan n fun c => { c with slots := rest }).deliver cx m).refill n b)
        | [] => match r.mode with
          | .nowait => .next (s.complete cx { code := .empty, value := c.counter.setWidth 32 })
          | .wait => .next (s.parkAtChannel n cx fun e c => { c with receivers := c.receivers ++ [e] })

/-! ## INSPECT, BIND and UNBIND (R79 to R82) -/

/-- The binding check of INSPECT CHANNEL: the manager port, a sender, or the receiver (R79, R118). -/
def State.mayInspect (s : State) (cx : CtxNum) (n : ChanNum) : Bool :=
  s.isManager cx ||
    match (s.chan n).binding with
    | none => false
    | some b => b.sends (portOf cx) || b.receives (portOf cx)

/-- INSPECT CHANNEL (R79). -/
def execInspectChannel (cx : CtxNum) (s : State) : Out :=
  s.take .inspectChannel cx fun s =>
    s.onTarget cx (s.ctx cx).command.chanNum fun n =>
      if s.mayInspect cx n then
        .next (s.complete cx { code := .ok, value := (s.chan n).inspectWord, aux := (s.chan n).counter })
      else s.failed cx .wrongPort

/-- The binding that a BIND CHANNEL's operand describes (R166). -/
def bindingField (w : Word) : Binding :=
  { senders := sendersField w, receiver := receiverField w, key := channelKeyField w }

/-- A sender set that BIND CHANNEL takes: not empty, and without the receiver (R80). -/
def Binding.valid (b : Binding) : Bool := decide (b.senders ≠ 0) && !b.senders.getLsbD b.receiver.val

/-- BIND CHANNEL (R80). -/
def execBindChannel (cx : CtxNum) (s : State) : Out :=
  s.take .bindChannel cx fun s =>
    let r := (s.ctx cx).command
    let b := bindingField r.operand
    s.asManager cx <| s.onTarget cx (if b.valid then r.chanNum else none) fun n =>
      match (s.chan n).binding with
      | some _ => s.failed cx .inUse
      | none =>
        let bound : Channel := { binding := some b, counter := 0, slots := [], senders := [], receivers := [] }
        .next (((s.modChan n fun _ => bound).sendCuAll b.senders { channel := n, kind := .space, set := true }).complete
          cx { code := .ok })

/-- The channel holds no message and no waiter (R81). -/
def Channel.quiet (c : Channel) : Bool := c.slots.isEmpty && c.senders.isEmpty && c.receivers.isEmpty

/-- The channel out of use: empty and unbound, with its counter kept (R81, R82). -/
def Channel.unbound (c : Channel) : Channel :=
  { binding := none, counter := c.counter, slots := [], senders := [], receivers := [] }

/-- Complete each of these contexts with CANCELLED (R82). -/
def State.cancelEntries (s : State) (es : List WaitEntry) : State :=
  es.foldl (fun s e => s.complete e.ctx { code := .cancelled }) s

/-- A forced unbind: messages discarded, waiters cancelled, flags cleared at the bound ports (R82). -/
def State.forceUnbind (s : State) (n : ChanNum) (b : Binding) : State :=
  let c := s.chan n
  let s := (s.modChan n Channel.unbound).cancelEntries (c.senders ++ c.receivers)
  (s.sendCu b.receiver { channel := n, kind := .data, set := false }).sendCuAll b.senders
    { channel := n, kind := .space, set := false }

/-- UNBIND CHANNEL (R81, R82). -/
def execUnbindChannel (cx : CtxNum) (s : State) : Out :=
  s.take .unbindChannel cx fun s =>
    let r := (s.ctx cx).command
    s.asManager cx <| s.onTarget cx r.chanNum fun n =>
      let c := s.chan n
      match c.binding with
      | none => s.failed cx .missing
      | some b =>
        if c.quiet then .next ((s.modChan n Channel.unbound).complete cx { code := .ok })
        else if forceField r.operand then
          .next ((s.forceUnbind n b).complete cx { code := .ok, aux := auxOf c.slots.length })
        else
          .next (s.complete cx { code := .inUse, value := BitVec.ofNat 32 c.slots.length,
                                 aux := auxOf (c.senders.length + c.receivers.length) })

/-! ## The tick step (R76) -/

/-- An entry whose count reaches 0 at this tick (R76). -/
def WaitEntry.timesOut (e : WaitEntry) : Bool := decide (e.ticks = 1)

/-- An entry counted once more; 0 is no limit (R76). -/
def WaitEntry.counted (e : WaitEntry) : WaitEntry := { e with ticks := if e.ticks = 0 then 0 else e.ticks - 1 }

/-- A wait queue after a tick step (R76). -/
def countEntries (q : List WaitEntry) : List WaitEntry := (q.filter fun e => !e.timesOut).map WaitEntry.counted

/-- The contexts whose channel waits end at this tick (R76). -/
def State.channelTimeouts (s : State) : List CtxNum :=
  allChans.flatMap fun n =>
    (((s.chan n).senders ++ (s.chan n).receivers).filter WaitEntry.timesOut).map WaitEntry.ctx

/-- Every wait entry counted, and the contexts whose waits end completed with TIMEOUT (R76). -/
def State.countChannelWaits (s : State) : State :=
  (s.mapChans fun c => { c with senders := countEntries c.senders, receivers := countEntries c.receivers }).timeOutAll
    s.channelTimeouts

/-- CU_TICK: CU takes its oldest tick event, or ends the step of it that is under way (R76). -/
def execCuTick (s : State) : Out :=
  s.live <|
    match s.cuTicks with
    | 0 => .next s
    | k + 1 => .next (s.countChannelWaits.setCuTicks k false)

/-- The queue without the entries of `cx` (R65). -/
def leaveEntries (cx : CtxNum) (q : List WaitEntry) : List WaitEntry := q.filter fun e => decide (e.ctx ≠ cx)

/-- Take the entry of `cx` out of whichever channel queue it stands in (R65). -/
def State.leaveChannels (s : State) (cx : CtxNum) : State :=
  s.mapChans fun c => { c with senders := leaveEntries cx c.senders, receivers := leaveEntries cx c.receivers }

/-- CHANNEL_WAIT_TIMEOUT: within the step of a standing tick event, the entry of `cx` leaves its queue and the
context completes with TIMEOUT (R76). CU_TICK ends that step, and CU takes nothing else before
(DEDUCED from R15 and R76, log 5, safe). -/
def execChannelWaitTimeout (cx : CtxNum) (s : State) : Out :=
  s.live <|
    if s.cuTicks ≠ 0 ∧ s.channelTimeouts.contains cx = true then
      .next (((s.leaveChannels cx).setCuTicks s.cuTicks true).complete cx { code := .timeout })
    else .next s

/-! ## Notices at CU (R78, R84) -/

/-- CHANNEL_WAIT_ABORT: CU takes the abort notice of a channel waiter (R78). -/
def execChannelWaitAbort (cx : CtxNum) (s : State) : Out :=
  s.live <|
    if (s.ctx cx).state = .waiting .cu ∧ (s.ctx cx).marker = true ∧ s.midStep .cu = false then
      .next ((s.leaveChannels cx).complete cx { code := .aborted })
    else .next s

/-- The queue without the entries of port `p` (R84). -/
def leaveEntriesOfPort (p : Port) (q : List WaitEntry) : List WaitEntry := q.filter fun e => decide (portOf e.ctx ≠ p)

/-- CU's part in the withdrawal of port `p`: pending requests and waiters cancelled, then the acknowledgement (R84). -/
def State.cuWithdraw (s : State) (p : Port) : State :=
  let s := s.cancelAll p (.pending .cu)
  let s := s.mapChans fun c =>
    { c with senders := leaveEntriesOfPort p c.senders, receivers := leaveEntriesOfPort p c.receivers }
  let s := s.cancelAll p (.waiting .cu)
  s.modLink p fun k => { k with cuAck := true }

end Sys2Proof.Machine
end

