-- ==== Sys2Proof/Machine/MemoryUnit.lean ====
section
/-! DEFINITION. The commands of MU: data commands, fills and segment commands (chapter 05). -/

namespace Sys2Proof.Machine

/-! ## Checks of the data commands (R88) -/

/-- The rights a data command may need (R88, R113). -/
inductive Right where
  | read | write | atomic
deriving DecidableEq, Repr

/-- The segment grants the right. -/
def Rights.grants (r : Rights) : Right → Bool
  | .read => r.read
  | .write => r.write
  | .atomic => r.atomic

/-- Every word of the segment lies in the memory (R87). -/
def Segment.inMemory (g : Segment) : Bool := decide (g.base.toNat + g.length.toNat ≤ Config.memoryWords)

/-- The checks of a data command in their order: range (with `countOk` for the count), existence of the offset and of
the `need` words from it, key and right (R88). A passing command goes on with its segment number, the entry and the
physical address of its first word. An entry that reaches past the memory, which R87 rules out, faults. -/
def State.onSegment (s : State) (cx : CtxNum) (countOk : Bool) (need : Nat) (right : Right)
    (k : SegNum → Segment → Nat → Out) : Out :=
  let r := (s.ctx cx).command
  s.onTarget cx (if countOk && r.selectorValid then r.segNum else none) fun n =>
    match s.seg n with
    | none => s.failed cx .missing
    | some g =>
      if r.offset.toNat < g.length.toNat ∧ r.offset.toNat + need ≤ g.length.toNat then
        if s.keyOpens cx g.key && g.rights.grants right then
          if g.inMemory then k n g (g.base.toNat + r.offset.toNat) else .fault .noSuchWord
        else s.failed cx .protected_
      else s.failed cx .missing

/-! ## Data commands (R89 to R93) -/

/-- READ (R89). -/
def execRead (cx : CtxNum) (s : State) : Out :=
  s.take .read cx fun s => s.onSegment cx true 1 .read fun _ _ a =>
    .next (s.complete cx { code := .ok, value := s.memory.read a })

/-- WRITE (R89). -/
def execWrite (cx : CtxNum) (s : State) : Out :=
  s.take .write cx fun s => s.onSegment cx true 1 .write fun _ _ a =>
    .next ((s.setMemory (s.memory.write a (s.ctx cx).command.operand)).complete cx { code := .ok })

/-- Words that a group command reaches before the segment's end (R90, R91). -/
def groupLength (r : CommandRecord) (g : Segment) : Nat := min r.count.toNat (g.length.toNat - r.offset.toNat)

/-- The answer of a group command that has done `i` words (R90, R91). -/
def groupAnswer (r : CommandRecord) (i : Nat) : Answer :=
  { code := if i = r.count.toNat then .ok else .missing, aux := auxOf i }

/-- READ GROUP (R90). -/
def execReadGroup (cx : CtxNum) (s : State) : Out :=
  s.take .readGroup cx fun s =>
    let r := (s.ctx cx).command
    s.onSegment cx (r.countWithin Config.bufferWords) 1 .read fun _ g a =>
      let i := groupLength r g
      .next ((s.modCtx cx fun c => c.withWords (s.memory.readRun a i)).complete cx (groupAnswer r i))

/-- WRITE GROUP (R91). -/
def execWriteGroup (cx : CtxNum) (s : State) : Out :=
  s.take .writeGroup cx fun s =>
    let r := (s.ctx cx).command
    s.onSegment cx (r.countWithin Config.bufferWords) 1 .write fun _ g a =>
      let i := groupLength r g
      .next ((s.setMemory (s.memory.writeRun a (bufferPrefix (s.ctx cx).buffer i))).complete cx (groupAnswer r i))

/-- TALLY (R92). -/
def execTally (cx : CtxNum) (s : State) : Out :=
  s.take .tally cx fun s => s.onSegment cx true 1 .atomic fun _ _ a =>
    let old := s.memory.read a
    if old = 0xFFFFFFFF#32 then .next (s.complete cx { code := .ok, value := old, saturated := true })
    else .next ((s.setMemory (s.memory.write a (old + 1))).complete cx { code := .ok, value := old })

/-- SET IF ZERO (R93). -/
def execSetIfZero (cx : CtxNum) (s : State) : Out :=
  s.take .setIfZero cx fun s => s.onSegment cx true 1 .atomic fun _ _ a =>
    let old := s.memory.read a
    if old = 0 then
      .next ((s.setMemory (s.memory.write a (s.ctx cx).command.operand)).complete cx
        { code := .ok, value := old, aux := 1 })
    else .next (s.complete cx { code := .ok, value := old })

/-! ## ZERO FILL (R95 to R98) -/

/-- ZERO FILL: the physical range is fixed and the context becomes ACTIVE with its fill record (R95). -/
def execZeroFill (cx : CtxNum) (s : State) : Out :=
  s.take .zeroFill cx fun s =>
    let r := (s.ctx cx).command
    s.onSegment cx (r.countWithin Config.maxSegment) r.count.toNat .write fun n _ a =>
      let f : Fill := { segment := n, start := a, count := r.count.toNat, zeroed := 0, stop := none }
      .next (s.modCtx cx fun c => { c with state := .active f })

/-- The completion code of a stop reason (R98). -/
def StopReason.code : StopReason → CompletionCode
  | .segmentChanged => .segmentChanged
  | .aborted => .aborted
  | .cancelled => .cancelled

/-- The fill of `cx` ends; MU then sends the acknowledgement it owes to the context's port, if this was the port's
last fill (R98, R104). -/
def State.endFill (s : State) (cx : CtxNum) (r : Answer) : State := (s.complete cx r).muSettle (portOf cx)

/-- One burst, or the end of the fill at its boundary (R96, R98). -/
def State.fillStep (s : State) (cx : CtxNum) (f : Fill) : State :=
  match f.stop with
  | some reason => s.endFill cx { code := reason.code, aux := auxOf f.zeroed }
  | none =>
    let n := min Config.burstWords (f.count - f.zeroed)
    let s := s.setMemory (s.memory.clearRun (f.start + f.zeroed) n)
    if f.zeroed + n = f.count then s.endFill cx { code := .ok, aux := auxOf f.count }
    else s.modCtx cx fun c => { c with state := .active { f with zeroed := f.zeroed + n } }

/-- FILL_BURST: the MU arbiter grants a running fill (R96). A fill past the memory, which R87 and R95 rule out,
faults. -/
def execFillBurst (cx : CtxNum) (s : State) : Out :=
  s.live <|
    match (s.ctx cx).state with
    | .active f =>
      if s.grants .mu = some cx then
        if f.start + f.count ≤ Config.memoryWords then .next ((s.granted .mu cx).fillStep cx f)
        else .fault .noSuchWord
      else .next s
    | _ => .next s

/-! ## Segment commands (R100 to R102) -/

/-- A fill with a stop reason set if it has none (R97). -/
def Fill.stopped (f : Fill) (r : StopReason) : Fill :=
  match f.stop with
  | some _ => f
  | none => { f with stop := some r }

/-- A context whose running fill, if `which` holds of it, gets a stop reason (R97). -/
def Context.stopFill (which : Fill → Bool) (r : StopReason) (c : Context) : Context :=
  match c.state with
  | .active f => if which f then { c with state := .active (f.stopped r) } else c
  | _ => c

/-- The fill names segment `n`. -/
def Fill.names (n : SegNum) (f : Fill) : Bool := decide (f.segment = n)

/-- Running fills of a segment number (R100). -/
def State.fillsOf (s : State) (n : SegNum) : Nat :=
  (allCtxs.filter fun cx => match (s.ctx cx).state with
    | .active f => f.names n
    | _ => false).length

/-- The entry replaced, and its running fills stopped with SEGMENT_CHANGED (R97, R100, R101). -/
def State.changeSegment (s : State) (n : SegNum) (e : Option Segment) : State :=
  (s.setSeg n e).mapCtxs fun _ c => c.stopFill (Fill.names n) .segmentChanged

/-- The segment named, if the fields of a DEFINE SEGMENT are in range (R100). -/
def defineTarget (r : CommandRecord) : Option SegNum :=
  if r.countWithin Config.maxSegment && decide ((baseField r.operand).toNat + r.count.toNat ≤ Config.memoryWords) then
    r.segNum
  else none

/-- DEFINE SEGMENT (R100). -/
def execDefineSegment (cx : CtxNum) (s : State) : Out :=
  s.take .defineSegment cx fun s =>
    let r := (s.ctx cx).command
    s.asManager cx <| s.onTarget cx (defineTarget r) fun n =>
      let e : Segment := { base := baseField r.operand, length := r.count, key := segmentKeyField r.operand,
                           rights := rightsField r.operand }
      .next ((s.changeSegment n (some e)).complete cx { code := .ok, aux := auxOf (s.fillsOf n) })

/-- CLEAR SEGMENT (R101). -/
def execClearSegment (cx : CtxNum) (s : State) : Out :=
  s.take .clearSegment cx fun s =>
    s.asManager cx <| s.onTarget cx (s.ctx cx).command.segNum fun n =>
      .next ((s.changeSegment n none).complete cx
        { code := .ok, value := if (s.seg n).isSome then 1 else 0, aux := auxOf (s.fillsOf n) })

/-- INSPECT SEGMENT (R102). -/
def execInspectSegment (cx : CtxNum) (s : State) : Out :=
  s.take .inspectSegment cx fun s =>
    s.onTarget cx (s.ctx cx).command.segNum fun n =>
      .next (s.complete cx { code := .ok, value := segmentInspectWord (s.seg n) (s.isManager cx),
                             aux := segmentInspectAux (s.seg n) (s.isManager cx) })

/-! ## Events of MU (R103, R106) -/

/-- FILL_ABORT: the notice gives the fill the stop reason ABORTED if it has none, and stays standing until the fill
completes (R103, R97). -/
def execFillAbort (cx : CtxNum) (s : State) : Out :=
  s.live <|
    match (s.ctx cx).state, (s.ctx cx).abort with
    | .active _, some n =>
      if n.taken then .next s
      else .next (s.modCtx cx fun c => { c.stopFill (fun _ => true) .aborted with abort := some { n with taken := true } })
    | _, _ => .next s

/-- MEMORY_CLEAR_DONE: every word is 0 and the report goes to SU (R106). -/
def execMemoryClearDone (s : State) : Out :=
  s.live <| if s.clearing then .next { s with memory := [], clearing := false, clearReport := true } else .next s

end Sys2Proof.Machine
end

