-- ==== Sys2Proof/Machine/Notices.lean ====
section
/-! DEFINITION. Abort notices for PENDING requests, and withdrawal notices at the four units (R16, R17, R44, R84,
R104, R128). A notice that does not stand is not taken, and nothing changes
(DESIGN CHOICE, log 9, safe). -/

namespace Sys2Proof.Machine

/-- ABORT_NOTICE_PENDING: the owning unit removes the request from its arbiter with ABORTED (R16). -/
def execAbortNoticePending (cx : CtxNum) (s : State) : Out :=
  s.live <|
    match (s.ctx cx).state with
    | .pending u =>
      if (s.ctx cx).marker = true ∧ s.midStep u = false then .next (s.complete cx { code := .aborted }) else .next s
    | _ => .next s

/-- A withdrawal notice of port `p` at unit `u`: it arrives and stands there, or the unit takes it and does its part
`act` (R17). A unit within a step takes no notice (R15). -/
def State.withdrawalNotice (s : State) (p : Port) (u : UnitId) (stage : NoticeStep) (act : State → State) : Out :=
  s.live <|
    match stage, (s.link p).notices.get u with
    | .arrive, .inTransit => .next (s.modLink p fun k => { k with notices := k.notices.set u (.standing 0) })
    | .arrive, _ => .next s
    | .take, .none => .next s
    | .take, _ =>
      if s.midStep u then .next s
      else .next (act (s.modLink p fun k => { k with notices := k.notices.set u .none }))

/-- MU's part in the withdrawal of port `p`: pending requests cancelled, running fills given the stop reason
CANCELLED, and the acknowledgement at once or when the last fill ends (R104). -/
def State.muWithdraw (s : State) (p : Port) : State :=
  (((s.cancelAll p (.pending .mu)).modPortCtxs p (Context.stopFill (fun _ => true) .cancelled)).modLink p fun k =>
    { k with muOwesAck := true }).muSettle p

/-- SU's part in the withdrawal of port `p` (R128). -/
def State.suWithdraw (s : State) (p : Port) : State :=
  (s.cancelAll p (.pending .su)).modLink p fun k => { k with suAck := true }

/-- MU_WITHDRAWAL_NOTICE (R104). -/
def execMuWithdrawalNotice (p : Port) (stage : NoticeStep) (s : State) : Out :=
  s.withdrawalNotice p .mu stage fun s => s.muWithdraw p

/-- LU_WITHDRAWAL_NOTICE (R44). -/
def execLuWithdrawalNotice (p : Port) (stage : NoticeStep) (s : State) : Out :=
  s.withdrawalNotice p .lu stage fun s => s.luWithdraw p

/-- CU_WITHDRAWAL_NOTICE (R84). -/
def execCuWithdrawalNotice (p : Port) (stage : NoticeStep) (s : State) : Out :=
  s.withdrawalNotice p .cu stage fun s => s.cuWithdraw p

/-- SU_WITHDRAWAL_NOTICE (R128). -/
def execSuWithdrawalNotice (p : Port) (stage : NoticeStep) (s : State) : Out :=
  s.withdrawalNotice p .su stage fun s => s.suWithdraw p

end Sys2Proof.Machine
end

