-- ==== Sys2Proof/Machine/PortWindow.lean ====
section
/-! DEFINITION. The meanings of the host's window accesses: strobes, port actions, read words, written words, and the
frame (chapters 01, 08, 09, 10). -/

namespace Sys2Proof.Machine

/-- GO (R7). -/
def execGo (cx : CtxNum) (s : State) : Out :=
  s.word (portOf cx) .write (ctxAddr (slotOf cx) controlOffset) fun s => s.goStrobe cx

/-- ACK (R8). -/
def execAck (cx : CtxNum) (s : State) : Out :=
  s.word (portOf cx) .write (ctxAddr (slotOf cx) controlOffset) fun s => s.ackStrobe cx

/-- ABORT (R9). -/
def execAbort (cx : CtxNum) (s : State) : Out :=
  s.word (portOf cx) .write (ctxAddr (slotOf cx) controlOffset) fun s => s.abortStrobe cx

/-- ATTACH (R134). -/
def execAttach (p : Port) (s : State) : Out := s.word p .write portControlAddr fun s => s.attachAction p

/-- DETACH (R136). -/
def execDetach (p : Port) (s : State) : Out := s.word p .write portControlAddr fun s => s.detachAction p

/-- PORT RESET (R142). -/
def execPortReset (p : Port) (s : State) : Out := s.word p .write portControlAddr fun s => s.portResetAction p

/-- A read word at DATA (R4, R156), or at another register of the window, which has no side effect (R156, R160; its
place under this row is a DESIGN CHOICE, log 10, safe). -/
def execDataRead (place : ReadPlace) (part : ReadPart) (s : State) : Out :=
  match place with
  | .data cx => s.readWord (portOf cx) (ctxAddr (slotOf cx) dataOffset) part
  | .register p a => s.readWord p a part

/-- A write word at DATA (R4, R11). -/
def execDataWrite (cx : CtxNum) (w : Word) (s : State) : Out :=
  s.word (portOf cx) .write (ctxAddr (slotOf cx) dataOffset) fun s =>
    s.lockedWrite (portOf cx) (slotOf cx) (ctxAddr (slotOf cx) dataOffset) (Context.dataWritten w)

/-- A read word at LOG (R59). -/
def execLogRead (p : Port) (part : ReadPart) (s : State) : Out := s.readWord p 0x0C part

/-- A write of 1 to OVERFLOW (R60). -/
def execOverflowClear (p : Port) (s : State) : Out := s.word p .write 0x0D fun s => s.clearOverflow p

/-- A write of 1 to LEASE_LOST (R61). -/
def execLeaseLostClear (p : Port) (s : State) : Out := s.word p .write 0x04 fun s => s.clearLeaseLost p

/-- A write of 1 to WINDOW_ERROR (R149). -/
def execWindowErrorClear (p : Port) (s : State) : Out := s.word p .write 0x04 fun s => s.clearWindowError p

/-- A clearing word at EVENT FLAGS 1 (R146, R147). -/
def execDataFlagClear (p : Port) (mask : BitVec 16) (s : State) : Out :=
  s.word p .write 0x05 fun s => s.clearData p mask

/-- A clearing word at EVENT FLAGS 2 (R146, R147). -/
def execSpaceFlagClear (p : Port) (mask : BitVec 16) (s : State) : Out :=
  s.word p .write 0x06 fun s => s.clearSpace p mask

/-- A write word at EVENT ENABLES k (R150). -/
def execEventEnablesWrite (p : Port) (k : Fin 3) (w : Word) (s : State) : Out :=
  s.word p .write (BitVec.ofNat 7 (0x07 + k.val)) fun s => s.writeEnables p k w

/-- A write word at INT CONFIG (R151). -/
def execIntConfigWrite (p : Port) (w : Word) (s : State) : Out := s.word p .write 0x0A fun s => s.writeIntConfig p w

/-- A write word at any address, or at the current address of a write frame in progress (R155, R157, R160). With no
write frame in progress a word with no address of its own reaches nothing: the clock is ignored while chip select is
high, and the data input is ignored in a read frame (R155). -/
def execRegisterWrite (p : Port) (place : WordPlace) (w : Word) (s : State) : Out :=
  match place with
  | .address a => s.word p .write a fun s => s.writeWord p a w
  | .current =>
    match (s.port p).frame with
    | .inFrame .write a => s.word p .write a fun s => s.writeWord p a w
    | _ => .next s

/-- The frame ends with `bits` bits of its next word sent (R159). Inside a word of a write frame the PI raises
FRAME_SHORT at the word's address; the word of a read frame has no effect, nor has a frame that ends during its
header byte (R155). With 0 bits the frame ends between words and nothing is raised (DEDUCED, log 7, safe). Nothing is
raised for the rest of a cut frame, nor while RESETn is low (R159, R130). -/
def execFrameShort (p : Port) (bits : Fin 32) (s : State) : Out :=
  let closed := s.modPort p fun i => { i with frame := .none, latch := none }
  if s.resetHeld then .next closed
  else match (s.port p).frame with
    | .inFrame .write a => .next (if bits = 0 then closed else closed.windowRefusal p .frameShort a)
    | _ => .next closed

/-- The frame that a header byte opens: bit 7 the direction, bits 6 to 0 the starting address (R155). -/
def frameOfHeader (byte : BitVec 8) : Frame :=
  .inFrame (if byte.getLsbD 7 then .read else .write) (byte.extractLsb' 0 7)

/-- Chip select falls, and the header byte period begins; or the header byte has been taken (R155). A header byte with no
chip select before it is one whose chip select has just fallen (DESIGN CHOICE, log 7, safe). While RESETn is low it is
not decoded (R168), and what is left of such a frame at the release is ignored (R130). -/
def execHeaderByte (p : Port) (part : HeaderPart) (s : State) : Out :=
  if s.resetHeld then .next (s.setFrame p .cut)
  else
    let frame := match part with
      | .chipSelect => .header
      | .byte b => frameOfHeader b
    .next (s.modPort p fun i => { i with frame := frame, latch := none, sent := none })

end Sys2Proof.Machine
end

