-- ==== Sys2Proof/Machine/SystemUnit.lean ====
section
/-! DEFINITION. The system unit: port keys, the tick generator, eviction, inspection, chip reset, and the events of
the RESET pin (chapters 06 and 07). -/

namespace Sys2Proof.Machine

/-! ## The chip reset event (R130) -/

/-- A frame that a chip reset event meets: one in progress is cut (R130). -/
def Frame.afterReset : Frame → Frame
  | .none => .none
  | _ => .cut

/-- The manager port that the straps name, MSEL1 the more significant bit (R115). -/
def strappedManager (t : Straps) : Port := ⟨2 * t.msel1.toNat + t.msel0.toNat, by
  have h1 := Bool.toNat_le t.msel1
  have h0 := Bool.toNat_le t.msel0
  omega⟩

/-- Every block at its reset values; the frames in progress are cut, and the memory, the straps, the manager port
number and the queue of commands are left to the caller (R130, R23, R31, R67, R106, R119, R143). -/
def State.atResetValues (s : State) : State :=
  { State.reset with
    ports := s.ports.mapEach fun _ i => { PortInterface.reset with frame := i.frame.afterReset }
    memory := s.memory
    clearing := false
    managerPort := s.managerPort
    straps := s.straps
    pending := s.pending }

/-- The chip reset event: INIT, the straps sampled, and MU begins the clear of the memory (R130, R131, R115). -/
def State.chipResetEvent (s : State) (t : Straps) : State :=
  { s.atResetValues with clearing := true, managerPort := strappedManager t, straps := t }

/-! ## Commands of SU -/

/-- SET PORT KEYS (R108). -/
def execSetPortKeys (cx : CtxNum) (s : State) : Out :=
  s.take .setPortKeys cx fun s =>
    let r := (s.ctx cx).command
    s.asManager cx <| s.onTarget cx r.portNum fun p =>
      .next ((s.setKeyPair p (keyPairField r.operand)).complete cx { code := .ok, value := (s.keyPair p).word })

/-- The generator after a SET TICK: the period under way goes on only if the generator is RUNNING, the enable bit is
1 and the code is the one it holds; otherwise it is discarded, and an enabled generator starts a full period (R122). -/
def State.setTickGenerator (s : State) (enable : Bool) (code : PeriodCode) : State :=
  { s with
    periodCode := code
    period := if enable then (if s.period.isSome && s.periodCode == code then s.period else some code) else none }

/-- SET TICK (R122). -/
def execSetTick (cx : CtxNum) (s : State) : Out :=
  s.take .setTick cx fun s =>
    let w := (s.ctx cx).command.operand
    s.asManager cx <|
      .next ((s.setTickGenerator (tickEnableField w) (periodCodeField w)).complete cx
        { code := .ok, value := tickWord s.period.isSome s.periodCode })

/-- The port that an EVICT PORT names, if it may: not the manager port (R125, R118). -/
def State.evictTarget (s : State) (r : CommandRecord) : Option Port :=
  match r.portNum with
  | some p => if p = s.managerPort then none else some p
  | none => none

/-- EVICT PORT (R125). -/
def execEvictPort (cx : CtxNum) (s : State) : Out :=
  s.take .evictPort cx fun s =>
    s.asManager cx <| s.onTarget cx (s.evictTarget (s.ctx cx).command) fun p =>
      .next ((s.modLink p fun k => { k with evictions := k.evictions + 1 }).complete cx { code := .ok })

/-- Locks held by the contexts of a port (R29). -/
def State.locksHeld (s : State) (p : Port) : Nat :=
  (allLocks.filter fun l => match (s.lock l).holder with
    | some h => decide (portOf h = p)
    | none => false).length

/-- The states of a port's contexts as INSPECT PORT reports them (R127, R167). -/
def State.portContexts (s : State) (p : Port) : Table (BitVec 3) 4 :=
  Vector.ofFn fun c => (s.ctx (ctxOf p c)).state.bits

/-- The result of INSPECT PORT from its three items: a port state, its contexts' states, its locks (R127, R167). -/
def inspectPortAnswer (state : BitVec 2) (contexts : Table (BitVec 3) 4) (locks : Nat) : Answer :=
  { code := .ok
    value := field 0 state ||| field 4 (contexts.at 0) ||| field 8 (contexts.at 1) ||| field 12 (contexts.at 2) |||
      field 16 (contexts.at 3)
    aux := auxOf locks }

/-- The item `i` read now, as the block that holds it has it; an item is read once (R127). -/
def Inspection.read (g : Inspection) (i : InspectItem) (s : State) : Inspection :=
  match i with
  | .portState => { g with portState := some (g.portState.getD (s.port g.port).state.bits) }
  | .contextStates => { g with contexts := some (g.contexts.getD (s.portContexts g.port)) }
  | .locksHeld => { g with locks := some (g.locks.getD (s.locksHeld g.port)) }

/-- SU, within the step of an INSPECT PORT, has read the items of `g`: it completes the request once it has read all
three, and goes on otherwise (R127). -/
def State.inspectionStands (s : State) (g : Inspection) : State :=
  match g.portState, g.contexts, g.locks with
  | some a, some b, some n => { s with inspection := none }.complete g.ctx (inspectPortAnswer a b n)
  | _, _, _ => { s with inspection := some g }

/-- The read of one item of an INSPECT PORT (R127). The first one takes the request; the others are of the step that
it began. Another block's event between them is taken as it always is, and SU takes nothing else. -/
def State.inspectItem (s : State) (cx : CtxNum) (i : InspectItem) : Out :=
  match s.inspection with
  | some g =>
    s.live <|
      if g.ctx = cx ∧ (s.ctx cx).state = .pending .su ∧ (s.ctx cx).command.code = Command.inspectPort.code then
        .next (s.inspectionStands (g.read i s))
      else .next s
  | none =>
    s.take .inspectPort cx fun s =>
      s.onTarget cx (s.ctx cx).command.portNum fun p =>
        .next (s.inspectionStands ((Inspection.mk cx p none none none).read i s))

/-- INSPECT PORT (R127): the whole step with no event between the reads, or the read of one item of it (DEDUCED, log
11, safe). -/
def execInspectPort (cx : CtxNum) (part : InspectPart) (s : State) : Out :=
  match part with
  | .item i => s.inspectItem cx i
  | .whole =>
    s.take .inspectPort cx fun s =>
      s.onTarget cx (s.ctx cx).command.portNum fun p =>
        .next (s.complete cx (inspectPortAnswer (s.port p).state.bits (s.portContexts p) (s.locksHeld p)))

/-- CHIP RESET (R129). -/
def execChipReset (cx : CtxNum) (straps : Straps) (s : State) : Out :=
  s.take .chipReset cx fun s => s.asManager cx <| .next (s.chipResetEvent straps)

/-! ## Events of SU and of the pins -/

/-- RESETn goes low: every block is held at its reset values (R130, R168). The straps are sampled at the release, so
the manager port number stays until then (DEDUCED, log 12, safe). -/
def execResetAssert (s : State) : Out := .next { s.atResetValues with resetHeld := true }

/-- RESETn is released: the straps are sampled and the chip reset event takes effect (R130, R115, R168), even where it
was not low before (DEDUCED, log 12, safe). -/
def execResetRelease (straps : Straps) (s : State) : Out := .next (s.chipResetEvent straps)

/-- CHIP_READY: SU takes MU's report (R131). -/
def execChipReady (s : State) : Out :=
  s.live <|
    if s.clearReport = true ∧ s.midStep .su = false then .next { s with clearReport := false, phase := .ready }
    else .next s

/-- PERIOD_END: the epoch advances, LU and CU are each delivered a tick event, and the next period starts with the
code held (R120). -/
def execPeriodEnd (s : State) : Out :=
  s.live <|
    match s.period with
    | none => .next s
    | some _ =>
      if s.midStep .su then .next s
      else .next { s with
        epoch := s.epoch + 1
        luTicks := s.luTicks ++ [{ epoch := s.epoch + 1, point := .start }]
        cuTicks := s.cuTicks + 1
        period := some s.periodCode }

end Sys2Proof.Machine
end

