-- ==== Sys2Proof/Machine/Dispatch.lean ====
section
/-! DEFINITION. One arm for each command: its meaning. -/

namespace Sys2Proof.Machine

def exec (i : Instr) (s : State) : Host.Outcome State Fault Refusal :=
  match i with
  | .go cx => Sys2Proof.Machine.execGo cx s
  | .ack cx => Sys2Proof.Machine.execAck cx s
  | .abort cx => Sys2Proof.Machine.execAbort cx s
  | .attach p => Sys2Proof.Machine.execAttach p s
  | .detach p => Sys2Proof.Machine.execDetach p s
  | .portReset p => Sys2Proof.Machine.execPortReset p s
  | .evictionOrder p => Sys2Proof.Machine.execEvictionOrder p s
  | .withdrawalAck p u => Sys2Proof.Machine.execWithdrawalAck p u s
  | .dataRead place part => Sys2Proof.Machine.execDataRead place part s
  | .dataWrite cx w => Sys2Proof.Machine.execDataWrite cx w s
  | .logRead p part => Sys2Proof.Machine.execLogRead p part s
  | .overflowClear p => Sys2Proof.Machine.execOverflowClear p s
  | .leaseLostClear p => Sys2Proof.Machine.execLeaseLostClear p s
  | .windowErrorClear p => Sys2Proof.Machine.execWindowErrorClear p s
  | .dataFlagClear p mask => Sys2Proof.Machine.execDataFlagClear p mask s
  | .spaceFlagClear p mask => Sys2Proof.Machine.execSpaceFlagClear p mask s
  | .eventEnablesWrite p k w => Sys2Proof.Machine.execEventEnablesWrite p k w s
  | .intConfigWrite p w => Sys2Proof.Machine.execIntConfigWrite p w s
  | .registerWrite p place w => Sys2Proof.Machine.execRegisterWrite p place w s
  | .frameShort p bits => Sys2Proof.Machine.execFrameShort p bits s
  | .read cx => Sys2Proof.Machine.execRead cx s
  | .write cx => Sys2Proof.Machine.execWrite cx s
  | .readGroup cx => Sys2Proof.Machine.execReadGroup cx s
  | .writeGroup cx => Sys2Proof.Machine.execWriteGroup cx s
  | .tally cx => Sys2Proof.Machine.execTally cx s
  | .setIfZero cx => Sys2Proof.Machine.execSetIfZero cx s
  | .zeroFill cx => Sys2Proof.Machine.execZeroFill cx s
  | .fillBurst cx => Sys2Proof.Machine.execFillBurst cx s
  | .defineSegment cx => Sys2Proof.Machine.execDefineSegment cx s
  | .clearSegment cx => Sys2Proof.Machine.execClearSegment cx s
  | .inspectSegment cx => Sys2Proof.Machine.execInspectSegment cx s
  | .acquire cx => Sys2Proof.Machine.execAcquire cx s
  | .release cx => Sys2Proof.Machine.execRelease cx s
  | .renew cx => Sys2Proof.Machine.execRenew cx s
  | .inspectLock cx => Sys2Proof.Machine.execInspectLock cx s
  | .setLock cx => Sys2Proof.Machine.execSetLock cx s
  | .forceRelease part => Sys2Proof.Machine.execForceRelease part s
  | .send cx => Sys2Proof.Machine.execSend cx s
  | .receive cx => Sys2Proof.Machine.execReceive cx s
  | .inspectChannel cx => Sys2Proof.Machine.execInspectChannel cx s
  | .bindChannel cx => Sys2Proof.Machine.execBindChannel cx s
  | .unbindChannel cx => Sys2Proof.Machine.execUnbindChannel cx s
  | .setPortKeys cx => Sys2Proof.Machine.execSetPortKeys cx s
  | .setTick cx => Sys2Proof.Machine.execSetTick cx s
  | .evictPort cx => Sys2Proof.Machine.execEvictPort cx s
  | .inspectPort cx part => Sys2Proof.Machine.execInspectPort cx part s
  | .chipReset cx straps => Sys2Proof.Machine.execChipReset cx straps s
  | .resetAssert => Sys2Proof.Machine.execResetAssert s
  | .resetRelease straps => Sys2Proof.Machine.execResetRelease straps s
  | .memoryClearDone => Sys2Proof.Machine.execMemoryClearDone s
  | .chipReady => Sys2Proof.Machine.execChipReady s
  | .periodEnd => Sys2Proof.Machine.execPeriodEnd s
  | .luTick => Sys2Proof.Machine.execLuTick s
  | .lockWaitTimeout cx => Sys2Proof.Machine.execLockWaitTimeout cx s
  | .leaseExpiry l => Sys2Proof.Machine.execLeaseExpiry l s
  | .cuTick => Sys2Proof.Machine.execCuTick s
  | .channelWaitTimeout cx => Sys2Proof.Machine.execChannelWaitTimeout cx s
  | .abortNoticePending cx => Sys2Proof.Machine.execAbortNoticePending cx s
  | .lockWaitAbort cx => Sys2Proof.Machine.execLockWaitAbort cx s
  | .channelWaitAbort cx => Sys2Proof.Machine.execChannelWaitAbort cx s
  | .fillAbort cx => Sys2Proof.Machine.execFillAbort cx s
  | .muWithdrawalNotice p stage => Sys2Proof.Machine.execMuWithdrawalNotice p stage s
  | .luWithdrawalNotice p stage => Sys2Proof.Machine.execLuWithdrawalNotice p stage s
  | .cuWithdrawalNotice p stage => Sys2Proof.Machine.execCuWithdrawalNotice p stage s
  | .suWithdrawalNotice p stage => Sys2Proof.Machine.execSuWithdrawalNotice p stage s
  | .revocationRecordArrival p => Sys2Proof.Machine.execRevocationRecordArrival p s
  | .flagSettingArrival p n => Sys2Proof.Machine.execFlagSettingArrival p n s
  | .flagClearingArrival p n => Sys2Proof.Machine.execFlagClearingArrival p n s
  | .headerByte p part => Sys2Proof.Machine.execHeaderByte p part s

end Sys2Proof.Machine
end

