-- ==== Sys2Proof/Safety.lean ====
section
/-! DEFINITION. The terms that claims use: when a step is taken, what it leaves as it was, how a request ends, and the
conditions that a state of the part meets (R5, R21, R22, R25, R26, R57, R63 to R65, R86 to R88, R96, R111, R132, R138
to R140). -/

namespace Sys2Proof.Machine

/-! ## When a step is taken -/

/-- The owning unit takes the request `c` of context `cx` now: RESETn is high, the request stands, and the arbiter
grants it (R13, R14). -/
def State.takes (s : State) (c : Command) (cx : CtxNum) : Prop :=
  s.resetHeld = false ∧ (s.ctx cx).state = .pending c.owner ∧ (s.ctx cx).command.code = c.code ∧
    s.grants c.owner = some cx

/-- The whole step in which the owning unit takes a request of command `c` (R13). The straps matter to CHIP RESET
alone. -/
def Command.taking (c : Command) (cx : CtxNum) (straps : Straps) : Instr :=
  match c with
  | .read => .read cx | .write => .write cx | .readGroup => .readGroup cx | .writeGroup => .writeGroup cx
  | .tally => .tally cx | .setIfZero => .setIfZero cx | .zeroFill => .zeroFill cx
  | .defineSegment => .defineSegment cx | .clearSegment => .clearSegment cx | .inspectSegment => .inspectSegment cx
  | .acquire => .acquire cx | .release => .release cx | .renew => .renew cx | .inspectLock => .inspectLock cx
  | .setLock => .setLock cx | .forceRelease => .forceRelease (.whole cx)
  | .send => .send cx | .receive => .receive cx | .inspectChannel => .inspectChannel cx
  | .bindChannel => .bindChannel cx | .unbindChannel => .unbindChannel cx
  | .setPortKeys => .setPortKeys cx | .setTick => .setTick cx | .evictPort => .evictPort cx
  | .inspectPort => .inspectPort cx .whole | .chipReset => .chipReset cx straps

/-- A withdrawal notice of port `p` at unit `u` (R17). -/
def withdrawalNoticeAt (u : UnitId) (p : Port) (stage : NoticeStep) : Instr :=
  match u with
  | .mu => .muWithdrawalNotice p stage
  | .lu => .luWithdrawalNotice p stage
  | .cu => .cuWithdrawalNotice p stage
  | .su => .suWithdrawalNotice p stage

/-- Unit `u` may take the withdrawal notice of port `p` now: RESETn is high, there is one, and the unit is not within a
step (R15, R17). -/
def State.takesNotice (s : State) (p : Port) (u : UnitId) : Prop :=
  s.resetHeld = false ∧ (s.link p).notices.get u ≠ .none ∧ s.midStep u = false

/-- The PI of `p` takes a complete word of direction `dir` at address `a`: RESETn is high, and there is no frame in
progress (log 7), or one of that direction that has come to that address (R155, R158, R168). -/
def State.takesWord (s : State) (p : Port) (dir : Direction) (a : WindowAddr) : Prop :=
  s.resetHeld = false ∧ ((s.port p).frame = .none ∨ (s.port p).frame = .inFrame dir a)

/-- The PI of `p` sends a complete read word at address `a`: there is room for it in the frame, and no other read word is
between its first and its last bit (R156). -/
def State.sendsWord (s : State) (p : Port) (a : WindowAddr) : Prop :=
  s.takesWord p .read a ∧ (s.port p).latch = none

/-- A read frame has come to address `a` and the next bit is the first of a word (R155, R156). -/
def State.beginsWord (s : State) (p : Port) (a : WindowAddr) : Prop :=
  s.resetHeld = false ∧ (s.port p).frame = .inFrame .read a ∧ (s.port p).latch = none

/-- A read frame has come to address `a` and the word `l` is between its first and its last bit there (R155, R156). -/
def State.endsWord (s : State) (p : Port) (a : WindowAddr) (l : ReadLatch) : Prop :=
  s.resetHeld = false ∧ (s.port p).frame = .inFrame .read a ∧ (s.port p).latch = some l

/-- LOG (R161). -/
def isLogAddr (a : WindowAddr) : Prop := a.toNat = 0x0C

/-- The DATA register of a context (R161). -/
def isDataAddr (a : WindowAddr) : Prop := 0x20 ≤ a.toNat ∧ a.toNat < 0x60 ∧ a.toNat % 16 = 9

/-- The address after a word at `a`: the next one, 00h after 7Fh, but LOG and DATA hold it (R158). -/
def AddrAfter (a b : WindowAddr) : Prop :=
  (isLogAddr a ∨ isDataAddr a → b = a) ∧
    (¬ (isLogAddr a ∨ isDataAddr a) → b.toNat = if a.toNat = 127 then 0 else a.toNat + 1)

/-- The frame after a word at address `a` (R155, R158). -/
def Frame.afterWord (f : Frame) (dir : Direction) (a : WindowAddr) : Frame :=
  match f with
  | .inFrame _ _ => .inFrame dir (nextAddr a)
  | f => f

/-- Not WITHDRAWING with a full acknowledgement set. -/
def PortState.settled : PortState → Bool
  | .withdrawing acks _ => !allAcked acks
  | _ => true

/-- No withdrawal stands with its acknowledgement set full; `withdrawalsCoherent` says that none ever does (R140). -/
def State.settled (s : State) : Prop := ∀ p, (s.port p).state.settled = true

/-- A port interface but for its serial frame: what the register window is made of. -/
def PortInterface.window (i : PortInterface) : PortInterface := { i with frame := .none, latch := none, sent := none }

/-- The command `i` run on what `o` answers, if `fires`; `o` itself otherwise. -/
def runIf (fires : Bool) (i : Instr) (o : Out) : Out :=
  match o, fires with
  | .next s, true => exec i s
  | o, _ => o

/-! ## Conditions of the commands -/

/-- A running fill (R5). -/
def CtxState.isActive : CtxState → Bool
  | .active _ => true
  | _ => false

/-- The key that the selector of `cx` presents opens an object's key, by the table of R111. -/
def State.presentsKeyFor (s : State) (cx : CtxNum) (key : Key) : Prop :=
  ((s.ctx cx).command.selector = .primary ∧ (key = 0 ∨ key = (s.keyPair (portOf cx)).primary)) ∨
    ((s.ctx cx).command.selector = .alternate ∧ (key = 0 ∨ key = (s.keyPair (portOf cx)).alternate)) ∨
      ((s.ctx cx).command.selector = .override ∧ portOf cx = s.managerPort)

/-- The right that a data command needs (R88, R113); no other command needs one. -/
def Command.dataRight : Command → Option Right
  | .read | .readGroup => some .read
  | .write | .writeGroup | .zeroFill => some .write
  | .tally | .setIfZero => some .atomic
  | _ => none

/-- Words from the offset on that must exist before a data command does anything (R88, R95). -/
def Command.wordsNeeded (c : Command) (r : CommandRecord) : Nat :=
  match c with
  | .zeroFill => r.count.toNat
  | _ => 1

/-- The offset, and `need` words from it, lie inside the segment (R88). -/
def Segment.reaches (g : Segment) (offset need : Nat) : Bool :=
  decide (offset < g.length.toNat ∧ offset + need ≤ g.length.toNat)

/-- The request of `cx` passes the checks of R88 with `need` words and right `right`: it names the valid segment `n`,
whose entry is `g`. The last condition is R87's. -/
def State.reachesSegment (s : State) (cx : CtxNum) (right : Right) (need : Nat) (n : SegNum) (g : Segment) : Prop :=
  (s.ctx cx).command.selector ≠ .unused ∧ (s.ctx cx).command.object.toNat = n.val ∧ s.seg n = some g ∧
    g.reaches (s.ctx cx).command.offset.toNat need = true ∧ s.presentsKeyFor cx g.key ∧ g.rights.grants right = true ∧
    g.base.toNat + g.length.toNat ≤ Config.memoryWords

/-- The physical address of the word that a data command names (R87). -/
def State.wordNamed (s : State) (cx : CtxNum) (g : Segment) : Nat := g.base.toNat + (s.ctx cx).command.offset.toNat

/-- A count from 1 to `max` (R22). -/
def CommandRecord.counts (r : CommandRecord) (max : Nat) : Prop := 1 ≤ r.count.toNat ∧ r.count.toNat ≤ max

/-- The range check of R21 fails, by R22 and the command's own rule. -/
def State.outOfRange (s : State) (c : Command) (r : CommandRecord) : Prop :=
  match c with
  | .read | .write | .tally | .setIfZero => 64 ≤ r.object.toNat ∨ r.selector = .unused
  | .readGroup | .writeGroup => 64 ≤ r.object.toNat ∨ r.selector = .unused ∨ ¬ r.counts 16
  | .zeroFill => 64 ≤ r.object.toNat ∨ r.selector = .unused ∨ ¬ r.counts 4096
  | .defineSegment =>
    64 ≤ r.object.toNat ∨ ¬ r.counts 4096 ∨ 16384 < (r.operand.extractLsb' 0 14).toNat + r.count.toNat
  | .clearSegment | .inspectSegment | .inspectLock | .setLock | .forceRelease => 64 ≤ r.object.toNat
  | .acquire => 64 ≤ r.object.toNat ∨ r.selector = .unused
  | .release | .renew => 64 ≤ r.object.toNat ∨ 255 < r.operand.toNat
  | .send => 16 ≤ r.object.toNat ∨ r.selector = .unused ∨ ¬ r.counts 16
  | .receive => 16 ≤ r.object.toNat ∨ r.selector = .unused
  | .inspectChannel | .unbindChannel => 16 ≤ r.object.toNat
  | .bindChannel =>
    16 ≤ r.object.toNat ∨ r.operand.extractLsb' 0 4 = 0 ∨ r.operand.getLsbD (r.operand.extractLsb' 4 2).toNat = true
  | .setPortKeys | .inspectPort => 4 ≤ r.object.toNat
  | .evictPort => 4 ≤ r.object.toNat ∨ r.object.toNat = s.managerPort.val
  | .setTick | .chipReset => False

/-! ## What a step leaves as it was -/

/-- A context without the model's own counters of its abort notice: all that the spec gives it. -/
def Context.seen (c : Context) : Context := { c with abort := c.abort.map fun _ => { grants := 0, taken := false } }

/-- A notice without the model's own counter. -/
def NoticeState.seen : NoticeState → NoticeState
  | .standing _ => .standing 0
  | n => n

/-- The messages of a port without the model's own counters. -/
def Links.seen (k : Links) : Links :=
  { k with notices := ⟨k.notices.mu.seen, k.notices.lu.seen, k.notices.cu.seen, k.notices.su.seen⟩ }

/-- The parts of the state other than the contexts and the queue of commands. -/
inductive Part where
  | ports | messages | arbiters | locks | luTicks | forcing | channels | cuTicks | memory | segments | generator | chip | keys
  | inspection
deriving DecidableEq, Repr

/-- Part `q` is the same in both states. -/
def State.keeps (s t : State) (q : Part) : Prop :=
  match q with
  | .ports => t.ports = s.ports
  | .messages => ∀ p, (t.link p).seen = (s.link p).seen
  | .arbiters => t.arbiters = s.arbiters
  | .locks => t.locks = s.locks
  | .luTicks => t.luTicks = s.luTicks
  | .forcing => t.forcing = s.forcing
  | .channels => t.channels = s.channels
  | .cuTicks => t.cuTicks = s.cuTicks ∧ t.cuTickOpen = s.cuTickOpen
  | .memory => t.memory = s.memory
  | .segments => t.segments = s.segments
  | .generator => t.period = s.period ∧ t.periodCode = s.periodCode ∧ t.epoch = s.epoch
  | .chip => t.phase = s.phase ∧ t.clearing = s.clearing ∧ t.clearReport = s.clearReport ∧
      t.managerPort = s.managerPort ∧ t.resetHeld = s.resetHeld ∧ t.straps = s.straps
  | .keys => t.keys = s.keys
  | .inspection => t.inspection = s.inspection

/-- Every part but the named ones, and the queue of commands, are the same in both states. -/
def State.keepsBut (s t : State) (changed : List Part) : Prop :=
  t.pending = s.pending ∧ ∀ q, q ∉ changed → s.keeps t q

/-- Every context but the named ones shows the same in both states. -/
def State.keepsContextsBut (s t : State) (changed : List CtxNum) : Prop :=
  ∀ c, c ∉ changed → (t.ctx c).seen = (s.ctx c).seen

/-- Every port interface but that of `p` is the same in both states. -/
def State.keepsPortsBut (s t : State) (p : Port) : Prop := ∀ q, q ≠ p → t.port q = s.port q

/-- The messages to and from every port but `p` are the same in both states, up to the model's counters. -/
def State.keepsMessagesBut (s t : State) (p : Port) : Prop := ∀ q, q ≠ p → (t.link q).seen = (s.link q).seen

/-- Every lock but `l` is the same in both states. -/
def State.keepsLocksBut (s t : State) (l : LockNum) : Prop := ∀ k, k ≠ l → t.lock k = s.lock k

/-- Every channel but `n` is the same in both states. -/
def State.keepsChannelsBut (s t : State) (n : ChanNum) : Prop := ∀ k, k ≠ n → t.chan k = s.chan k

/-- Every segment entry but `n` is the same in both states. -/
def State.keepsSegmentsBut (s t : State) (n : SegNum) : Prop := ∀ k, k ≠ n → t.seg k = s.seg k

/-- Every word of memory from `a` on reads the given words, and every other word reads as before. -/
def State.storesWords (s t : State) (a : Nat) (ws : List Word) : Prop :=
  ∀ b, t.memory.read b = if a ≤ b ∧ b < a + ws.length then ws.getD (b - a) 0 else s.memory.read b

/-- Unit `u` has taken a request of `cx`: its arbiter has recorded the number; the named parts and contexts may have
changed, `cx` among them, and nothing else has. -/
def State.served (s t : State) (u : UnitId) (cx : CtxNum) (changed : List Part) (contexts : List CtxNum) : Prop :=
  t.arbiters = s.arbiters.set u cx ∧ s.keepsBut t (.arbiters :: changed) ∧ s.keepsContextsBut t (cx :: contexts)

/-- A step at the PI of `p` has taken a word at address `a`: its interface is `i`, with the frame moved on, and nothing
else has changed. -/
def State.wordChanges (s t : State) (p : Port) (dir : Direction) (a : WindowAddr) (i : PortInterface) : Prop :=
  t.port p = { i with frame := (s.port p).frame.afterWord dir a } ∧ s.keepsPortsBut t p ∧ s.keepsBut t [.ports]

/-! ## How a request ends (R18, R4) -/

/-- A context `c` has ended as `d`: DONE with the whole result record of `r`, the owning unit dropped and the abort
marker clear; its buffer has `words` at its start; its data index is 0 if it ran RECEIVE or READ GROUP; the command
record and GO_REFUSED are kept. -/
def Context.ended (c d : Context) (r : Answer) (words : List Word) : Prop :=
  d.state = .done ∧ d.abort = none ∧ d.command = c.command ∧ d.goRefused = c.goRefused ∧
    d.result.code = some r.code ∧ d.result.value = r.value ∧ d.result.aux = r.aux ∧
    d.result.abortLate = (c.abort.isSome && decide (r.code ≠ .aborted)) ∧
    d.result.priorRevoked = r.priorRevoked ∧ d.result.saturated = r.saturated ∧
    (∀ i, d.buffer.at i = words.getD i.val (c.buffer.at i)) ∧
    d.index = if c.command.code = 0x12#8 ∨ c.command.code = 0x03#8 then 0 else c.index

/-- Context `cx` has ended with `r`. -/
def State.ends (s t : State) (cx : CtxNum) (r : Answer) (words : List Word := []) : Prop :=
  (s.ctx cx).ended (t.ctx cx) r words

/-- Every context of port `p` that was in one of the states `ts` has ended with CANCELLED, and every other context
shows the same as before (R17). -/
def State.cancels (s t : State) (p : Port) (ts : List CtxState) : Prop :=
  ∀ c, (portOf c = p ∧ (s.ctx c).state ∈ ts → s.ends t c { code := .cancelled }) ∧
    (¬ (portOf c = p ∧ (s.ctx c).state ∈ ts) → (t.ctx c).seen = (s.ctx c).seen)

/-- The running fills of segment number `n` (R100). -/
def State.fillsOn (s : State) (n : SegNum) : List CtxNum :=
  allCtxs.filter fun c => match (s.ctx c).state with
    | .active f => decide (f.segment = n)
    | _ => false

/-- The fill goes on with stop reason `r`, or with the one it has (R97). -/
def Fill.stoppedBy (f : Fill) (r : StopReason) : Fill := { f with stop := some (f.stop.getD r) }

/-- MU owes the acknowledgement of `p` and no fill but that of `cx` keeps it from sending it (R104). -/
def State.lastFill (s : State) (cx : CtxNum) : Prop :=
  (s.link (portOf cx)).muOwesAck = true ∧
    ∀ c, ctxOf (portOf cx) c ≠ cx → (s.ctx (ctxOf (portOf cx) c)).state.isActive = false

/-- Locks held by the contexts of a port (R29). -/
def State.locksOf (s : State) (p : Port) : List LockNum :=
  allLocks.filter fun l => (s.lock l).holder.any fun h => portOf h == p

/-- What INSPECT PORT packs into VALUE (R167): the port state and the states of contexts 0 to 3. -/
def packsInspection (v : Word) (state : BitVec 2) (contexts : Fin 4 → BitVec 3) : Prop :=
  v.extractLsb' 0 2 = state ∧ v.extractLsb' 2 2 = 0 ∧
    (∀ c : Fin 4, v.extractLsb' (4 + 4 * c.val) 3 = contexts c ∧ v.getLsbD (7 + 4 * c.val) = false) ∧
    v.extractLsb' 20 12 = 0

/-- Item `i` has not been read in the step `g`. -/
def Inspection.lacks (g : Inspection) : InspectItem → Prop
  | .portState => g.portState = none
  | .contextStates => g.contexts = none
  | .locksHeld => g.locks = none

/-- The step `g` goes on as `h`: item `i` has been read in state `s`, and the others are as they were (R127). -/
def State.readsItem (s : State) (g h : Inspection) (i : InspectItem) : Prop :=
  h.ctx = g.ctx ∧ h.port = g.port ∧
    (if i = .portState then h.portState = some (s.port g.port).state.bits else h.portState = g.portState) ∧
    (if i = .contextStates
      then ∃ b, h.contexts = some b ∧ ∀ c, b.at c = (s.ctx (ctxOf g.port c)).state.bits
      else h.contexts = g.contexts) ∧
    (if i = .locksHeld then h.locks = some (s.locksOf g.port).length else h.locks = g.locks)

/-- What RECEIVE packs into AUX (R167). -/
def packsReceipt (aux : BitVec 16) (m : Message) : Prop :=
  aux.extractLsb' 0 5 = BitVec.ofNat 5 m.words.length ∧ aux.extractLsb' 5 3 = 0 ∧
    aux.extractLsb' 8 4 = BitVec.ofNat 4 m.sender.val ∧ aux.extractLsb' 12 4 = 0

/-- The message that context `cx` has in its buffer, under the next number of the channel's counter (R66, R68). -/
def State.offers (s : State) (cx : CtxNum) (counter : BitVec 16) : Message :=
  { words := ((s.ctx cx).buffer.toList).take (s.ctx cx).command.count.toNat, sender := cx, seq := counter + 1 }

/-- The record of a revocation of a lock (R50, R57). -/
def Lock.lossRecord (k : Lock) (l : LockNum) (cause : RevocationCause) (epoch : BitVec 16) : RevocationRecord :=
  { lock := l, generation := k.generation, cause := cause, epoch := epoch }

/-- What a new holder is answered (R30). -/
def Lock.grantAnswer (k : Lock) (waiters : Nat) (priorRevoked : Bool) : Answer :=
  { code := .ok, value := (k.generation + 1).setWidth 32, aux := BitVec.ofNat 16 waiters, priorRevoked := priorRevoked }

/-- The lock after a grant to `cx` (R30). -/
def Lock.heldBy (k : Lock) (cx : CtxNum) (queue : List Waiter) : Lock :=
  { k with holder := some cx, generation := k.generation + 1, lease := k.period, revoked := false, queue := queue }

/-- Lock `l`, HELD until now, has been revoked, its queue then being `q`: FREE with its mark set, or handed to the head
waiter with PRIOR_REVOKED (R50). -/
def State.losesLock (s t : State) (l : LockNum) (q : List Waiter) : Prop :=
  match q with
  | [] => t.lock l = { s.lock l with holder := none, lease := 0, revoked := true, queue := [] }
  | w :: rest =>
    t.lock l = (s.lock l).heldBy w.ctx rest ∧ s.ends t w.ctx ((s.lock l).grantAnswer rest.length true)

/-- The tick step has its first part, the wait timeouts, still to make or to end (R46, R47). -/
def TickPoint.countsWaits : TickPoint → Bool
  | .leases _ => false
  | _ => true

/-- Lock `l` is among those whose visit a tick step at this point has still to make before it comes to lock `hi` (R48). -/
def TickPoint.visits (p : TickPoint) (hi : Nat) (l : LockNum) : Bool :=
  decide (l.val < hi) && match p with
    | .leases next => decide (next ≤ l.val)
    | _ => true

/-- A wait count after a tick; 0 is no limit (R47, R76). -/
def ticksAfter (n : BitVec 16) : BitVec 16 := if n = 0 then 0 else n - 1

/-- The queue of a lock when its lease is visited: the waits that end at the tick have left it, and the others are
counted (R46, R47). -/
def TickPoint.queueOf (p : TickPoint) (q : List Waiter) : List Waiter :=
  if p.countsWaits then (q.filter fun w => decide (w.ticks ≠ 1)).map fun w => { w with ticks := ticksAfter w.ticks }
  else q

/-- The lease of the lock is counted at a tick (R48). -/
def Lock.running (k : Lock) : Bool := k.holder.isSome && decide (k.period ≠ 0) && decide (k.lease ≠ 0)

/-- The lease of the lock reaches 0 at a tick (R48). -/
def Lock.runsOut (k : Lock) : Bool := k.running && decide (k.lease = 1)

/-- The context ends with TIMEOUT at the tick: an entry of it stands in a queue with count 1 (R47). -/
def State.waitEnds (s : State) (p : TickPoint) (c : CtxNum) : Prop :=
  p.countsWaits = true ∧ ∃ l, ∃ w ∈ (s.lock l).queue, w.ctx = c ∧ w.ticks = 1

/-- The context is granted lock `l` when its holder's lease runs out: it is then the head waiter (R48, R50). -/
def State.inherits (s : State) (p : TickPoint) (c : CtxNum) (l : LockNum) : Prop :=
  (s.lock l).runsOut = true ∧ (p.queueOf (s.lock l).queue).head?.map Waiter.ctx = some c

/-- LU has carried the step of `tick` on from `s` to the visit of the last lock below `hi`, as R46 to R48 order it: first
the waits, then the leases in increasing lock number. `t` is the state there: the waits that ended, the leases that ran
out and the locks they left, the others counted, and for each port the records in increasing lock number (R50, R54). -/
def State.carriesTick (s t : State) (tick : LuTick) (hi : Nat) : Prop :=
  let visits (l : LockNum) : Bool := tick.point.visits hi l
  let queue (l : LockNum) : List Waiter := tick.point.queueOf (s.lock l).queue
  let lost (p : Port) (l : LockNum) : Bool :=
    visits l && (s.lock l).runsOut && (s.lock l).holder.any fun h => portOf h == p
  (∀ c, s.waitEnds tick.point c → s.ends t c { code := .timeout }) ∧
    (∀ l, visits l = true → (s.lock l).runsOut = true → s.losesLock t l (queue l)) ∧
    (∀ l, ¬ (visits l = true ∧ (s.lock l).runsOut = true) →
      t.lock l = { s.lock l with
        queue := queue l
        lease := if visits l = true ∧ (s.lock l).running = true then (s.lock l).lease - 1 else (s.lock l).lease }) ∧
    (∀ c, ¬ s.waitEnds tick.point c → (∀ l, visits l = true → ¬ s.inherits tick.point c l) → t.ctx c = s.ctx c) ∧
    ∀ p, t.link p = { s.link p with
      fromLu := (s.link p).fromLu ++
        (allLocks.filter (lost p)).map fun l => .record ((s.lock l).lossRecord l .expired tick.epoch) }

/-- A message is waiting for port `p` in channel `n` (R135, R147). -/
def State.dataDue (s : State) (p : Port) (n : ChanNum) : Prop :=
  ∃ b, (s.chan n).binding = some b ∧ b.receiver = p ∧ (s.chan n).slots ≠ []

/-- There is room in channel `n` for a message of port `p` (R135, R147). -/
def State.spaceDue (s : State) (p : Port) (n : ChanNum) : Prop :=
  ∃ b, (s.chan n).binding = some b ∧ b.senders.getLsbD p.val = true ∧ (s.chan n).slots.length < 2

/-- The acknowledgement of unit `u` is the next thing from it that the PI takes (R54, R139). -/
def Links.ackNext (k : Links) (u : UnitId) : Prop :=
  match u with
  | .mu => k.muAck = true
  | .lu => k.fromLu.head? = some .acknowledge
  | .cu => k.cuAck = true
  | .su => k.suAck = true

/-- The messages without that acknowledgement. -/
def Links.withoutAck (k : Links) (u : UnitId) : Links :=
  match u with
  | .mu => { k with muAck := false }
  | .lu => { k with fromLu := k.fromLu.tail }
  | .cu => { k with cuAck := false }
  | .su => { k with suAck := false }

/-! ## What the registers read (R160 to R163, R165) -/

/-- The value of a completion code in RESULT CODE (R165). -/
def codeValue : Option CompletionCode → Nat
  | none => 0 | some .ok => 1 | some .busy => 2 | some .full => 3 | some .empty => 4 | some .timeout => 5
  | some .aborted => 6 | some .cancelled => 7 | some .missing => 8 | some .protected_ => 9 | some .privilege => 10
  | some .notHolder => 11 | some .late => 12 | some .self => 13 | some .wrongPort => 14 | some .inUse => 15
  | some .range => 16 | some .badCommand => 17 | some .segmentChanged => 18

/-- The values of a context state and of its owning unit in STATE (R163); a fill is MU's (R5). -/
def stateValues : CtxState → Nat × Nat
  | .idle => (0, 0)
  | .pending u => (1, unit u)
  | .active _ => (2, 1)
  | .waiting u => (3, unit u)
  | .done => (4, 0)
where
  /-- The value of an owning unit (R163). -/
  unit : UnitId → Nat
    | .mu => 1
    | .lu => 2
    | .cu => 3
    | .su => 4

/-- The value of a cause in WINDOW ERROR CAUSE (R162). -/
def causeValue : ErrorCause → Nat
  | .none => 0 | .contextBusy => 1 | .portNotOnline => 2 | .contextLocked => 3 | .frameShort => 4 | .attachRefused => 5

/-- PORT STATUS with the value `v` (R162): the port state, the acknowledgement set and the mark while WITHDRAWING, and
the port's own number. -/
def State.showsPortStatus (s : State) (p : Port) (v : Word) : Prop :=
  v.extractLsb' 2 2 = 0 ∧ v.extractLsb' 9 3 = 0 ∧ v.extractLsb' 12 2 = BitVec.ofNat 2 p.val ∧ v.extractLsb' 14 18 = 0 ∧
    match (s.port p).state with
    | .offline => v.extractLsb' 0 2 = 0 ∧ v.extractLsb' 4 5 = 0
    | .online => v.extractLsb' 0 2 = 1 ∧ v.extractLsb' 4 5 = 0
    | .withdrawing acks mark => v.extractLsb' 0 2 = 2 ∧ v.getLsbD 4 = acks.mu ∧ v.getLsbD 5 = acks.lu ∧
        v.getLsbD 6 = acks.cu ∧ v.getLsbD 7 = acks.su ∧ v.getLsbD 8 = mark

/-- What the read-only global registers of a port's window read, and the event flags (R161, R162); every bit without a
field reads 0 (R160). -/
def State.showsGlobals (s : State) (p : Port) : Prop :=
  let r (a : WindowAddr) : Word := s.windowRead p a
  r 0x00 = 0x07140C21#32 ∧
    ((r 0x01).extractLsb' 0 16 = s.epoch ∧ (r 0x01).extractLsb' 16 2 = s.periodCode ∧
      (r 0x01).getLsbD 18 = s.period.isSome ∧ (r 0x01).getLsbD 19 = decide (s.phase = .ready) ∧
      (r 0x01).extractLsb' 20 2 = BitVec.ofNat 2 s.managerPort.val ∧ (r 0x01).extractLsb' 22 10 = 0) ∧
    s.showsPortStatus p (r 0x03) ∧
    ((∀ c : Fin 4, (r 0x04).getLsbD c.val = decide ((s.ctx (ctxOf p c)).state = .done)) ∧
      (r 0x04).getLsbD 4 = (s.port p).leaseLost ∧ (r 0x04).getLsbD 5 = (s.port p).windowError ∧
      (r 0x04).extractLsb' 6 26 = 0) ∧
    r 0x05 = (s.port p).dataFlags.setWidth 32 ∧ r 0x06 = (s.port p).spaceFlags.setWidth 32 ∧
    ((r 0x0B).extractLsb' 0 3 = BitVec.ofNat 3 (causeValue (s.port p).errorCause) ∧ (r 0x0B).extractLsb' 3 5 = 0 ∧
      (r 0x0B).extractLsb' 8 7 = (s.port p).errorAddr ∧ (r 0x0B).extractLsb' 15 17 = 0) ∧
    ((r 0x0D).extractLsb' 0 4 = BitVec.ofNat 4 (s.port p).log.length ∧ (r 0x0D).extractLsb' 4 4 = 0 ∧
      (r 0x0D).getLsbD 8 = (s.port p).overflow ∧ (r 0x0D).extractLsb' 9 23 = 0)

/-- What the read-only registers of context `c` of a port read, and its DATA and CONTROL (R161, R163, R165). -/
def State.showsContext (s : State) (p : Port) (c : Fin 4) : Prop :=
  let r (offset : Nat) : Word := s.windowRead p (BitVec.ofNat 7 (0x20 + 0x10 * c.val + offset))
  let x := s.ctx (ctxOf p c)
  r 4 = 0 ∧
    ((r 5).extractLsb' 0 3 = BitVec.ofNat 3 (stateValues x.state).1 ∧ (r 5).getLsbD 3 = false ∧
      (r 5).extractLsb' 4 3 = BitVec.ofNat 3 (stateValues x.state).2 ∧ (r 5).getLsbD 7 = false ∧
      (r 5).getLsbD 8 = x.abort.isSome ∧ (r 5).getLsbD 9 = x.goRefused ∧ (r 5).extractLsb' 10 22 = 0) ∧
    r 6 = BitVec.ofNat 32 (codeValue x.result.code) ∧ r 7 = x.result.value ∧
    ((r 8).extractLsb' 0 16 = x.result.aux ∧ (r 8).getLsbD 16 = x.result.abortLate ∧
      (r 8).getLsbD 17 = x.result.priorRevoked ∧ (r 8).getLsbD 18 = x.result.saturated ∧ (r 8).extractLsb' 19 13 = 0) ∧
    r 9 = x.buffer.at x.index ∧ r 10 = BitVec.ofNat 32 x.index.val

/-- An address of the window without a register (R161). -/
def isUnimplemented (a : WindowAddr) : Prop :=
  (0x0E ≤ a.toNat ∧ a.toNat < 0x20) ∨ 0x60 ≤ a.toNat ∨ (0x20 ≤ a.toNat ∧ a.toNat < 0x60 ∧ 11 ≤ a.toNat % 16)

/-! ## The commands that are words of a frame (R155, R157) -/

/-- The port, the direction and the address of the word that a command is, if it names an address. -/
def wordOf : Instr → Option (Port × Direction × WindowAddr)
  | .go cx | .ack cx | .abort cx => some (portOf cx, .write, BitVec.ofNat 7 (0x24 + 0x10 * (slotOf cx).val))
  | .attach p | .detach p | .portReset p => some (p, .write, 0x02)
  | .dataRead (.data cx) _ => some (portOf cx, .read, BitVec.ofNat 7 (0x29 + 0x10 * (slotOf cx).val))
  | .dataRead (.register p a) _ => some (p, .read, a)
  | .dataWrite cx _ => some (portOf cx, .write, BitVec.ofNat 7 (0x29 + 0x10 * (slotOf cx).val))
  | .logRead p _ => some (p, .read, 0x0C)
  | .overflowClear p => some (p, .write, 0x0D)
  | .leaseLostClear p | .windowErrorClear p => some (p, .write, 0x04)
  | .dataFlagClear p _ => some (p, .write, 0x05)
  | .spaceFlagClear p _ => some (p, .write, 0x06)
  | .eventEnablesWrite p k _ => some (p, .write, BitVec.ofNat 7 (7 + k.val))
  | .intConfigWrite p _ => some (p, .write, 0x0A)
  | .registerWrite p (.address a) _ => some (p, .write, a)
  | _ => none

/-! ## After a reset (R23, R31, R67, R106, R119, R130, R142) -/

/-- A context at its reset values (R23). -/
def Context.atReset (c : Context) : Prop :=
  c.state = .idle ∧ c.abort = none ∧ c.goRefused = false ∧
    c.command = ⟨0, .nowait, .normal, .primary, 0, 0, 0, 0, 0⟩ ∧ c.result = ⟨none, 0, 0, false, false, false⟩ ∧
    (∀ i, c.buffer.at i = 0) ∧ c.index = 0

/-- What the clearing of a port's log leaves of a read word in progress: the record that a LOG word chose is no longer
there to be removed at its last bit, and the value already latched is still sent (R59, R156). -/
def ReadLatch.afterClearing (l : ReadLatch) : ReadLatch :=
  { l with source := match l.source with
    | .log _ => .log false
    | source => source }

/-- What a port reset clearing keeps of the serial interface: the word last sent, and the word being sent (R59, R142). -/
def PortInterface.keepsSerial (i j : PortInterface) : Prop :=
  j.sent = i.sent ∧ j.latch = i.latch.map ReadLatch.afterClearing

/-- A port's window at its reset values, the port OFFLINE (R142, R153). -/
def PortInterface.atReset (i : PortInterface) : Prop :=
  i.state = .offline ∧ i.leaseLost = false ∧ i.windowError = false ∧ i.dataFlags = 0 ∧ i.spaceFlags = 0 ∧
    i.enables0 = 0 ∧ i.enables1 = 0 ∧ i.enables2 = 0 ∧ i.masterEnable = false ∧ i.polarity = .activeLow ∧
    i.errorCause = .none ∧ i.errorAddr = 0 ∧ i.log = [] ∧ i.overflow = false

/-- Nothing is in transit to or from a port. -/
def Links.atReset (k : Links) : Prop :=
  k.notices = ⟨.none, .none, .none, .none⟩ ∧ k.muOwesAck = false ∧ k.muAck = false ∧ k.cuAck = false ∧
    k.suAck = false ∧ k.fromLu = [] ∧ k.fromCu = [] ∧ k.evictions = 0

/-- Every block at the values that R130 gives it. -/
def State.blocksAtReset (t : State) : Prop :=
  (∀ cx, (t.ctx cx).atReset) ∧ (∀ p, (t.port p).atReset) ∧ (∀ p, (t.link p).atReset) ∧
    t.arbiters = ⟨15, 15, 15, 15⟩ ∧ (∀ l, t.lock l = ⟨0, 0, none, 0, 0, false, []⟩) ∧ t.luTicks = [] ∧
    t.forcing = none ∧
    (∀ n, t.chan n = ⟨none, 0, [], [], []⟩) ∧ t.cuTicks = 0 ∧ t.cuTickOpen = false ∧ (∀ g, t.seg g = none) ∧
    t.period = none ∧ t.periodCode = 1 ∧ t.epoch = 0 ∧ t.phase = .init ∧ t.clearReport = false ∧
    (∀ p, t.keyPair p = ⟨0, 0⟩) ∧ t.inspection = none

/-- The frames, read words and memory that a reset meets: a frame in progress is cut (R130), and the words of memory
stay until the clear has ended (log 3). -/
def State.cutFrames (s t : State) : Prop :=
  (∀ p, (t.port p).latch = none ∧ (t.port p).sent = none ∧
    (t.port p).frame = if (s.port p).frame = .none then .none else .cut) ∧
    t.memory = s.memory ∧ t.pending = s.pending

/-- The chip reset event with the straps at the given levels: INIT, the clear of the memory begun, the straps sampled
(R130, R131, R115). -/
def State.chipResets (s t : State) (straps : Straps) : Prop :=
  t.blocksAtReset ∧ s.cutFrames t ∧ t.clearing = true ∧ t.resetHeld = false ∧ t.straps = straps ∧
    t.managerPort.val = 2 * straps.msel1.toNat + straps.msel0.toNat

/-! ## Conditions that every state of the part meets -/

/-- The memory keeps its canonical form. -/
def State.memoryCanonical (s : State) : Prop := s.memory.wf = true

/-- R87: 1 ≤ length ≤ 4096 and base + length ≤ 16384. -/
def Segment.valid (g : Segment) : Bool :=
  decide (1 ≤ g.length.toNat ∧ g.length.toNat ≤ Config.maxSegment ∧
    g.base.toNat + g.length.toNat ≤ Config.memoryWords)

/-- R87 for every valid entry. -/
def State.segmentsInMemory (s : State) : Prop := ∀ n, (s.seg n).all Segment.valid = true

/-- R96: a running fill's range lies inside the memory, and the words zeroed are a multiple of 64 below the count. -/
def Fill.valid (f : Fill) : Bool :=
  decide (1 ≤ f.count ∧ f.count ≤ Config.maxSegment ∧ f.start + f.count ≤ Config.memoryWords ∧ f.zeroed < f.count ∧
    f.zeroed % Config.burstWords = 0)

/-- A context that is ACTIVE carries a valid fill. -/
def CtxState.fillValid : CtxState → Bool
  | .active f => f.valid
  | _ => true

/-- R96 for every running fill. -/
def State.fillsInMemory (s : State) : Prop := ∀ cx, (s.ctx cx).state.fillValid = true

/-- In a waiter queue all URGENT entries stand before all NORMAL ones (R26). -/
def urgentFirst : List Waiter → Bool
  | [] => true
  | w :: rest =>
    match w.priority with
    | .urgent => urgentFirst rest
    | .normal => rest.all fun x => decide (x.priority = .normal)

/-- R25, R26, R51: a FREE lock has an empty queue and no lease; a HELD lock has its mark clear, and its holder does not
wait for it; the queue is ordered by class. -/
def Lock.consistent (k : Lock) : Bool :=
  (match k.holder with
    | none => k.queue.isEmpty && decide (k.lease = 0)
    | some h => !k.revoked && k.queue.all fun w => decide (w.ctx ≠ h)) && urgentFirst k.queue

/-- The lock is consistent and each entry of its queue is that of a context WAITING at LU, whose entry stands nowhere
else in the queue (R5, R26). -/
def State.lockSound (s : State) (l : LockNum) : Prop :=
  (s.lock l).consistent = true ∧ (∀ w ∈ (s.lock l).queue, (s.ctx w.ctx).state = .waiting .lu) ∧
    ((s.lock l).queue.map Waiter.ctx).Nodup

/-- R65: at most two FULL slots; receivers wait only while no slot is FULL, senders only while both are; an unbound
channel holds nothing. A message is of at most 16 words (R64). -/
def Channel.consistent (c : Channel) : Bool :=
  decide (c.slots.length ≤ Config.channelSlots) && (c.receivers.isEmpty || c.slots.isEmpty) &&
    (c.senders.isEmpty || decide (c.slots.length = Config.channelSlots)) &&
    (c.binding.isSome || (c.slots.isEmpty && c.senders.isEmpty && c.receivers.isEmpty)) &&
    c.slots.all fun m => decide (m.words.length ≤ Config.bufferWords)

/-- The channel is consistent and each entry of its queues is that of a context WAITING at CU, whose entry stands
nowhere else in them (R5, R65). -/
def State.channelSound (s : State) (n : ChanNum) : Prop :=
  (s.chan n).consistent = true ∧
    (∀ e ∈ (s.chan n).senders ++ (s.chan n).receivers, (s.ctx e.ctx).state = .waiting .cu) ∧
    (((s.chan n).senders ++ (s.chan n).receivers).map WaitEntry.ctx).Nodup

/-- R65 for every channel. -/
def State.channelsConsistent (s : State) : Prop := ∀ n, (s.chan n).consistent = true

/-- R63 to R65 where they go beyond that: at most 12 entries of senders and 4 of receivers, in the roles of the binding;
a binding has a sender, and not the receiver among them; and no message is empty. -/
def Channel.bounded (c : Channel) : Bool :=
  decide (c.senders.length ≤ 12) && decide (c.receivers.length ≤ 4) &&
    c.slots.all (fun m => decide (1 ≤ m.words.length)) &&
    match c.binding with
    | none => true
    | some b => decide (b.senders ≠ 0) && !b.senders.getLsbD b.receiver.val &&
        c.senders.all (fun e => b.senders.getLsbD (portOf e.ctx).val) &&
        c.receivers.all fun e => decide (portOf e.ctx = b.receiver)

/-- R63 to R65 for every channel: its record, and the lengths of the messages that its waiting senders offer (R68). -/
def State.channelsBounded (s : State) : Prop :=
  ∀ n, (s.chan n).bounded = true ∧ ∀ e ∈ (s.chan n).senders, (s.ctx e.ctx).command.counts 16

/-- R57: a revocation log holds at most 8 records. -/
def State.logsBounded (s : State) : Prop := ∀ p, (s.port p).log.length ≤ Config.logRecords

/-- The contexts of the lock waiter queues, entry by entry. -/
def State.lockEntries (s : State) : List CtxNum := allLocks.flatMap fun l => (s.lock l).queue.map Waiter.ctx

/-- The contexts of the channel wait queues, entry by entry. -/
def State.channelEntries (s : State) : List CtxNum :=
  allChans.flatMap fun n => ((s.chan n).senders ++ (s.chan n).receivers).map WaitEntry.ctx

/-- R5, R26, R65: a context stands in a waiter or wait queue exactly when it is WAITING there, and then in one entry
only; nothing waits at MU or SU; and a port that is OFFLINE has all four contexts IDLE (R132). -/
def State.waitersCoherent (s : State) : Prop :=
  s.lockEntries.Nodup ∧ s.channelEntries.Nodup ∧
    (∀ cx, (s.ctx cx).state = .waiting .lu ↔ cx ∈ s.lockEntries) ∧
    (∀ cx, (s.ctx cx).state = .waiting .cu ↔ cx ∈ s.channelEntries) ∧
    (∀ cx, (s.ctx cx).state ≠ .waiting .mu ∧ (s.ctx cx).state ≠ .waiting .su) ∧
    ∀ p c, (s.port p).state = .offline → (s.ctx (ctxOf p c)).state = .idle

/-- An INSPECT PORT that SU has begun is the request of a context that is PENDING at SU and names that port, and an item
of it is still to be read (R15, R127). -/
def State.inspectionSound (s : State) : Prop :=
  ∀ g ∈ s.inspection, (s.ctx g.ctx).state = .pending .su ∧
    (s.ctx g.ctx).command.code = Command.inspectPort.code ∧ (s.ctx g.ctx).command.object.toNat = g.port.val ∧
    (g.portState = none ∨ g.contexts = none ∨ g.locks = none)

/-- A FORCE RELEASE that LU has begun is the request of a context that is PENDING at LU, and LU is not within the step of
a tick event (R15, R124). -/
def State.forcingSound (s : State) : Prop :=
  ∀ cx ∈ s.forcing, (s.ctx cx).state = .pending .lu ∧ (s.ctx cx).command.code = Command.forceRelease.code ∧
    s.luTickOpen = false

/-- What the lock table, the queues and the steps of LU and SU keep together with the contexts (R5, R15, R25, R26,
R51). -/
def State.locksConsistent (s : State) : Prop :=
  s.waitersCoherent ∧ s.inspectionSound ∧ s.forcingSound ∧ ∀ l, (s.lock l).consistent = true

/-- An acknowledgement of unit `u` is in transit to the PI. -/
def Links.ackComing (k : Links) (u : UnitId) : Bool :=
  match u with
  | .mu => k.muAck
  | .lu => k.fromLu.contains .acknowledge
  | .cu => k.cuAck
  | .su => k.suAck

/-- MU has taken the notice and waits for the port's fills (R104). -/
def Links.owes (k : Links) (u : UnitId) : Bool :=
  match u with
  | .mu => k.muOwesAck
  | _ => false

/-- No request of port `p` is pending, parked or running at unit `u`. -/
def State.releasedBy (s : State) (p : Port) (u : UnitId) : Bool :=
  allSlots.all fun c => decide ((s.ctx (ctxOf p c)).state.owner ≠ some u)

/-- How far unit `u` has got with the withdrawal of a port whose acknowledgement set is `acks`: its notice has not
been taken; or MU has taken it and waits for fills alone; or its acknowledgement is in transit; or it has arrived
(R104, R138, R139). In the last two it holds no request of the port (R140). -/
def State.unitCoherent (s : State) (p : Port) (acks : PerUnit Bool) (u : UnitId) : Bool :=
  let k := s.link p
  match k.notices.get u with
  | .none =>
    if acks.get u then !k.ackComing u && !k.owes u && s.releasedBy p u
    else if k.owes u then
      !k.ackComing u && allSlots.all fun c => decide ((s.ctx (ctxOf p c)).state ≠ .pending u)
    else k.ackComing u && s.releasedBy p u && (decide (u ≠ .lu) || decide (k.fromLu.count .acknowledge = 1))
  | _ => !acks.get u && !k.ackComing u && !k.owes u

/-- R138 to R140 for one port: while WITHDRAWING it lacks an acknowledgement, and each unit is somewhere on its way;
otherwise no notice and no acknowledgement is under way. -/
def State.withdrawalCoherent (s : State) (p : Port) : Bool :=
  match (s.port p).state with
  | .withdrawing acks _ => !allAcked acks && [UnitId.mu, .lu, .cu, .su].all fun u => s.unitCoherent p acks u
  | _ => [UnitId.mu, .lu, .cu, .su].all fun u =>
      decide ((s.link p).notices.get u = .none) && !(s.link p).ackComing u && !(s.link p).owes u

/-- R138 to R140 for every port; nothing waits at MU or SU (R5). -/
def State.withdrawalsCoherent (s : State) : Prop :=
  (∀ cx, (s.ctx cx).state ≠ .waiting .mu ∧ (s.ctx cx).state ≠ .waiting .su) ∧ ∀ p, s.withdrawalCoherent p = true

/-- MU owes an acknowledgement only while a fill of the port is running, whose end will send it (R104). -/
def State.owesForFills (s : State) : Prop :=
  ∀ p, (s.link p).muOwesAck = true → ∃ c, (s.ctx (ctxOf p c)).state.isActive = true

end Sys2Proof.Machine
end

