-- ==== Sys2Proof/Certificates/Slice0/Obligations.lean ====
section
/-! DEFINITION. The statements for the provers, one `def Obligations.<Name> : Prop` each. A hypothesis `settled`,
`lockSound`, `locksConsistent`, `channelSound`, `channelsConsistent`, `Lock.consistent`, `memoryCanonical`,
`segmentsInMemory` or `fillsInMemory` is an invariant, or part of one, that statements of this file say every step
keeps. -/

open Sys2Proof Sys2Proof.Machine

/-! ## The machine as a whole -/

/-- A step runs the command at the front of the queue on the state with the rest of the queue. That the part idles on
an empty queue is the model's choice (log 1). -/
def Obligations.StepRunsTheFrontCommand : Prop :=
  (∀ (c : Instr) (rest : List Instr) (s : State),
    step { s with pending := c :: rest } = exec c { s with pending := rest }) ∧
    ∀ s : State, s.pending = [] → step s = .next s

/-- Every command answers a next state and leaves the queue of commands alone, in every state whose segment entries
and running fills lie inside the memory (R87, R96). That a command whose event cannot occur answers a next state too is
the model's choice (log 9); the fault ruled out is the model's own, for words that the memory does not have (log 3). -/
def Obligations.EveryCommandAnswersANextState : Prop :=
  ∀ (s : State) (i : Instr), s.segmentsInMemory → s.fillsInMemory → ∃ t, exec i s = .next t ∧ t.pending = s.pending

/-- The state right after reset meets every invariant stated below. -/
def Obligations.ResetMeetsTheInvariants : Prop :=
  State.reset.memoryCanonical ∧ State.reset.segmentsInMemory ∧ State.reset.fillsInMemory ∧
    State.reset.locksConsistent ∧ State.reset.channelsConsistent ∧ State.reset.logsBounded ∧
    State.reset.withdrawalsCoherent ∧ State.reset.settled ∧ State.reset.channelsBounded ∧ State.reset.owesForFills

/-- Every step keeps the memory canonical, the segment entries inside it (R87), and the running fills inside it with a
multiple of 64 words zeroed (R96). -/
def Obligations.StepKeepsMemoryUnitSound : Prop :=
  ∀ s t : State, s.memoryCanonical → s.segmentsInMemory → s.fillsInMemory → step s = .next t →
    t.memoryCanonical ∧ t.segmentsInMemory ∧ t.fillsInMemory

/-- Every step keeps the locks and the waiter and wait queues consistent: a context stands in a queue exactly when it
is WAITING there, once; a FREE lock has no queue and no lease; a HELD lock has its mark clear and is not waited for by
its holder; URGENT entries stand first; an OFFLINE port's contexts are IDLE; an INSPECT PORT that SU is within is a
request PENDING there, and so is a FORCE RELEASE that LU is within (R5, R15, R25, R26, R51, R65, R127, R132). -/
def Obligations.StepKeepsLocksConsistent : Prop :=
  ∀ s t : State, s.locksConsistent → s.channelsConsistent → step s = .next t → t.locksConsistent

/-- Every step keeps each channel as R63 to R65 say, and each revocation log at no more than 8 records (R57). Of a
channel: at most two FULL slots, with messages of 1 to 16 words; receivers wait only while no slot is FULL and senders
only while both are; at most 12 senders and 4 receivers wait, in the roles of the binding; a binding has senders, and its
receiver is none of them; an unbound channel holds nothing. -/
def Obligations.StepKeepsChannelsAndLogs : Prop :=
  (∀ s t : State, s.channelsConsistent → step s = .next t → t.channelsConsistent) ∧
    (∀ s t : State, s.channelsConsistent → s.channelsBounded → s.locksConsistent → step s = .next t →
      t.channelsBounded) ∧
    ∀ s t : State, s.logsBounded → step s = .next t → t.logsBounded

/-- Every step keeps each withdrawal coherent: a WITHDRAWING port lacks an acknowledgement; each unit still has its
notice, or waits for the port's fills, or has its acknowledgement under way, or in the set, and has then ended every
request of the port (R138 to R140). MU waits only while a fill of the port is still running, whose end sends its
acknowledgement (R104). In particular no acknowledgement set is ever left full. -/
def Obligations.StepKeepsWithdrawalsCoherent : Prop :=
  (∀ s t : State, s.withdrawalsCoherent → step s = .next t → t.withdrawalsCoherent) ∧
    (∀ s t : State, s.withdrawalsCoherent → s.owesForFills → s.locksConsistent → s.channelsConsistent →
      step s = .next t → t.owesForFills) ∧
    ∀ s : State, s.withdrawalsCoherent → s.settled

/-! ## Chip reset (R129 to R131) -/

/-- The release of RESETn, and a CHIP RESET taken from the manager port, are the chip reset event: every block at its
reset values, INIT, the clear of the memory under way, the straps sampled. The machine right after reset is as such an
event leaves it; the level of its straps and the words of its memory are the model's choice (logs 2, 3). -/
def Obligations.ChipResetEvent : Prop :=
  (∀ (s : State) (straps : Straps),
    (∃ t, exec (.resetRelease straps) s = .next t ∧ s.chipResets t straps) ∧
      ∀ cx, s.takes .chipReset cx → portOf cx = s.managerPort →
        ∃ t, exec (.chipReset cx straps) s = .next t ∧ s.chipResets t straps) ∧
    State.reset.blocksAtReset ∧ State.reset.clearing = true ∧ State.reset.resetHeld = false ∧
      (∀ a, State.reset.memory.read a = 0) ∧ State.reset.managerPort = 0 ∧ State.reset.pending = []

/-- RESETn going low holds every block at its reset values with every INTn high and every data output at high impedance;
while it is low nothing but its release, or the frames of the pins, changes the part. The model's own reading is that
the manager port number and the straps stay until the release, that the clear is not begun, and that only the pins' own
events act meanwhile (log 12), commands of other events changing nothing (log 9); and that the words of memory stay
(log 3). -/
def Obligations.ResetHeldLow : Prop :=
  (∀ s : State, ∃ t, exec .resetAssert s = .next t ∧ t.blocksAtReset ∧ s.cutFrames t ∧ t.resetHeld = true ∧
    t.clearing = false ∧ t.managerPort = s.managerPort ∧ t.straps = s.straps ∧
    ∀ p, t.intLevel p = true ∧ t.dataOutput p = .highImpedance) ∧
    ∀ (s : State) (i : Instr), s.resetHeld = true → i ≠ .resetAssert → (∀ u, i ≠ .resetRelease u) →
      (∀ p b, i ≠ .headerByte p b) → (∀ p b, i ≠ .frameShort p b) → exec i s = .next s

/-- MEMORY_CLEAR_DONE: every word is 0 and the report stands at SU; CHIP_READY: SU takes it and the chip is READY. -/
def Obligations.ClearEndsInReady : Prop :=
  (∀ s : State, s.resetHeld = false → s.clearing = true →
    ∃ t, exec .memoryClearDone s = .next t ∧ (∀ a, t.memory.read a = 0) ∧ t.clearing = false ∧ t.clearReport = true ∧
      t.phase = s.phase ∧ t.managerPort = s.managerPort ∧ t.resetHeld = false ∧ t.straps = s.straps ∧
      t.contexts = s.contexts ∧ s.keepsBut t [.memory, .chip]) ∧
    ∀ s : State, s.resetHeld = false → s.clearReport = true → s.midStep .su = false →
      ∃ t, exec .chipReady s = .next t ∧ t.phase = .ready ∧ t.clearReport = false ∧ t.clearing = s.clearing ∧
        t.managerPort = s.managerPort ∧ t.resetHeld = false ∧ t.straps = s.straps ∧ t.contexts = s.contexts ∧
        s.keepsBut t [.chip]

/-! ## Taking a request (R13, R14, R21, R22, R117) -/

/-- An arbiter grants the first standing number after the one it last granted, while its unit is free, no tick event
stands there, and no notice has waited for fifteen grants; a standing request is then granted. What counts as waiting is the
model's reading of R10 and R17: a withdrawal notice counts from its arrival, an abort notice from the strobe (log 6). A
request that is not granted is not taken: that such a command changes nothing is the model's choice (log 9). -/
def Obligations.RequestsAreTakenInTurn : Prop :=
  (∀ (s : State) (u : UnitId) (cx : CtxNum), s.grants u = some cx →
    (s.ctx cx).state.standsAt u = true ∧ s.tickStands u = false ∧ s.midStep u = false ∧
      (∀ c n, (s.ctx c).abort = some n → (s.ctx c).state.owner = some u → n.taken = false → n.grants < 15) ∧
      (∀ p g, (s.link p).notices.get u = .standing g → g < 15) ∧
      ∀ c, (s.ctx c).state.standsAt u = true →
        (cx - s.arbiters.get u - 1).val ≤ (c - s.arbiters.get u - 1).val) ∧
    (∀ (s : State) (u : UnitId) (c : CtxNum), (s.ctx c).state.standsAt u = true → s.tickStands u = false →
      s.midStep u = false → s.noNoticeDue u = true → ∃ cx, s.grants u = some cx) ∧
    (∀ (s : State) (c : Command) (cx : CtxNum) (straps : Straps), ¬ s.takes c cx →
      exec (c.taking cx straps) s = .next s) ∧
    ∀ (s : State) (cx : CtxNum), ¬ s.takes .forceRelease cx → exec (.forceRelease (.starts cx)) s = .next s

/-- The ten manager commands from a port that is not the manager port end with PRIVILEGE and change nothing else. -/
def Obligations.ManagerCommandsNeedTheManagerPort : Prop :=
  ∀ (s : State) (c : Command) (cx : CtxNum) (straps : Straps),
    c ∈ [.defineSegment, .clearSegment, .setLock, .forceRelease, .bindChannel, .unbindChannel, .setPortKeys, .setTick,
      .evictPort, .chipReset] →
    s.settled → s.takes c cx → portOf cx ≠ s.managerPort →
    ∃ t, exec (c.taking cx straps) s = .next t ∧ s.served t c.owner cx [] [] ∧ s.ends t cx { code := .privilege }

/-- A field that the command uses and that is out of range ends the request with RANGE; nothing else changes. -/
def Obligations.FieldsOutOfRangeGiveRange : Prop :=
  ∀ (s : State) (c : Command) (cx : CtxNum) (straps : Straps),
    s.settled → s.takes c cx → (c.isManager = true → portOf cx = s.managerPort) → s.outOfRange c (s.ctx cx).command →
    ∃ t, exec (c.taking cx straps) s = .next t ∧ s.served t c.owner cx [] [] ∧ s.ends t cx { code := .range }

/-- A data command that names an invalid segment or words outside it ends with MISSING; one that presents the wrong
key, or lacks the right, with PROTECTED; in this order, and nothing else changes (R88, R95, R111, R112). -/
def Obligations.DataCommandsAreChecked : Prop :=
  ∀ (s : State) (c : Command) (right : Right) (cx : CtxNum) (straps : Straps) (n : SegNum),
    c.dataRight = some right → s.settled → s.takes c cx → ¬ s.outOfRange c (s.ctx cx).command →
    (s.ctx cx).command.object.toNat = n.val →
    ((s.seg n).all (fun g => !g.reaches (s.ctx cx).command.offset.toNat (c.wordsNeeded (s.ctx cx).command)) = true →
      ∃ t, exec (c.taking cx straps) s = .next t ∧ s.served t .mu cx [] [] ∧ s.ends t cx { code := .missing }) ∧
    ∀ g, s.seg n = some g → g.reaches (s.ctx cx).command.offset.toNat (c.wordsNeeded (s.ctx cx).command) = true →
      ¬ (s.presentsKeyFor cx g.key ∧ g.rights.grants right = true) →
      ∃ t, exec (c.taking cx straps) s = .next t ∧ s.served t .mu cx [] [] ∧ s.ends t cx { code := .protected_ }

/-! ## MU (R86 to R102) -/

/-- READ returns the word it names; WRITE stores the operand there and nowhere else. -/
def Obligations.ReadAndWriteActOnOneWord : Prop :=
  ∀ (s : State) (cx : CtxNum) (n : SegNum) (g : Segment), s.settled → s.memoryCanonical →
    (s.takes .read cx → s.reachesSegment cx .read 1 n g →
      ∃ t, exec (.read cx) s = .next t ∧ s.served t .mu cx [] [] ∧
        s.ends t cx { code := .ok, value := s.memory.read (s.wordNamed cx g) }) ∧
    (s.takes .write cx → s.reachesSegment cx .write 1 n g →
      ∃ t, exec (.write cx) s = .next t ∧ s.served t .mu cx [.memory] [] ∧
        s.storesWords t (s.wordNamed cx g) [(s.ctx cx).command.operand] ∧ s.ends t cx { code := .ok })

/-- READ GROUP copies the words into the buffer, WRITE GROUP stores the buffer's words, up to the end of the segment:
OK with AUX the count, or MISSING with AUX the words done. -/
def Obligations.GroupCommandsStopAtTheSegmentEnd : Prop :=
  ∀ (s : State) (cx : CtxNum) (n : SegNum) (g : Segment), s.settled → s.memoryCanonical →
    (s.ctx cx).command.counts 16 →
    let k := (s.ctx cx).command.offset.toNat
    let count := (s.ctx cx).command.count.toNat
    let done := if k + count ≤ g.length.toNat then count else g.length.toNat - k
    let answer : Answer := if k + count ≤ g.length.toNat then { code := .ok, aux := BitVec.ofNat 16 count }
      else { code := .missing, aux := BitVec.ofNat 16 done }
    (s.takes .readGroup cx → s.reachesSegment cx .read 1 n g →
      ∃ t, exec (.readGroup cx) s = .next t ∧ s.served t .mu cx [] [] ∧
        s.ends t cx answer ((List.range done).map fun j => s.memory.read (s.wordNamed cx g + j))) ∧
    (s.takes .writeGroup cx → s.reachesSegment cx .write 1 n g →
      ∃ t, exec (.writeGroup cx) s = .next t ∧ s.served t .mu cx [.memory] [] ∧
        s.storesWords t (s.wordNamed cx g) ((s.ctx cx).buffer.toList.take done) ∧ s.ends t cx answer)

/-- TALLY adds one and saturates at FFFFFFFFh; SET IF ZERO stores into a word that holds 0; both return the old
value. -/
def Obligations.TallyAndSetIfZero : Prop :=
  ∀ (s : State) (cx : CtxNum) (n : SegNum) (g : Segment), s.settled → s.memoryCanonical →
    s.reachesSegment cx .atomic 1 n g →
    let old := s.memory.read (s.wordNamed cx g)
    (s.takes .tally cx →
      ∃ t, exec (.tally cx) s = .next t ∧ s.served t .mu cx [.memory] [] ∧
        s.storesWords t (s.wordNamed cx g) [if old.toNat = 0xFFFFFFFF then old else old + 1] ∧
        s.ends t cx { code := .ok, value := old, saturated := decide (old.toNat = 0xFFFFFFFF) }) ∧
    (s.takes .setIfZero cx →
      ∃ t, exec (.setIfZero cx) s = .next t ∧ s.served t .mu cx [.memory] [] ∧
        s.storesWords t (s.wordNamed cx g) [if old = 0 then (s.ctx cx).command.operand else old] ∧
        s.ends t cx { code := .ok, value := old, aux := if old = 0 then 1 else 0 })

/-- ZERO FILL fixes the range, clears no word, and makes the context ACTIVE with its fill record. -/
def Obligations.ZeroFillStartsAFill : Prop :=
  ∀ (s : State) (cx : CtxNum) (n : SegNum) (g : Segment), s.takes .zeroFill cx → (s.ctx cx).command.counts 4096 →
    s.reachesSegment cx .write (s.ctx cx).command.count.toNat n g →
    ∃ t, exec (.zeroFill cx) s = .next t ∧ s.served t .mu cx [] [] ∧
      (t.ctx cx).seen = { (s.ctx cx).seen with state := .active ⟨n, s.wordNamed cx g, (s.ctx cx).command.count.toNat, 0, none⟩ }

/-- FILL_BURST: a fill with a stop reason ends without clearing a word; otherwise the next 64 words, or the rest, are
cleared, and the fill ends with OK or goes on. At the end of the port's last fill MU sends the acknowledgement it owes
(R96, R98, R104). -/
def Obligations.FillBurstClearsOrEnds : Prop :=
  ∀ (s : State) (cx : CtxNum) (f : Fill), s.settled → s.memoryCanonical → s.resetHeld = false →
    (s.ctx cx).state = .active f → s.grants .mu = some cx → f.start + f.count ≤ 16384 → f.zeroed ≤ f.count →
    ∃ t, exec (.fillBurst cx) s = .next t ∧ s.served t .mu cx [.memory, .messages] [] ∧
      s.keepsMessagesBut t (portOf cx) ∧
      let last := f.stop.isSome || decide (f.count ≤ f.zeroed + 64)
      let cleared := if f.stop.isSome then 0 else min 64 (f.count - f.zeroed)
      s.storesWords t (f.start + f.zeroed) (List.replicate cleared 0) ∧
      (last = true → s.lastFill cx →
        (t.link (portOf cx)).seen = { (s.link (portOf cx)).seen with muOwesAck := false, muAck := true }) ∧
      (¬ (last = true ∧ s.lastFill cx) → (t.link (portOf cx)).seen = (s.link (portOf cx)).seen) ∧
      (∀ r, f.stop = some r →
        s.ends t cx
          { code := if r = .segmentChanged then .segmentChanged else if r = .aborted then .aborted else .cancelled,
            aux := BitVec.ofNat 16 f.zeroed }) ∧
      (f.stop = none → f.count ≤ f.zeroed + 64 → s.ends t cx { code := .ok, aux := BitVec.ofNat 16 f.count }) ∧
      (f.stop = none → f.zeroed + 64 < f.count →
        (t.ctx cx).seen = { (s.ctx cx).seen with state := .active { f with zeroed := f.zeroed + 64 } })

/-- DEFINE SEGMENT replaces the whole entry and CLEAR SEGMENT makes it invalid; both give every running fill of the
number the stop reason SEGMENT_CHANGED, unless it has one, and report how many there are. -/
def Obligations.SegmentCommandsReplaceTheEntry : Prop :=
  ∀ (s : State) (cx : CtxNum) (n : SegNum), s.settled → portOf cx = s.managerPort →
    (s.ctx cx).command.object.toNat = n.val →
    let op := (s.ctx cx).command.operand
    let stops (t : State) := ∀ c f, (s.ctx c).state = .active f → f.segment = n →
      (t.ctx c).seen = { (s.ctx c).seen with state := .active (f.stoppedBy .segmentChanged) }
    (s.takes .defineSegment cx → (s.ctx cx).command.counts 4096 →
      (op.extractLsb' 0 14).toNat + (s.ctx cx).command.count.toNat ≤ 16384 →
      ∃ t, exec (.defineSegment cx) s = .next t ∧ s.served t .mu cx [.segments] (s.fillsOn n) ∧
        t.seg n = some ⟨op.extractLsb' 0 14, (s.ctx cx).command.count, op.extractLsb' 20 12,
          ⟨op.getLsbD 16, op.getLsbD 17, op.getLsbD 18⟩⟩ ∧ s.keepsSegmentsBut t n ∧ stops t ∧
        s.ends t cx { code := .ok, aux := BitVec.ofNat 16 (s.fillsOn n).length }) ∧
    (s.takes .clearSegment cx →
      ∃ t, exec (.clearSegment cx) s = .next t ∧ s.served t .mu cx [.segments] (s.fillsOn n) ∧
        t.seg n = none ∧ s.keepsSegmentsBut t n ∧ stops t ∧
        s.ends t cx { code := .ok, value := if (s.seg n).isSome then 1 else 0,
                      aux := BitVec.ofNat 16 (s.fillsOn n).length })

/-- The four INSPECT commands report one lock, channel, segment or port, packed as R167 says, and change nothing: the
key and the base of a segment go to the manager port alone. -/
def Obligations.InspectCommandsReport : Prop :=
  ∀ (s : State) (cx : CtxNum), s.settled →
    (∀ l : LockNum, s.takes .inspectLock cx → (s.ctx cx).command.object.toNat = l.val →
      ∃ t v, exec (.inspectLock cx) s = .next t ∧ s.served t .lu cx [] [] ∧
        s.ends t cx { code := .ok, value := v, aux := BitVec.ofNat 16 (s.lock l).queue.length } ∧
        v.getLsbD 0 = (s.lock l).holder.isSome ∧ v.getLsbD 1 = (s.lock l).revoked ∧ v.extractLsb' 2 2 = 0 ∧
        v.extractLsb' 4 4 = BitVec.ofNat 4 (((s.lock l).holder.map Fin.val).getD 0) ∧
        v.extractLsb' 8 8 = (s.lock l).generation ∧ v.extractLsb' 16 16 = (s.lock l).lease) ∧
    (∀ n : ChanNum, s.takes .inspectChannel cx → (s.ctx cx).command.object.toNat = n.val →
      (portOf cx = s.managerPort ∨ ∃ b, (s.chan n).binding = some b ∧
        (b.senders.getLsbD (portOf cx).val = true ∨ b.receiver = portOf cx)) →
      ∃ t v, exec (.inspectChannel cx) s = .next t ∧ s.served t .cu cx [] [] ∧
        s.ends t cx { code := .ok, value := v, aux := (s.chan n).counter } ∧
        v.getLsbD 0 = (s.chan n).binding.isSome ∧ v.getLsbD 1 = false ∧
        v.extractLsb' 2 2 = BitVec.ofNat 2 (s.chan n).slots.length ∧ v.extractLsb' 4 4 = 0 ∧
        v.extractLsb' 8 4 = BitVec.ofNat 4 (s.chan n).senders.length ∧
        v.extractLsb' 12 3 = BitVec.ofNat 3 (s.chan n).receivers.length ∧ v.extractLsb' 15 17 = 0) ∧
    (∀ n : SegNum, s.takes .inspectSegment cx → (s.ctx cx).command.object.toNat = n.val →
      ∃ t v a, exec (.inspectSegment cx) s = .next t ∧ s.served t .mu cx [] [] ∧
        s.ends t cx { code := .ok, value := v, aux := a } ∧
        (s.seg n = none → v = 0 ∧ a = 0) ∧
        ∀ g, s.seg n = some g →
          v.getLsbD 0 = true ∧ v.getLsbD 1 = g.rights.read ∧ v.getLsbD 2 = g.rights.write ∧
          v.getLsbD 3 = g.rights.atomic ∧ v.extractLsb' 4 13 = g.length ∧ v.extractLsb' 17 3 = 0 ∧
          v.extractLsb' 20 12 = (if portOf cx = s.managerPort then g.key else 0) ∧
          a = if portOf cx = s.managerPort then g.base.setWidth 16 else 0) ∧
    ∀ p : Port, s.takes .inspectPort cx → (s.ctx cx).command.object.toNat = p.val →
      ∃ t v, exec (.inspectPort cx .whole) s = .next t ∧ s.served t .su cx [] [] ∧
        s.ends t cx { code := .ok, value := v, aux := BitVec.ofNat 16 (s.locksOf p).length } ∧
        packsInspection v (s.port p).state.bits fun c => (s.ctx (ctxOf p c)).state.bits

/-- INSPECT PORT reads its three items one by one, each as its block holds it at that read, so that events between the
reads can make them disagree: the first read takes the request, the last one completes it with the values read. With
nothing between the reads the step is the whole command. That each read is a command of its own is the model's reading
of R127 (log 11). -/
def Obligations.InspectPortItemByItem : Prop :=
  ∀ (s : State) (cx : CtxNum) (p : Port), s.settled → (s.ctx cx).command.object.toNat = p.val →
    (s.takes .inspectPort cx → ∀ i, ∃ t h, exec (.inspectPort cx (.item i)) s = .next t ∧
      s.served t .su cx [.inspection] [] ∧ (t.ctx cx).seen = (s.ctx cx).seen ∧ t.inspection = some h ∧
      s.readsItem ⟨cx, p, none, none, none⟩ h i) ∧
    (∀ g i, s.resetHeld = false → s.inspection = some g → g.ctx = cx → (s.ctx cx).state = .pending .su →
      (s.ctx cx).command.code = 0x19 → g.lacks i →
      ((∃ j, j ≠ i ∧ g.lacks j) → ∃ t h, exec (.inspectPort cx (.item i)) s = .next t ∧ s.keepsBut t [.inspection] ∧
        t.contexts = s.contexts ∧ t.inspection = some h ∧ s.readsItem g h i) ∧
      ((∀ j, j ≠ i → ¬ g.lacks j) → ∃ t h a b n v, exec (.inspectPort cx (.item i)) s = .next t ∧
        s.keepsBut t [.inspection] ∧ s.keepsContextsBut t [cx] ∧ t.inspection = none ∧ s.readsItem g h i ∧
        h.portState = some a ∧ h.contexts = some b ∧ h.locks = some n ∧ packsInspection v a b.at ∧
        s.ends t cx { code := .ok, value := v, aux := BitVec.ofNat 16 n })) ∧
    ∀ i j k t u, s.takes .inspectPort cx → i ≠ j → j ≠ k → i ≠ k → exec (.inspectPort cx (.item i)) s = .next t →
      exec (.inspectPort cx (.item j)) t = .next u →
      exec (.inspectPort cx (.item k)) u = exec (.inspectPort cx .whole) s

/-! ## LU (R25 to R45) -/

/-- An ACQUIRE that opens a FREE lock is granted it: the generation advances, the lease starts, a set mark is reported
and cleared. -/
def Obligations.AcquireOfAFreeLock : Prop :=
  ∀ (s : State) (cx : CtxNum) (l : LockNum), s.settled → (s.lock l).consistent = true → s.takes .acquire cx →
    (s.ctx cx).command.selector ≠ .unused → (s.ctx cx).command.object.toNat = l.val →
    s.presentsKeyFor cx (s.lock l).key → (s.lock l).holder = none →
    ∃ t, exec (.acquire cx) s = .next t ∧ s.served t .lu cx [.locks] [] ∧ s.keepsLocksBut t l ∧
      t.lock l = (s.lock l).heldBy cx [] ∧ s.ends t cx ((s.lock l).grantAnswer 0 (s.lock l).revoked)

/-- An ACQUIRE of a HELD lock: SELF for its holder; BUSY with NOWAIT; with WAIT it parks, URGENT behind the last URGENT
entry, NORMAL at the tail, and no result is written. With the wrong key it is PROTECTED. -/
def Obligations.AcquireOfAHeldLock : Prop :=
  ∀ (s : State) (cx : CtxNum) (l : LockNum), s.settled → s.takes .acquire cx →
    (s.ctx cx).command.selector ≠ .unused → (s.ctx cx).command.object.toNat = l.val →
    let k := s.lock l
    let entry : Waiter := ⟨cx, (s.ctx cx).command.priority, (s.ctx cx).command.timeout⟩
    (¬ s.presentsKeyFor cx k.key →
      ∃ t, exec (.acquire cx) s = .next t ∧ s.served t .lu cx [] [] ∧ s.ends t cx { code := .protected_ }) ∧
    (s.presentsKeyFor cx k.key → k.holder = some cx →
      ∃ t, exec (.acquire cx) s = .next t ∧ s.served t .lu cx [] [] ∧
        s.ends t cx { code := .self, value := k.generation.setWidth 32, aux := BitVec.ofNat 16 k.queue.length }) ∧
    (∀ h, s.presentsKeyFor cx k.key → k.holder = some h → h ≠ cx → (s.ctx cx).command.mode = .nowait →
      ∃ t, exec (.acquire cx) s = .next t ∧ s.served t .lu cx [] [] ∧
        s.ends t cx { code := .busy, value := BitVec.ofNat 32 h.val, aux := BitVec.ofNat 16 k.queue.length }) ∧
    ∀ h urgent normal, s.presentsKeyFor cx k.key → k.holder = some h → h ≠ cx → (s.ctx cx).command.mode = .wait →
      k.queue = urgent ++ normal → (∀ w ∈ urgent, w.priority = .urgent) → (∀ w ∈ normal, w.priority = .normal) →
      ∃ t, exec (.acquire cx) s = .next t ∧ s.served t .lu cx [.locks] [] ∧ s.keepsLocksBut t l ∧
        (t.ctx cx).seen = { (s.ctx cx).seen with state := .waiting .lu } ∧
        t.lock l = { k with queue := if entry.priority = .urgent then urgent ++ entry :: normal
                                     else urgent ++ normal ++ [entry] }

/-- A RELEASE by the holder, naming the current generation, frees the lock or hands it to its head waiter, which ends
with OK; a RENEW restarts the lease. -/
def Obligations.HolderReleasesAndRenews : Prop :=
  ∀ (s : State) (cx : CtxNum) (l : LockNum), s.settled → s.lockSound l → (s.ctx cx).command.object.toNat = l.val →
    (s.lock l).holder = some cx → (s.ctx cx).command.operand = (s.lock l).generation.setWidth 32 →
    let k := s.lock l
    (s.takes .release cx → k.queue = [] →
      ∃ t, exec (.release cx) s = .next t ∧ s.served t .lu cx [.locks] [] ∧ s.keepsLocksBut t l ∧
        t.lock l = { k with holder := none, lease := 0 } ∧
        s.ends t cx { code := .ok, value := (s.ctx cx).command.operand }) ∧
    (∀ w rest, s.takes .release cx → k.queue = w :: rest →
      ∃ t, exec (.release cx) s = .next t ∧ s.served t .lu cx [.locks] [w.ctx] ∧ s.keepsLocksBut t l ∧
        t.lock l = k.heldBy w.ctx rest ∧ s.ends t w.ctx (k.grantAnswer rest.length false) ∧
        s.ends t cx { code := .ok, value := (s.ctx cx).command.operand, aux := BitVec.ofNat 16 rest.length }) ∧
    (s.takes .renew cx →
      ∃ t, exec (.renew cx) s = .next t ∧ s.served t .lu cx [.locks] [] ∧ s.keepsLocksBut t l ∧
        t.lock l = { k with lease := k.period } ∧
        s.ends t cx { code := .ok, value := k.period.setWidth 32, aux := BitVec.ofNat 16 k.queue.length })

/-- A RELEASE or RENEW that names a generation which is not current, or that of a FREE lock whose mark is set, is LATE;
one that names the current generation without holding the lock is NOT_HOLDER. Both report the lock and change
nothing. -/
def Obligations.LateAndNotHolder : Prop :=
  ∀ (s : State) (c : Command) (cx : CtxNum) (straps : Straps) (l : LockNum), c = .release ∨ c = .renew → s.settled →
    s.takes c cx → (s.ctx cx).command.object.toNat = l.val → (s.ctx cx).command.operand.toNat ≤ 255 →
    let k := s.lock l
    let current := (s.ctx cx).command.operand = k.generation.setWidth 32 ∧ ¬ (k.holder = none ∧ k.revoked = true)
    let answer (code : CompletionCode) : Answer :=
      { code := code, value := k.generation.setWidth 32, aux := BitVec.ofNat 16 k.queue.length }
    (¬ current → ∃ t, exec (c.taking cx straps) s = .next t ∧ s.served t .lu cx [] [] ∧ s.ends t cx (answer .late)) ∧
    (current → k.holder ≠ some cx →
      ∃ t, exec (c.taking cx straps) s = .next t ∧ s.served t .lu cx [] [] ∧ s.ends t cx (answer .notHolder))

/-- SET LOCK writes the key and the period and nothing else. FORCE RELEASE revokes a HELD lock with cause FORCED, sends
the record to the holder's port and hands the lock on or leaves it FREE with its mark set; a FREE lock it leaves. The
record carries the epoch as the counter stands at the read of it within the step, so that a period end between the take
of the request and that read gives it the epoch of a tick that LU has not taken (R124). That the take and the read are
commands of their own is the model's reading of R124 (log 13); with nothing between them they are the whole command. -/
def Obligations.ManagerLockCommands : Prop :=
  (∀ (s t : State) (cx : CtxNum), s.takes .forceRelease cx → exec (.forceRelease (.starts cx)) s = .next t →
    exec (.forceRelease (.ends cx)) t = exec (.forceRelease (.whole cx)) s) ∧
  (∀ (s : State) (cx : CtxNum), s.takes .forceRelease cx →
    ∃ t, exec (.forceRelease (.starts cx)) s = .next t ∧ s.served t .lu cx [.forcing] [] ∧ t.forcing = some cx ∧
      (t.ctx cx).seen = (s.ctx cx).seen ∧ t.midStep .lu = true) ∧
  ∀ (s : State) (cx : CtxNum) (l : LockNum), s.settled → s.lockSound l → portOf cx = s.managerPort →
    (s.ctx cx).command.object.toNat = l.val →
    let k := s.lock l
    let op := (s.ctx cx).command.operand
    let within := s.resetHeld = false ∧ s.forcing = some cx ∧ (s.ctx cx).state = .pending .lu ∧
      (s.ctx cx).command.code = 0x10
    let revoked (t : State) (h : CtxNum) := s.keepsLocksBut t l ∧ s.losesLock t l k.queue ∧
      s.keepsMessagesBut t (portOf h) ∧
      (t.link (portOf h)).seen = { (s.link (portOf h)).seen with
        fromLu := (s.link (portOf h)).fromLu ++ [.record (k.lossRecord l .forced s.epoch)] } ∧
      s.ends t cx { code := .ok, value := k.generation.setWidth 32, aux := 1 }
    (s.takes .setLock cx →
      ∃ t, exec (.setLock cx) s = .next t ∧ s.served t .lu cx [.locks] [] ∧ s.keepsLocksBut t l ∧
        t.lock l = { k with key := op.extractLsb' 0 12, period := op.extractLsb' 16 16 } ∧
        s.ends t cx { code := .ok }) ∧
    (s.takes .forceRelease cx → k.holder = none →
      ∃ t, exec (.forceRelease (.whole cx)) s = .next t ∧ s.served t .lu cx [] [] ∧
        s.ends t cx { code := .ok, value := k.generation.setWidth 32 }) ∧
    (∀ h, s.takes .forceRelease cx → k.holder = some h →
      ∃ t, exec (.forceRelease (.whole cx)) s = .next t ∧
        s.served t .lu cx [.locks, .messages] (k.queue.head?.toList.map Waiter.ctx) ∧ revoked t h) ∧
    (within → k.holder = none →
      ∃ t, exec (.forceRelease (.ends cx)) s = .next t ∧ s.keepsBut t [.forcing] ∧ s.keepsContextsBut t [cx] ∧
        t.forcing = none ∧ s.ends t cx { code := .ok, value := k.generation.setWidth 32 }) ∧
    ∀ h, within → k.holder = some h →
      ∃ t, exec (.forceRelease (.ends cx)) s = .next t ∧ s.keepsBut t [.forcing, .locks, .messages] ∧
        s.keepsContextsBut t (cx :: k.queue.head?.toList.map Waiter.ctx) ∧ t.forcing = none ∧ revoked t h

/-! ## Ticks (R46 to R48, R76, R120 to R122) -/

/-- A tick event at LU, from wherever its step stands: first every limited wait is counted and those that reach 0 end
with TIMEOUT, then every running lease is counted in increasing lock number and those that reach 0 are revoked with
cause EXPIRED, and the event is gone. A tick event at CU: the same for its waits. With nothing due, no context changes.
That a step may stand between its parts is the model's reading (log 5). -/
def Obligations.TicksCountWaitsAndLeases : Prop :=
  (∀ (s : State) (tick : LuTick) (rest : List LuTick), s.settled → s.locksConsistent → s.resetHeld = false →
    s.forcing = none → s.luTicks = tick :: rest →
    ∃ t, exec .luTick s = .next t ∧ t.luTicks = rest ∧ s.keepsBut t [.locks, .luTicks, .messages] ∧
      s.carriesTick t tick 64) ∧
  (∀ (s : State) (k : Nat), s.settled → s.locksConsistent → s.resetHeld = false → s.cuTicks = k + 1 →
    let entries (n : ChanNum) := (s.chan n).senders ++ (s.chan n).receivers
    let after (q : List WaitEntry) :=
      (q.filter fun e => decide (e.ticks ≠ 1)).map fun e => { e with ticks := ticksAfter e.ticks }
    ∃ t, exec .cuTick s = .next t ∧ t.cuTicks = k ∧ t.cuTickOpen = false ∧ s.keepsBut t [.channels, .cuTicks] ∧
      (∀ n, ∀ e ∈ entries n, e.ticks = 1 → s.ends t e.ctx { code := .timeout }) ∧
      (∀ c, (∀ n, ∀ e ∈ entries n, e.ctx = c → e.ticks ≠ 1) → t.ctx c = s.ctx c) ∧
      ∀ n, t.chan n = { s.chan n with senders := after (s.chan n).senders, receivers := after (s.chan n).receivers }) ∧
  (∀ (s : State) (tick : LuTick) (rest : List LuTick), s.resetHeld = false → s.forcing = none →
    s.luTicks = tick :: rest → tick.point = .start → (∀ l, ∀ w ∈ (s.lock l).queue, w.ticks ≠ 1) →
    (∀ l, (s.lock l).holder ≠ none → (s.lock l).period ≠ 0 → (s.lock l).lease ≠ 1) →
    ∃ t, exec .luTick s = .next t ∧ t.luTicks = rest ∧ t.contexts = s.contexts ∧ s.keepsBut t [.locks, .luTicks] ∧
      ∀ l, t.lock l = { s.lock l with
        queue := (s.lock l).queue.map fun w => { w with ticks := if w.ticks = 0 then 0 else w.ticks - 1 }
        lease := if (s.lock l).holder ≠ none ∧ (s.lock l).period ≠ 0 ∧ (s.lock l).lease ≠ 0 then (s.lock l).lease - 1
                 else (s.lock l).lease }) ∧
    ∀ (s : State) (k : Nat), s.resetHeld = false → s.cuTicks = k + 1 →
      (∀ n, ∀ e ∈ (s.chan n).senders ++ (s.chan n).receivers, e.ticks ≠ 1) →
      ∃ t, exec .cuTick s = .next t ∧ t.cuTicks = k ∧ t.contexts = s.contexts ∧ s.keepsBut t [.channels, .cuTicks] ∧
        ∀ n, t.chan n = { s.chan n with
          senders := (s.chan n).senders.map fun e => { e with ticks := if e.ticks = 0 then 0 else e.ticks - 1 }
          receivers := (s.chan n).receivers.map fun e => { e with ticks := if e.ticks = 0 then 0 else e.ticks - 1 } }

/-- A wait whose count reaches 0 at a standing tick ends: its entry leaves its queue and the context completes with
TIMEOUT; nothing is granted and no message moves. That this part of the tick step is a command of its own, before the
tick step's end, is the model's choice (log 5). -/
def Obligations.WaitsTimeOut : Prop :=
  (∀ (s : State) (cx : CtxNum) (tick : LuTick) (rest : List LuTick) (l : LockNum) (w : Waiter), s.settled →
    s.resetHeld = false → s.forcing = none → s.luTicks = tick :: rest → tick.point = .start ∨ tick.point = .waits →
    w ∈ (s.lock l).queue → w.ctx = cx → w.ticks = 1 →
    ∃ t, exec (.lockWaitTimeout cx) s = .next t ∧ s.keepsBut t [.locks, .luTicks] ∧ s.keepsContextsBut t [cx] ∧
      (∀ k, t.lock k = { s.lock k with queue := (s.lock k).queue.filter fun x => decide (x.ctx ≠ cx) }) ∧
      t.luTicks = { tick with point := .waits } :: rest ∧ s.ends t cx { code := .timeout }) ∧
    ∀ (s : State) (cx : CtxNum) (n : ChanNum) (e : WaitEntry), s.settled → s.resetHeld = false → s.cuTicks ≠ 0 →
      e ∈ (s.chan n).senders ++ (s.chan n).receivers → e.ctx = cx → e.ticks = 1 →
      ∃ t, exec (.channelWaitTimeout cx) s = .next t ∧ s.keepsBut t [.channels, .cuTicks] ∧
        s.keepsContextsBut t [cx] ∧ t.cuTicks = s.cuTicks ∧
        (∀ k, t.chan k = { s.chan k with
          senders := (s.chan k).senders.filter fun x => decide (x.ctx ≠ cx)
          receivers := (s.chan k).receivers.filter fun x => decide (x.ctx ≠ cx) }) ∧
        s.ends t cx { code := .timeout }

/-- A lease that reaches 0 at a standing tick is revoked with cause EXPIRED and the epoch of the tick. Where waits, or the
leases of earlier locks, are still to be counted, they come first, with what ends among them: the step stands behind the
lock after it. With nothing before it the lock alone changes. That this part of the tick step is a command of its own is
the model's choice (log 5). -/
def Obligations.LeaseExpires : Prop :=
  (∀ (s : State) (l : LockNum) (tick : LuTick) (rest : List LuTick), s.settled → s.locksConsistent →
    s.resetHeld = false → s.forcing = none → s.luTicks = tick :: rest → tick.point.visits 64 l = true →
    (s.lock l).runsOut = true →
    ∃ t, exec (.leaseExpiry l) s = .next t ∧ s.keepsBut t [.locks, .luTicks, .messages] ∧
      t.luTicks = { tick with point := .leases (l.val + 1) } :: rest ∧ s.carriesTick t tick (l.val + 1)) ∧
  ∀ (s : State) (l : LockNum) (tick : LuTick) (rest : List LuTick) (h : CtxNum), s.settled → s.resetHeld = false →
    s.forcing = none → s.lockSound l → s.luTicks = tick :: rest →
    tick.point = .leases l.val ∨ (tick.point = .start ∧ (∀ k, ∀ w ∈ (s.lock k).queue, w.ticks = 0) ∧
      ∀ k, k < l → (s.lock k).holder = none ∨ (s.lock k).period = 0 ∨ (s.lock k).lease = 0) →
    (s.lock l).holder = some h → (s.lock l).period ≠ 0 → (s.lock l).lease = 1 →
    ∃ t, exec (.leaseExpiry l) s = .next t ∧ s.keepsBut t [.locks, .luTicks, .messages] ∧
      s.keepsContextsBut t ((s.lock l).queue.head?.toList.map Waiter.ctx) ∧ s.keepsLocksBut t l ∧
      s.losesLock t l (s.lock l).queue ∧ s.keepsMessagesBut t (portOf h) ∧
      (t.link (portOf h)).seen = { (s.link (portOf h)).seen with
        fromLu := (s.link (portOf h)).fromLu ++ [.record ((s.lock l).lossRecord l .expired tick.epoch)] } ∧
      t.luTicks = { tick with point := .leases (l.val + 1) } :: rest

/-- A tick step taken in parts is the tick step: a timeout or an expiry made first, and then the tick, leaves the same
state as the tick alone, at LU and at CU (R46, R47, R48, R76). It rests on the model's reading of these commands
(log 5). -/
def Obligations.TickStepTakenInParts : Prop :=
  ∀ s : State, s.settled → s.locksConsistent →
    (∀ cx t, s.luTicks ≠ [] → exec (.lockWaitTimeout cx) s = .next t → exec .luTick t = exec .luTick s) ∧
    (∀ l t, s.luTicks ≠ [] → exec (.leaseExpiry l) s = .next t → exec .luTick t = exec .luTick s) ∧
    ∀ cx t, s.cuTicks ≠ 0 → exec (.channelWaitTimeout cx) s = .next t → exec .cuTick t = exec .cuTick s

/-- SET TICK sets the generator and reports the one it found; a period goes on only if it runs on with the code it has.
PERIOD_END advances the epoch and delivers a tick event, with the new epoch, to LU and one to CU. -/
def Obligations.TickGenerator : Prop :=
  (∀ (s : State) (cx : CtxNum), s.settled → s.takes .setTick cx → portOf cx = s.managerPort →
    let w := (s.ctx cx).command.operand
    ∃ t v, exec (.setTick cx) s = .next t ∧ s.served t .su cx [.generator] [] ∧ t.epoch = s.epoch ∧
      t.periodCode = w.extractLsb' 0 2 ∧
      t.period = (if w.getLsbD 4 = false then none
        else if s.period ≠ none ∧ s.periodCode = w.extractLsb' 0 2 then s.period else some (w.extractLsb' 0 2)) ∧
      s.ends t cx { code := .ok, value := v } ∧ v.extractLsb' 0 2 = s.periodCode ∧ v.extractLsb' 2 2 = 0 ∧
      v.getLsbD 4 = s.period.isSome ∧ v.extractLsb' 5 27 = 0) ∧
    ∀ (s : State) (code : PeriodCode), s.resetHeld = false → s.period = some code → s.midStep .su = false →
      ∃ t, exec .periodEnd s = .next t ∧ t.contexts = s.contexts ∧ s.keepsBut t [.luTicks, .cuTicks, .generator] ∧
        t.epoch = s.epoch + 1 ∧ t.luTicks = s.luTicks ++ [⟨s.epoch + 1, .start⟩] ∧ t.cuTicks = s.cuTicks + 1 ∧
        t.cuTickOpen = s.cuTickOpen ∧ t.period = some s.periodCode ∧ t.periodCode = s.periodCode

/-! ## CU (R63 to R85) -/

/-- A SEND that passes its checks and finds an EMPTY slot is accepted under the next number: kept in the slot with DATA
sent to the receiver port, or handed over at once to the head waiting receiver. -/
def Obligations.SendIsAccepted : Prop :=
  ∀ (s : State) (cx : CtxNum) (n : ChanNum) (b : Binding), s.settled → s.channelSound n → s.takes .send cx →
    (s.ctx cx).command.object.toNat = n.val → (s.ctx cx).command.counts 16 →
    (s.ctx cx).command.selector ≠ .unused → (s.chan n).binding = some b → b.senders.getLsbD (portOf cx).val = true →
    s.presentsKeyFor cx b.key → (s.chan n).slots.length < 2 →
    let c := s.chan n
    let m := s.offers cx c.counter
    let answer : Answer := { code := .ok, value := m.seq.setWidth 32, aux := BitVec.ofNat 16 (s.ctx cx).command.count.toNat }
    (c.receivers = [] →
      ∃ t, exec (.send cx) s = .next t ∧ s.served t .cu cx [.channels, .messages] [] ∧ s.keepsChannelsBut t n ∧
        t.chan n = { c with counter := c.counter + 1, slots := c.slots ++ [m] } ∧ s.keepsMessagesBut t b.receiver ∧
        (t.link b.receiver).seen = { (s.link b.receiver).seen with
          fromCu := (s.link b.receiver).fromCu ++ [⟨n, .data, true⟩] } ∧ s.ends t cx answer) ∧
    ∀ r rest, c.receivers = r :: rest →
      ∃ t a, exec (.send cx) s = .next t ∧ s.served t .cu cx [.channels] [r.ctx] ∧ s.keepsChannelsBut t n ∧
        t.chan n = { c with counter := c.counter + 1, receivers := rest } ∧
        s.ends t r.ctx { code := .ok, value := m.seq.setWidth 32, aux := a } m.words ∧ packsReceipt a m ∧
        s.ends t cx answer

/-- A SEND that finds both slots FULL, and a RECEIVE that finds none FULL: with NOWAIT the answers FULL and EMPTY, with
WAIT the context parks at the tail of its queue and no result is written. -/
def Obligations.ChannelNotReady : Prop :=
  ∀ (s : State) (cx : CtxNum) (n : ChanNum) (b : Binding), s.settled →
    (s.ctx cx).command.object.toNat = n.val → (s.ctx cx).command.selector ≠ .unused → (s.chan n).binding = some b →
    s.presentsKeyFor cx b.key →
    let c := s.chan n
    let entry : WaitEntry := ⟨cx, (s.ctx cx).command.timeout⟩
    (s.takes .send cx → (s.ctx cx).command.counts 16 → b.senders.getLsbD (portOf cx).val = true → c.slots.length = 2 →
      ((s.ctx cx).command.mode = .nowait →
        ∃ t, exec (.send cx) s = .next t ∧ s.served t .cu cx [] [] ∧
          s.ends t cx { code := .full, value := c.counter.setWidth 32, aux := BitVec.ofNat 16 c.senders.length }) ∧
      ((s.ctx cx).command.mode = .wait →
        ∃ t, exec (.send cx) s = .next t ∧ s.served t .cu cx [.channels] [] ∧ s.keepsChannelsBut t n ∧
          (t.ctx cx).seen = { (s.ctx cx).seen with state := .waiting .cu } ∧
          t.chan n = { c with senders := c.senders ++ [entry] })) ∧
    (s.takes .receive cx → b.receiver = portOf cx → c.slots = [] →
      ((s.ctx cx).command.mode = .nowait →
        ∃ t, exec (.receive cx) s = .next t ∧ s.served t .cu cx [] [] ∧
          s.ends t cx { code := .empty, value := c.counter.setWidth 32 }) ∧
      ((s.ctx cx).command.mode = .wait →
        ∃ t, exec (.receive cx) s = .next t ∧ s.served t .cu cx [.channels] [] ∧ s.keepsChannelsBut t n ∧
          (t.ctx cx).seen = { (s.ctx cx).seen with state := .waiting .cu } ∧
          t.chan n = { c with receivers := c.receivers ++ [entry] }))

/-- A RECEIVE that finds a FULL slot gets the oldest message. The freed slot is refilled with the head waiting sender's
message, with DATA sent to the receiver port, or SPACE is sent to every sender port. -/
def Obligations.ReceiveDeliversTheOldest : Prop :=
  ∀ (s : State) (cx : CtxNum) (n : ChanNum) (b : Binding) (m : Message) (rest : List Message), s.settled →
    s.channelSound n → s.takes .receive cx → (s.ctx cx).command.object.toNat = n.val →
    (s.ctx cx).command.selector ≠ .unused → (s.chan n).binding = some b → b.receiver = portOf cx →
    s.presentsKeyFor cx b.key → (s.chan n).slots = m :: rest →
    let c := s.chan n
    (c.senders = [] →
      ∃ t a, exec (.receive cx) s = .next t ∧ s.served t .cu cx [.channels, .messages] [] ∧ s.keepsChannelsBut t n ∧
        t.chan n = { c with slots := rest } ∧
        (∀ p, (t.link p).seen = { (s.link p).seen with
          fromCu := (s.link p).fromCu ++ if b.senders.getLsbD p.val then [⟨n, .space, true⟩] else [] }) ∧
        s.ends t cx { code := .ok, value := m.seq.setWidth 32, aux := a } m.words ∧ packsReceipt a m) ∧
    ∀ e es, c.senders = e :: es →
      let sent := s.offers e.ctx c.counter
      ∃ t a, exec (.receive cx) s = .next t ∧ s.served t .cu cx [.channels, .messages] [e.ctx] ∧
        s.keepsChannelsBut t n ∧
        t.chan n = { c with slots := rest ++ [sent], counter := c.counter + 1, senders := es } ∧
        s.keepsMessagesBut t b.receiver ∧
        (t.link b.receiver).seen = { (s.link b.receiver).seen with
          fromCu := (s.link b.receiver).fromCu ++ [⟨n, .data, true⟩] } ∧
        s.ends t e.ctx { code := .ok, value := sent.seq.setWidth 32, aux := BitVec.ofNat 16 sent.words.length } ∧
        s.ends t cx { code := .ok, value := m.seq.setWidth 32, aux := a } m.words ∧ packsReceipt a m

/-- SEND and RECEIVE of an unbound channel end with MISSING, from a port not bound in the role with WRONG_PORT, with
the wrong key with PROTECTED; INSPECT CHANNEL from a port with no part in the channel ends with WRONG_PORT. Nothing
else changes. -/
def Obligations.ChannelCommandsAreChecked : Prop :=
  ∀ (s : State) (c : Command) (cx : CtxNum) (straps : Straps) (n : ChanNum), s.settled → s.takes c cx →
    ¬ s.outOfRange c (s.ctx cx).command → (s.ctx cx).command.object.toNat = n.val →
    let fails (code : CompletionCode) :=
      ∃ t, exec (c.taking cx straps) s = .next t ∧ s.served t .cu cx [] [] ∧ s.ends t cx { code := code }
    let bound (b : Binding) := if c = .send then b.senders.getLsbD (portOf cx).val = true else b.receiver = portOf cx
    (c = .send ∨ c = .receive → (s.chan n).binding = none → fails .missing) ∧
    (∀ b, c = .send ∨ c = .receive → (s.chan n).binding = some b → ¬ bound b → fails .wrongPort) ∧
    (∀ b, c = .send ∨ c = .receive → (s.chan n).binding = some b → bound b → ¬ s.presentsKeyFor cx b.key →
      fails .protected_) ∧
    (c = .inspectChannel → portOf cx ≠ s.managerPort →
      ((s.chan n).binding.all fun b => !b.senders.getLsbD (portOf cx).val && decide (b.receiver ≠ portOf cx)) = true →
      fails .wrongPort)

/-- BIND CHANNEL binds an unbound channel afresh and sends SPACE to every sender port; a bound one is IN_USE. UNBIND
CHANNEL unbinds an idle channel, keeping its counter; it answers MISSING or, without force, IN_USE. -/
def Obligations.BindAndUnbind : Prop :=
  ∀ (s : State) (cx : CtxNum) (n : ChanNum), s.settled → portOf cx = s.managerPort →
    (s.ctx cx).command.object.toNat = n.val →
    let c := s.chan n
    let op := (s.ctx cx).command.operand
    let new : Binding := ⟨op.extractLsb' 0 4, (op.extractLsb' 4 2).toFin, op.extractLsb' 16 12⟩
    let quiet := c.slots = [] ∧ c.senders = [] ∧ c.receivers = []
    (s.takes .bindChannel cx → new.senders ≠ 0 → new.senders.getLsbD new.receiver.val = false → c.binding = none →
      ∃ t, exec (.bindChannel cx) s = .next t ∧ s.served t .cu cx [.channels, .messages] [] ∧ s.keepsChannelsBut t n ∧
        t.chan n = ⟨some new, 0, [], [], []⟩ ∧
        (∀ p, (t.link p).seen = { (s.link p).seen with
          fromCu := (s.link p).fromCu ++ if new.senders.getLsbD p.val then [⟨n, .space, true⟩] else [] }) ∧
        s.ends t cx { code := .ok }) ∧
    (∀ b, s.takes .bindChannel cx → new.senders ≠ 0 → new.senders.getLsbD new.receiver.val = false →
      c.binding = some b →
      ∃ t, exec (.bindChannel cx) s = .next t ∧ s.served t .cu cx [] [] ∧ s.ends t cx { code := .inUse }) ∧
    (s.takes .unbindChannel cx → c.binding = none →
      ∃ t, exec (.unbindChannel cx) s = .next t ∧ s.served t .cu cx [] [] ∧ s.ends t cx { code := .missing }) ∧
    (∀ b, s.takes .unbindChannel cx → c.binding = some b → quiet →
      ∃ t, exec (.unbindChannel cx) s = .next t ∧ s.served t .cu cx [.channels] [] ∧ s.keepsChannelsBut t n ∧
        t.chan n = ⟨none, c.counter, [], [], []⟩ ∧ s.ends t cx { code := .ok }) ∧
    (∀ b, s.takes .unbindChannel cx → c.binding = some b → ¬ quiet → op.getLsbD 0 = false →
      ∃ t, exec (.unbindChannel cx) s = .next t ∧ s.served t .cu cx [] [] ∧
        s.ends t cx { code := .inUse, value := BitVec.ofNat 32 c.slots.length,
                      aux := BitVec.ofNat 16 (c.senders.length + c.receivers.length) })

/-- A forced unbind discards the messages, cancels every waiter, sends the clearings of DATA and SPACE to the bound
ports, and unbinds the channel with its counter kept. -/
def Obligations.ForcedUnbind : Prop :=
  ∀ (s : State) (cx : CtxNum) (n : ChanNum) (b : Binding), s.settled → s.channelSound n →
    portOf cx = s.managerPort → s.takes .unbindChannel cx → (s.ctx cx).command.object.toNat = n.val →
    (s.chan n).binding = some b →
    ¬ ((s.chan n).slots = [] ∧ (s.chan n).senders = [] ∧ (s.chan n).receivers = []) →
    (s.ctx cx).command.operand.getLsbD 0 = true →
    let c := s.chan n
    let waiters := (c.senders ++ c.receivers).map WaitEntry.ctx
    ∃ t, exec (.unbindChannel cx) s = .next t ∧ s.served t .cu cx [.channels, .messages] waiters ∧
      s.keepsChannelsBut t n ∧ t.chan n = ⟨none, c.counter, [], [], []⟩ ∧
      (∀ w ∈ waiters, s.ends t w { code := .cancelled }) ∧
      (∀ p, (t.link p).seen = { (s.link p).seen with
        fromCu := (s.link p).fromCu ++ (if p = b.receiver then [⟨n, .data, false⟩] else []) ++
          if b.senders.getLsbD p.val then [⟨n, .space, false⟩] else [] }) ∧
      s.ends t cx { code := .ok, aux := BitVec.ofNat 16 c.slots.length }

/-! ## SU (R108, R125) -/

/-- SET PORT KEYS replaces one port's pair and returns the old one; EVICT PORT sends an eviction order to a port other
than the manager's. -/
def Obligations.SetPortKeysAndEvictPort : Prop :=
  ∀ (s : State) (cx : CtxNum) (p : Port), s.settled → portOf cx = s.managerPort →
    (s.ctx cx).command.object.toNat = p.val →
    (s.takes .setPortKeys cx →
      ∃ t v, exec (.setPortKeys cx) s = .next t ∧ s.served t .su cx [.keys] [] ∧
        t.keyPair p = ⟨(s.ctx cx).command.operand.extractLsb' 0 12, (s.ctx cx).command.operand.extractLsb' 16 12⟩ ∧
        (∀ q, q ≠ p → t.keyPair q = s.keyPair q) ∧ s.ends t cx { code := .ok, value := v } ∧
        v.extractLsb' 0 12 = (s.keyPair p).primary ∧ v.extractLsb' 12 4 = 0 ∧
        v.extractLsb' 16 12 = (s.keyPair p).alternate ∧ v.extractLsb' 28 4 = 0) ∧
    (s.takes .evictPort cx → p ≠ s.managerPort →
      ∃ t, exec (.evictPort cx) s = .next t ∧ s.served t .su cx [.messages] [] ∧ s.keepsMessagesBut t p ∧
        (t.link p).seen = { (s.link p).seen with evictions := (s.link p).evictions + 1 } ∧ s.ends t cx { code := .ok })

/-! ## Abort notices (R10, R16, R43, R78, R103) -/

/-- A unit that takes an abort notice for a PENDING request ends it with ABORTED; MU gives a running fill the stop
reason ABORTED, unless it has one, and the notice stays until the fill ends. -/
def Obligations.AbortOfPendingAndOfFill : Prop :=
  (∀ (s : State) (cx : CtxNum) (u : UnitId), s.settled → s.resetHeld = false → (s.ctx cx).state = .pending u →
    (s.ctx cx).abort ≠ none → s.midStep u = false →
    ∃ t, exec (.abortNoticePending cx) s = .next t ∧ s.keepsBut t [] ∧ s.keepsContextsBut t [cx] ∧
      s.ends t cx { code := .aborted }) ∧
    ∀ (s : State) (cx : CtxNum) (f : Fill) (n : AbortNotice), s.resetHeld = false → (s.ctx cx).state = .active f →
      (s.ctx cx).abort = some n → n.taken = false →
      ∃ t, exec (.fillAbort cx) s = .next t ∧ s.keepsBut t [] ∧ s.keepsContextsBut t [cx] ∧
        t.ctx cx = { s.ctx cx with state := .active (f.stoppedBy .aborted), abort := some { n with taken := true } }

/-- An abort notice for a lock waiter or a channel waiter takes its entry out of its queue, from wherever it stands,
and the context completes with ABORTED; nothing is granted and no message moves. -/
def Obligations.AbortOfAWait : Prop :=
  (∀ (s : State) (cx : CtxNum), s.settled → s.resetHeld = false → (s.ctx cx).state = .waiting .lu →
    (s.ctx cx).abort ≠ none → s.midStep .lu = false →
    ∃ t, exec (.lockWaitAbort cx) s = .next t ∧ s.keepsBut t [.locks] ∧ s.keepsContextsBut t [cx] ∧
      (∀ k, t.lock k = { s.lock k with queue := (s.lock k).queue.filter fun x => decide (x.ctx ≠ cx) }) ∧
      s.ends t cx { code := .aborted }) ∧
    ∀ (s : State) (cx : CtxNum), s.settled → s.resetHeld = false → (s.ctx cx).state = .waiting .cu →
      (s.ctx cx).abort ≠ none → s.midStep .cu = false →
      ∃ t, exec (.channelWaitAbort cx) s = .next t ∧ s.keepsBut t [.channels] ∧ s.keepsContextsBut t [cx] ∧
        (∀ k, t.chan k = { s.chan k with
          senders := (s.chan k).senders.filter fun x => decide (x.ctx ≠ cx)
          receivers := (s.chan k).receivers.filter fun x => decide (x.ctx ≠ cx) }) ∧
        s.ends t cx { code := .aborted }

/-! ## Withdrawal (R17, R44, R84, R104, R128, R136 to R142) -/

/-- A withdrawal begins: the port is WITHDRAWING with an empty acknowledgement set, and a notice goes to each unit; a
PORT RESET sets the mark too. DETACH, an eviction order and PORT RESET are the beginnings, from an ONLINE port. -/
def Obligations.WithdrawalBegins : Prop :=
  ∀ (s : State) (p : Port), (s.port p).state = .online →
    let begins (t : State) (mark : Bool) (frame : Frame) (evictions : Nat) :=
      t.contexts = s.contexts ∧ s.keepsBut t [.ports, .messages] ∧ s.keepsPortsBut t p ∧
        t.port p = { s.port p with state := .withdrawing ⟨false, false, false, false⟩ mark, frame := frame } ∧
        (∀ q, q ≠ p → t.link q = s.link q) ∧
        t.link p = { s.link p with notices := ⟨.inTransit, .inTransit, .inTransit, .inTransit⟩, evictions := evictions }
    (s.takesWord p .write 0x02 → ∃ t, exec (.detach p) s = .next t ∧
      begins t false ((s.port p).frame.afterWord .write 0x02) (s.link p).evictions) ∧
    (s.takesWord p .write 0x02 → ∃ t, exec (.portReset p) s = .next t ∧
      begins t true ((s.port p).frame.afterWord .write 0x02) (s.link p).evictions) ∧
    ∀ n, s.resetHeld = false → (s.link p).evictions = n + 1 →
      ∃ t, exec (.evictionOrder p) s = .next t ∧ begins t false (s.port p).frame n

/-- Elsewhere a DETACH and an eviction order do nothing; a PORT RESET sets the mark of a withdrawal in progress, and of
an OFFLINE port it clears the window at once: the value of a read word between its bits is kept, and a LOG word among
them then removes nothing at its last bit (R59). -/
def Obligations.PortActionsElsewhere : Prop :=
  ∀ (s : State) (p : Port),
    (s.takesWord p .write 0x02 → (s.port p).state ≠ .online →
      ∃ t, exec (.detach p) s = .next t ∧ s.wordChanges t p .write 0x02 (s.port p) ∧ t.contexts = s.contexts) ∧
    (∀ n, s.resetHeld = false → (s.port p).state ≠ .online → (s.link p).evictions = n + 1 →
      ∃ t, exec (.evictionOrder p) s = .next t ∧ t.contexts = s.contexts ∧ s.keepsBut t [.messages] ∧
        (∀ q, q ≠ p → t.link q = s.link q) ∧ t.link p = { s.link p with evictions := n }) ∧
    (∀ acks mark, s.takesWord p .write 0x02 → (s.port p).state = .withdrawing acks mark →
      ∃ t, exec (.portReset p) s = .next t ∧
        s.wordChanges t p .write 0x02 { s.port p with state := .withdrawing acks true } ∧ t.contexts = s.contexts) ∧
    (s.takesWord p .write 0x02 → (s.port p).state = .offline →
      ∃ t, exec (.portReset p) s = .next t ∧ s.keepsBut t [.ports] ∧ s.keepsPortsBut t p ∧ (t.port p).atReset ∧
        (s.port p).keepsSerial (t.port p) ∧
        (t.port p).frame = (s.port p).frame.afterWord .write 0x02 ∧ (∀ c, (t.ctx (ctxOf p c)).atReset) ∧
        ∀ c, portOf c ≠ p → t.ctx c = s.ctx c)

/-- A notice arrives at its unit and stands there. MU then ends the port's pending requests with CANCELLED, gives its
running fills the stop reason CANCELLED, unless they have one, and acknowledges at once if there is none. That arrival
and taking are two steps is the model's reading of R17 (log 6). -/
def Obligations.MuWithdrawalNotice : Prop :=
  (∀ (s : State) (p : Port) (u : UnitId), s.resetHeld = false → (s.link p).notices.get u = .inTransit →
    ∃ t, exec (withdrawalNoticeAt u p .arrive) s = .next t ∧ t.contexts = s.contexts ∧ s.keepsBut t [.messages] ∧
      (∀ q, q ≠ p → t.link q = s.link q) ∧
      t.link p = { s.link p with notices := (s.link p).notices.set u (.standing 0) }) ∧
    ∀ (s : State) (p : Port), s.settled → s.takesNotice p .mu →
      let fills := ∃ c : Fin 4, (s.ctx (ctxOf p c)).state.isActive = true
      ∃ t, exec (.muWithdrawalNotice p .take) s = .next t ∧ s.keepsBut t [.messages] ∧
        (∀ c, portOf c ≠ p → t.ctx c = s.ctx c) ∧
        (∀ c, portOf c = p → (s.ctx c).state = .pending .mu → s.ends t c { code := .cancelled }) ∧
        (∀ c f, portOf c = p → (s.ctx c).state = .active f →
          t.ctx c = { s.ctx c with state := .active (f.stoppedBy .cancelled) }) ∧
        (∀ c, portOf c = p → (s.ctx c).state ≠ .pending .mu → (s.ctx c).state.isActive = false → t.ctx c = s.ctx c) ∧
        (∀ q, q ≠ p → t.link q = s.link q) ∧
        (fills → t.link p = { s.link p with notices := (s.link p).notices.set .mu .none, muOwesAck := true }) ∧
        (¬ fills → t.link p = { s.link p with
          notices := (s.link p).notices.set .mu .none, muOwesAck := false, muAck := true })

/-- LU takes a withdrawal notice: the port's pending requests and waiters end with CANCELLED, then each of its locks is
revoked with cause WITHDRAWN, in increasing number, and handed to the head waiter of another port or left FREE with its
mark set; the records go to the port, and the acknowledgement behind them. -/
def Obligations.LuWithdrawalNotice : Prop :=
  ∀ (s : State) (p : Port), s.settled → s.locksConsistent → s.takesNotice p .lu →
    let held (l : LockNum) := (s.lock l).holder.any fun h => portOf h == p
    let left (l : LockNum) := (s.lock l).queue.filter fun w => decide (portOf w.ctx ≠ p)
    ∃ t, exec (.luWithdrawalNotice p .take) s = .next t ∧ s.keepsBut t [.messages, .locks] ∧
      (∀ c, portOf c = p → (s.ctx c).state = .pending .lu ∨ (s.ctx c).state = .waiting .lu →
        s.ends t c { code := .cancelled }) ∧
      (∀ l, held l = true → s.losesLock t l (left l)) ∧
      (∀ l, held l = false → t.lock l = { s.lock l with queue := left l }) ∧
      (∀ c, ¬ (portOf c = p ∧ ((s.ctx c).state = .pending .lu ∨ (s.ctx c).state = .waiting .lu)) →
        (∀ l, held l = true → (left l).head?.map Waiter.ctx ≠ some c) → t.ctx c = s.ctx c) ∧
      (∀ q, q ≠ p → t.link q = s.link q) ∧
      t.link p = { s.link p with
        notices := (s.link p).notices.set .lu .none
        fromLu := (s.link p).fromLu ++
          ((allLocks.filter held).map fun l => .record ((s.lock l).lossRecord l .withdrawn s.epoch)) ++
          [.acknowledge] }

/-- CU takes a withdrawal notice: the port's pending requests and waiters end with CANCELLED and its entries leave
every queue; no message moves. SU: its pending requests end with CANCELLED. Both acknowledge in the step. -/
def Obligations.CuAndSuWithdrawalNotice : Prop :=
  (∀ (s : State) (p : Port), s.settled → s.takesNotice p .cu →
    ∃ t, exec (.cuWithdrawalNotice p .take) s = .next t ∧ s.keepsBut t [.messages, .channels] ∧
      s.cancels t p [.pending .cu, .waiting .cu] ∧
      (∀ n, t.chan n = { s.chan n with
        senders := (s.chan n).senders.filter fun e => decide (portOf e.ctx ≠ p)
        receivers := (s.chan n).receivers.filter fun e => decide (portOf e.ctx ≠ p) }) ∧
      (∀ q, q ≠ p → t.link q = s.link q) ∧
      t.link p = { s.link p with notices := (s.link p).notices.set .cu .none, cuAck := true }) ∧
    ∀ (s : State) (p : Port), s.settled → s.takesNotice p .su →
      ∃ t, exec (.suWithdrawalNotice p .take) s = .next t ∧ s.keepsBut t [.messages] ∧
        s.cancels t p [.pending .su] ∧ (∀ q, q ≠ p → t.link q = s.link q) ∧
        t.link p = { s.link p with notices := (s.link p).notices.set .su .none, suAck := true }

/-- The PI takes a unit's acknowledgement into the set. With all four in it, and no context of the port busy, the
withdrawal completes in the same step: contexts IDLE with their results cleared, DATA, SPACE and WINDOW_ERROR clear,
OFFLINE; with the mark the whole window is cleared: the value of a read word between its bits is kept, and a LOG word
among them then removes nothing at its last bit (R59). -/
def Obligations.WithdrawalAcknowledged : Prop :=
  ∀ (s : State) (p : Port) (u : UnitId) (acks : PerUnit Bool) (mark : Bool), s.resetHeld = false →
    (s.port p).state = .withdrawing acks mark → (s.link p).ackNext u →
    let full := (acks.set u true).mu = true ∧ (acks.set u true).lu = true ∧ (acks.set u true).cu = true ∧
      (acks.set u true).su = true ∧ ∀ c, (s.ctx (ctxOf p c)).state = .idle ∨ (s.ctx (ctxOf p c)).state = .done
    ∃ t, exec (.withdrawalAck p u) s = .next t ∧ s.keepsBut t [.ports, .messages] ∧ s.keepsPortsBut t p ∧
      (∀ q, q ≠ p → t.link q = s.link q) ∧ t.link p = (s.link p).withoutAck u ∧
      (∀ c, portOf c ≠ p → t.ctx c = s.ctx c) ∧
      (¬ full → t.contexts = s.contexts ∧ t.port p = { s.port p with state := .withdrawing (acks.set u true) mark }) ∧
      (full → mark = false →
        t.port p = { s.port p with state := .offline, dataFlags := 0, spaceFlags := 0, windowError := false } ∧
        ∀ c, t.ctx (ctxOf p c) = { s.ctx (ctxOf p c) with state := .idle, result := ⟨none, 0, 0, false, false, false⟩ }) ∧
      (full → mark = true → (t.port p).atReset ∧ (t.port p).frame = (s.port p).frame ∧
        (s.port p).keepsSerial (t.port p) ∧
        ∀ c, (t.ctx (ctxOf p c)).atReset)

/-! ## Messages that arrive at a PI (R58, R75, R82) -/

/-- A revocation record is appended, or dropped with OVERFLOW when the log holds 8, and LEASE_LOST is set. CU's settings
and clearings set and clear the one flag they name; a setting is not taken while OFFLINE. -/
def Obligations.RecordsAndFlagsArrive : Prop :=
  (∀ (s : State) (p : Port) (r : RevocationRecord) (rest : List LuMessage), s.resetHeld = false →
    (s.link p).fromLu = .record r :: rest →
    ∃ t, exec (.revocationRecordArrival p) s = .next t ∧ t.contexts = s.contexts ∧ s.keepsBut t [.ports, .messages] ∧
      s.keepsPortsBut t p ∧ (∀ q, q ≠ p → t.link q = s.link q) ∧ t.link p = { s.link p with fromLu := rest } ∧
      t.port p = if (s.port p).log.length < 8 then { s.port p with log := (s.port p).log ++ [r], leaseLost := true }
        else { s.port p with overflow := true, leaseLost := true }) ∧
    ∀ (s : State) (p : Port) (n : ChanNum) (before after : List CuMessage) (m : CuMessage), s.resetHeld = false →
      (s.link p).fromCu = before ++ m :: after → (∀ x ∈ before, x.channel ≠ n) → m.channel = n →
      ∃ t, exec (if m.set then .flagSettingArrival p n else .flagClearingArrival p n) s = .next t ∧
        t.contexts = s.contexts ∧ s.keepsBut t [.ports, .messages] ∧ s.keepsPortsBut t p ∧
        (∀ q, q ≠ p → t.link q = s.link q) ∧ t.link p = { s.link p with fromCu := before ++ after } ∧
        let takes := m.set = false ∨ (s.port p).state ≠ .offline
        t.port p = { s.port p with dataFlags := (t.port p).dataFlags, spaceFlags := (t.port p).spaceFlags } ∧
        ∀ k : ChanNum,
          (t.port p).dataFlags.getLsbD k.val = (if m.kind = .data ∧ k = n ∧ takes then m.set
            else (s.port p).dataFlags.getLsbD k.val) ∧
          (t.port p).spaceFlags.getLsbD k.val = (if m.kind = .space ∧ k = n ∧ takes then m.set
            else (s.port p).spaceFlags.getLsbD k.val)

/-! ## The register window (R4 to R12, R59 to R61, R133 to R161) -/

/-- A GO of an ONLINE port's IDLE or DONE context is taken: GO_REFUSED and an old result are cleared, and a known code
makes the context PENDING at the unit that owns it, an unknown one DONE with BAD_COMMAND. Any other GO is refused with
GO_REFUSED and a window error, and changes nothing else. -/
def Obligations.GoIsTakenOrRefused : Prop :=
  ∀ (s : State) (cx : CtxNum),
    let a : WindowAddr := BitVec.ofNat 7 (0x24 + 0x10 * (slotOf cx).val)
    s.takesWord (portOf cx) .write a →
    let code := (s.ctx cx).command.code.toNat
    let fresh : Context := { s.ctx cx with
      goRefused := false, result := if (s.ctx cx).state = .done then ⟨none, 0, 0, false, false, false⟩ else (s.ctx cx).result }
    let free := (s.ctx cx).state = .idle ∨ (s.ctx cx).state = .done
    let refuses (t : State) (cause : ErrorCause) :=
      t.ctx cx = { s.ctx cx with goRefused := true } ∧ (∀ c, c ≠ cx → t.ctx c = s.ctx c) ∧
        s.wordChanges t (portOf cx) .write a { s.port (portOf cx) with windowError := true, errorCause := cause, errorAddr := a }
    let taken (t : State) := (∀ c, c ≠ cx → t.ctx c = s.ctx c) ∧ s.wordChanges t (portOf cx) .write a (s.port (portOf cx))
    ((s.port (portOf cx)).state = .online → free → 1 ≤ code → code ≤ 26 →
      ∃ t, exec (.go cx) s = .next t ∧ taken t ∧
        t.ctx cx = { fresh with
          state := .pending (if code ≤ 10 then .mu else if code ≤ 16 then .lu else if code ≤ 21 then .cu else .su) }) ∧
    ((s.port (portOf cx)).state = .online → free → code = 0 ∨ 26 < code →
      ∃ t, exec (.go cx) s = .next t ∧ taken t ∧ fresh.ended (t.ctx cx) { code := .badCommand } []) ∧
    ((s.port (portOf cx)).state = .online → ¬ free → ∃ t, exec (.go cx) s = .next t ∧ refuses t .contextBusy) ∧
    ((s.port (portOf cx)).state ≠ .online → ∃ t, exec (.go cx) s = .next t ∧ refuses t .portNotOnline)

/-- ACK of a DONE context returns it to IDLE with its result cleared, and its DONE flag clears; elsewhere it does
nothing. -/
def Obligations.AckStrobe : Prop :=
  ∀ (s : State) (cx : CtxNum), s.takesWord (portOf cx) .write (BitVec.ofNat 7 (0x24 + 0x10 * (slotOf cx).val)) →
    ∃ t, exec (.ack cx) s = .next t ∧ (∀ c, c ≠ cx → t.ctx c = s.ctx c) ∧
      s.wordChanges t (portOf cx) .write (BitVec.ofNat 7 (0x24 + 0x10 * (slotOf cx).val)) (s.port (portOf cx)) ∧
      t.ctx cx = (if (s.ctx cx).state = .done
        then { s.ctx cx with state := .idle, result := ⟨none, 0, 0, false, false, false⟩ } else s.ctx cx) ∧
      t.doneFlag (portOf cx) (slotOf cx) = false

/-- ABORT sets ABORT_LATE in DONE; in PENDING, ACTIVE or WAITING it sets the abort marker if it is clear, and a notice
stands at the unit; otherwise it is ignored. It is taken in every port state and raises no window error. -/
def Obligations.AbortStrobe : Prop :=
  ∀ (s : State) (cx : CtxNum), s.takesWord (portOf cx) .write (BitVec.ofNat 7 (0x24 + 0x10 * (slotOf cx).val)) →
    ∃ t, exec (.abort cx) s = .next t ∧ (∀ c, c ≠ cx → t.ctx c = s.ctx c) ∧
      s.wordChanges t (portOf cx) .write (BitVec.ofNat 7 (0x24 + 0x10 * (slotOf cx).val)) (s.port (portOf cx)) ∧
      ((s.ctx cx).state = .idle → t.ctx cx = s.ctx cx) ∧
      ((s.ctx cx).state = .done → t.ctx cx = { s.ctx cx with result := { (s.ctx cx).result with abortLate := true } }) ∧
      ((s.ctx cx).state ≠ .idle → (s.ctx cx).state ≠ .done → (s.ctx cx).abort = none →
        t.ctx cx = { s.ctx cx with abort := some ⟨0, false⟩ }) ∧
      ((s.ctx cx).state ≠ .idle → (s.ctx cx).state ≠ .done → (s.ctx cx).abort ≠ none → t.ctx cx = s.ctx cx)

/-- One word written to CONTROL fires the strobes whose bits are 1, in the order ACK, GO, ABORT, each on the state that
the one before it left; CONTROL reads 0. The frame's address moves on once, for the word (R158): the single strobes that
it is compared with are commands of frames of their own, by the model's choice (log 7). -/
def Obligations.ControlWordFiresStrobesInOrder : Prop :=
  ∀ (s : State) (p : Port) (c : Fin 4) (w : Word),
    let a : WindowAddr := BitVec.ofNat 7 (0x24 + 0x10 * c.val)
    s.takesWord p .write a →
    let cx := ctxOf p c
    s.windowRead p a = 0 ∧
    ∃ t u, exec (.registerWrite p (.address a) w) s = .next t ∧
      runIf (w.getLsbD 2) (.abort cx) (runIf (w.getLsbD 1) (.go cx)
        (runIf (w.getLsbD 0) (.ack cx) (.next (s.setFrame p .none)))) = .next u ∧
      t = u.setFrame p ((s.port p).frame.afterWord .write a)

/-- One word written to PORT CONTROL fires the actions whose bits are 1, in the order ATTACH, DETACH, PORT RESET, each
on the state that the one before it left; PORT CONTROL reads 0. The frame's address moves on once, for the word (R158):
the single actions that it is compared with are commands of frames of their own, by the model's choice (log 7). -/
def Obligations.PortControlWordFiresActionsInOrder : Prop :=
  ∀ (s : State) (p : Port) (w : Word), s.takesWord p .write 0x02 →
    s.windowRead p 0x02 = 0 ∧
    ∃ t u, exec (.registerWrite p (.address 0x02) w) s = .next t ∧
      runIf (w.getLsbD 2) (.portReset p) (runIf (w.getLsbD 1) (.detach p)
        (runIf (w.getLsbD 0) (.attach p) (.next (s.setFrame p .none)))) = .next u ∧
      t = u.setFrame p ((s.port p).frame.afterWord .write 0x02)

/-- ATTACH of an OFFLINE port in READY brings it ONLINE with its DATA and SPACE flags computed from the channel table;
in INIT, or while WITHDRAWING, it is refused with ATTACH_REFUSED; while ONLINE it is ignored. -/
def Obligations.AttachByStateAndPhase : Prop :=
  ∀ (s : State) (p : Port), s.takesWord p .write 0x02 →
    ∃ t, exec (.attach p) s = .next t ∧ t.contexts = s.contexts ∧
      ((s.port p).state = .offline → s.phase = .ready →
        s.wordChanges t p .write 0x02
          { s.port p with state := .online, dataFlags := (t.port p).dataFlags, spaceFlags := (t.port p).spaceFlags } ∧
        ∀ n : ChanNum, ((t.port p).dataFlags.getLsbD n.val = true ↔ s.dataDue p n) ∧
          ((t.port p).spaceFlags.getLsbD n.val = true ↔ s.spaceDue p n)) ∧
      (((s.port p).state = .offline ∧ s.phase = .init) ∨ (∃ acks mark, (s.port p).state = .withdrawing acks mark) →
        s.wordChanges t p .write 0x02
          { s.port p with windowError := true, errorCause := .attachRefused, errorAddr := 0x02 }) ∧
      ((s.port p).state = .online → s.wordChanges t p .write 0x02 (s.port p))

/-- A read word at DATA sends the buffer word that the index names at its first bit and advances the index at its last,
in every context state. A written word goes to that buffer word and advances the index, but is refused with
CONTEXT_LOCKED while the context is busy. A read word of a register other than DATA and LOG sends the value that the
register has at its first bit and has no other effect; only its last bit moves the frame's address. That such a read is
a command of this row is the model's choice (log 10). -/
def Obligations.DataRegisterAccess : Prop :=
  (∀ (s : State) (p : Port) (a : WindowAddr), ¬ isLogAddr a → ¬ isDataAddr a →
    (s.sendsWord p a → ∃ t, exec (.dataRead (.register p a) .whole) s = .next t ∧ t.contexts = s.contexts ∧
      s.wordChanges t p .read a { s.port p with latch := none, sent := some (s.windowRead p a) }) ∧
    (s.beginsWord p a → ∃ t, exec (.dataRead (.register p a) .firstBit) s = .next t ∧ t.contexts = s.contexts ∧
      s.keepsPortsBut t p ∧ s.keepsBut t [.ports] ∧
      t.port p = { s.port p with latch := some ⟨.register a, s.windowRead p a⟩ }) ∧
    ∀ v, s.endsWord p a ⟨.register a, v⟩ →
      ∃ t, exec (.dataRead (.register p a) .lastBit) s = .next t ∧ t.contexts = s.contexts ∧
        s.wordChanges t p .read a { s.port p with latch := none, sent := some v }) ∧
  ∀ (s : State) (cx : CtxNum),
    let p := portOf cx
    let a : WindowAddr := BitVec.ofNat 7 (0x29 + 0x10 * (slotOf cx).val)
    let busy := (s.ctx cx).state ≠ .idle ∧ (s.ctx cx).state ≠ .done
    (s.sendsWord p a → ∃ t, exec (.dataRead (.data cx) .whole) s = .next t ∧ (∀ c, c ≠ cx → t.ctx c = s.ctx c) ∧
      t.ctx cx = { s.ctx cx with index := (s.ctx cx).index + 1 } ∧
      s.wordChanges t p .read a { s.port p with latch := none, sent := some ((s.ctx cx).buffer.at (s.ctx cx).index) }) ∧
    (s.beginsWord p a → ∃ t, exec (.dataRead (.data cx) .firstBit) s = .next t ∧ t.contexts = s.contexts ∧ s.keepsPortsBut t p ∧
      s.keepsBut t [.ports] ∧ t.port p = { s.port p with
        latch := some ⟨.data cx, (s.ctx cx).buffer.at (s.ctx cx).index⟩ }) ∧
    (∀ v, s.endsWord p a ⟨.data cx, v⟩ →
      ∃ t, exec (.dataRead (.data cx) .lastBit) s = .next t ∧ (∀ c, c ≠ cx → t.ctx c = s.ctx c) ∧
        t.ctx cx = { s.ctx cx with index := (s.ctx cx).index + 1 } ∧
        s.wordChanges t p .read a { s.port p with latch := none, sent := some v }) ∧
    ∀ w, s.takesWord p .write a → (¬ busy → ∃ t, exec (.dataWrite cx w) s = .next t ∧ (∀ c, c ≠ cx → t.ctx c = s.ctx c) ∧
        s.wordChanges t p .write a (s.port p) ∧ (t.ctx cx).index = (s.ctx cx).index + 1 ∧
        (∀ i, (t.ctx cx).buffer.at i = if i = (s.ctx cx).index then w else (s.ctx cx).buffer.at i) ∧
        t.ctx cx = { s.ctx cx with buffer := (t.ctx cx).buffer, index := (t.ctx cx).index }) ∧
      (busy → ∃ t, exec (.dataWrite cx w) s = .next t ∧ t.contexts = s.contexts ∧
        s.wordChanges t p .write a { s.port p with windowError := true, errorCause := .contextLocked, errorAddr := a })

/-- A read word at LOG sends the oldest record as the log stood at its first bit, all 0 from an empty log, and removes
that record at its last bit; LEASE_LOST and OVERFLOW stay. -/
def Obligations.LogReadPopsTheOldest : Prop :=
  ∀ (s : State) (p : Port),
    let shows (v : Word) := ((s.port p).log = [] → v = 0) ∧ ∀ r rest, (s.port p).log = r :: rest →
      v.extractLsb' 0 6 = BitVec.ofNat 6 r.lock.val ∧ v.extractLsb' 8 8 = r.generation ∧ v.extractLsb' 16 16 = r.epoch ∧
        v.extractLsb' 6 2 = match r.cause with
          | .expired => 1
          | .forced => 2
          | .withdrawn => 3
    (s.sendsWord p 0x0C → ∃ t v, exec (.logRead p .whole) s = .next t ∧ t.contexts = s.contexts ∧ shows v ∧
      s.wordChanges t p .read 0x0C { s.port p with latch := none, sent := some v, log := (s.port p).log.tail }) ∧
    (s.beginsWord p 0x0C → ∃ t v, exec (.logRead p .firstBit) s = .next t ∧ t.contexts = s.contexts ∧ shows v ∧ s.keepsPortsBut t p ∧
      s.keepsBut t [.ports] ∧
      t.port p = { s.port p with latch := some ⟨.log (decide ((s.port p).log ≠ [])), v⟩ }) ∧
    ∀ v pops, s.endsWord p 0x0C ⟨.log pops, v⟩ →
      ∃ t, exec (.logRead p .lastBit) s = .next t ∧ t.contexts = s.contexts ∧
        s.wordChanges t p .read 0x0C { s.port p with
          latch := none, sent := some v, log := if pops then (s.port p).log.tail else (s.port p).log }

/-- The flags cleared by a written 1: LEASE_LOST is set again if the log holds a record, WINDOW_ERROR and OVERFLOW are
not, and each DATA and SPACE flag named is set again if its channel has a message, or room, for the port. The flags not
named, and WINDOW ERROR CAUSE, stay. One word at EVENT FLAGS 0 may clear LEASE_LOST and WINDOW_ERROR together, its DONE
bits are ignored, and its bits at 0 leave their flags; a word at LOG STATUS acts by its OVERFLOW bit alone. -/
def Obligations.FlagClears : Prop :=
  ∀ (s : State) (p : Port),
    (∀ w : Word, s.takesWord p .write 0x04 →
      ∃ t, exec (.registerWrite p (.address 0x04) w) s = .next t ∧ t.contexts = s.contexts ∧
        s.wordChanges t p .write 0x04 { s.port p with
          leaseLost := if w.getLsbD 4 then decide ((s.port p).log ≠ []) else (s.port p).leaseLost
          windowError := if w.getLsbD 5 then false else (s.port p).windowError }) ∧
    (∀ w : Word, s.takesWord p .write 0x0D →
      ∃ t, exec (.registerWrite p (.address 0x0D) w) s = .next t ∧ t.contexts = s.contexts ∧
        s.wordChanges t p .write 0x0D { s.port p with
          overflow := if w.getLsbD 8 then false else (s.port p).overflow }) ∧
    (s.takesWord p .write 0x04 → ∃ t, exec (.leaseLostClear p) s = .next t ∧ t.contexts = s.contexts ∧
      s.wordChanges t p .write 0x04 { s.port p with leaseLost := decide ((s.port p).log ≠ []) }) ∧
    (s.takesWord p .write 0x04 → ∃ t, exec (.windowErrorClear p) s = .next t ∧ t.contexts = s.contexts ∧
      s.wordChanges t p .write 0x04 { s.port p with windowError := false }) ∧
    (s.takesWord p .write 0x0D → ∃ t, exec (.overflowClear p) s = .next t ∧ t.contexts = s.contexts ∧
      s.wordChanges t p .write 0x0D { s.port p with overflow := false }) ∧
    (∀ mask, s.takesWord p .write 0x05 → ∃ t, exec (.dataFlagClear p mask) s = .next t ∧ t.contexts = s.contexts ∧
      s.wordChanges t p .write 0x05 { s.port p with dataFlags := (t.port p).dataFlags } ∧
      ∀ n : ChanNum, (t.port p).dataFlags.getLsbD n.val = true ↔
        if mask.getLsbD n.val then (s.port p).state ≠ .offline ∧ s.dataDue p n
        else (s.port p).dataFlags.getLsbD n.val = true) ∧
    ∀ mask, s.takesWord p .write 0x06 → ∃ t, exec (.spaceFlagClear p mask) s = .next t ∧ t.contexts = s.contexts ∧
      s.wordChanges t p .write 0x06 { s.port p with spaceFlags := (t.port p).spaceFlags } ∧
      ∀ n : ChanNum, (t.port p).spaceFlags.getLsbD n.val = true ↔
        if mask.getLsbD n.val then (s.port p).state ≠ .offline ∧ s.spaceDue p n
        else (s.port p).spaceFlags.getLsbD n.val = true

/-- A write of EVENT ENABLES k or of INT CONFIG replaces its settings, and they read back. INTn is asserted exactly when
the port is not OFFLINE, its master enable is on, and one of the 38 flags is set with its enable on; its level follows
the polarity. -/
def Obligations.EnablesAndTheInterruptLine : Prop :=
  (∀ (s : State) (p : Port) (w : Word),
    (∀ k : Fin 3, s.takesWord p .write (BitVec.ofNat 7 (7 + k.val)) → ∃ t, exec (.eventEnablesWrite p k w) s = .next t ∧ t.contexts = s.contexts ∧
      s.wordChanges t p .write (BitVec.ofNat 7 (7 + k.val)) { s.port p with
        enables0 := if k = 0 then w.extractLsb' 0 6 else (s.port p).enables0
        enables1 := if k = 1 then w.extractLsb' 0 16 else (s.port p).enables1
        enables2 := if k = 2 then w.extractLsb' 0 16 else (s.port p).enables2 } ∧
      t.windowRead p (BitVec.ofNat 7 (7 + k.val)) = w &&& if k = 0 then 0x3F#32 else 0xFFFF#32) ∧
    (s.takesWord p .write 0x0A → ∃ t, exec (.intConfigWrite p w) s = .next t ∧ t.contexts = s.contexts ∧
      s.wordChanges t p .write 0x0A { s.port p with
        masterEnable := w.getLsbD 0, polarity := if w.getLsbD 1 then .activeHigh else .activeLow } ∧
      t.windowRead p 0x0A = w &&& 3#32)) ∧
    ∀ (s : State) (p : Port),
      (s.intAsserted p = true ↔ (s.port p).state ≠ .offline ∧ (s.port p).masterEnable = true ∧
        ((∃ c : Fin 4, (s.ctx (ctxOf p c)).state = .done ∧ (s.port p).enables0.getLsbD c.val = true) ∨
          ((s.port p).leaseLost = true ∧ (s.port p).enables0.getLsbD 4 = true) ∨
          ((s.port p).windowError = true ∧ (s.port p).enables0.getLsbD 5 = true) ∨
          ∃ n : ChanNum, ((s.port p).dataFlags.getLsbD n.val = true ∧ (s.port p).enables1.getLsbD n.val = true) ∨
            ((s.port p).spaceFlags.getLsbD n.val = true ∧ (s.port p).enables2.getLsbD n.val = true))) ∧
        s.intLevel p = (if (s.port p).polarity = .activeLow then !s.intAsserted p else s.intAsserted p)

/-- A word written to a register of a context's command record, or to DATA INDEX, replaces its fields and reads back
them; while the context is busy it is refused with CONTEXT_LOCKED. A word written to a read-only or unimplemented
address is ignored. A word at EVENT FLAGS 1 or 2, EVENT ENABLES, INT CONFIG or DATA is the command of that register's own
row. A word with no address of its own, a form that is the model's choice (log 7), goes to the current address of the
write frame in progress, whichever register is there (R155, R158); with no write frame in progress it changes nothing,
by the model's choice (log 9). The read-only registers read the state, with the values of R161 to R165, and an
unimplemented address reads 0. -/
def Obligations.RegisterWordsReplaceRegisters : Prop :=
  (∀ (s : State) (p : Port), s.showsGlobals p ∧ (∀ c, s.showsContext p c) ∧
    ∀ a, isUnimplemented a → s.windowRead p a = 0) ∧
  ∀ (s : State) (p : Port) (w : Word),
    (exec (.registerWrite p (.address 0x05) w) s = exec (.dataFlagClear p (w.extractLsb' 0 16)) s ∧
      exec (.registerWrite p (.address 0x06) w) s = exec (.spaceFlagClear p (w.extractLsb' 0 16)) s ∧
      (∀ k : Fin 3, exec (.registerWrite p (.address (BitVec.ofNat 7 (7 + k.val))) w) s =
        exec (.eventEnablesWrite p k w) s) ∧
      exec (.registerWrite p (.address 0x0A) w) s = exec (.intConfigWrite p w) s ∧
      ∀ c : Fin 4, exec (.registerWrite p (.address (BitVec.ofNat 7 (0x29 + 0x10 * c.val))) w) s =
        exec (.dataWrite (ctxOf p c) w) s) ∧
    (∀ (c : Fin 4) (k : Fin 5),
      let cx := ctxOf p c
      let a : WindowAddr := BitVec.ofNat 7 (0x20 + 0x10 * c.val + if k = 4 then 10 else k.val)
      let free := (s.ctx cx).state = .idle ∨ (s.ctx cx).state = .done
      let r := (s.ctx cx).command
      s.takesWord p .write a →
      (free → ∃ t, exec (.registerWrite p (.address a) w) s = .next t ∧ (∀ x, x ≠ cx → t.ctx x = s.ctx x) ∧
        s.wordChanges t p .write a (s.port p) ∧
        t.windowRead p a = w &&& [0xFFF#32, 0x0FFF00FF#32, 0xFFFFFFFF#32, 0x1FFFFFFF#32, 0xF#32].getD k.val 0 ∧
        t.ctx cx = { s.ctx cx with
          index := if k = 4 then (t.ctx cx).index else (s.ctx cx).index
          command := if k = 0 then { r with
              code := w.extractLsb' 0 8
              mode := if w.getLsbD 8 then .wait else .nowait
              priority := if w.getLsbD 9 then .urgent else .normal
              selector := match w.getLsbD 11, w.getLsbD 10 with
                | false, false => .primary
                | false, true => .alternate
                | true, false => .override
                | true, true => .unused }
            else if k = 1 then { r with object := w.extractLsb' 0 8, offset := w.extractLsb' 16 12 }
            else if k = 2 then { r with operand := w }
            else if k = 3 then { r with timeout := w.extractLsb' 0 16, count := w.extractLsb' 16 13 } else r }) ∧
      (¬ free → ∃ t, exec (.registerWrite p (.address a) w) s = .next t ∧ t.contexts = s.contexts ∧
        s.wordChanges t p .write a
          { s.port p with windowError := true, errorCause := .contextLocked, errorAddr := a })) ∧
    (∀ a : WindowAddr, a.toNat ∈ [0x00, 0x01, 0x03, 0x0B, 0x0C] ∨ isUnimplemented a ∨
        (0x20 ≤ a.toNat ∧ a.toNat < 0x60 ∧ 5 ≤ a.toNat % 16 ∧ a.toNat % 16 ≤ 8) → s.takesWord p .write a →
      ∃ t, exec (.registerWrite p (.address a) w) s = .next t ∧ t.contexts = s.contexts ∧
        s.wordChanges t p .write a (s.port p)) ∧
    (∀ a, (s.port p).frame = .inFrame .write a →
      exec (.registerWrite p .current w) s = exec (.registerWrite p (.address a) w) s) ∧
    ((∀ a, (s.port p).frame ≠ .inFrame .write a) → exec (.registerWrite p .current w) s = .next s)

/-- A fall of chip select begins a header byte period, and the header byte opens a frame with its direction and starting
address. Its words are of its direction and at its current address, which moves on from word to word but stays at LOG
and DATA: any other word, and any word in the header byte period, is none of the frame's and changes nothing, by the
model's choice (log 9). A write frame that ends inside a word raises FRAME_SHORT at that word's address and changes
nothing else; a read frame, a header byte, or the rest of a cut frame, ends with nothing raised. That a header byte opens
a frame with no fall of chip select before it is the model's choice (log 7). The data output is driven only in a frame: 0
in the header byte period and in a write frame, and in a read frame the word whose first bit has been sent. Between two
words of a read frame it holds its level, 0 up to the first word and then the last bit sent, by the model's reading of
R168 (log 8). -/
def Obligations.FramesOpenAndEnd : Prop :=
  (∀ a : WindowAddr, AddrAfter a (nextAddr a)) ∧
  (∀ (s : State) (i : Instr) (p : Port) (dir : Direction) (a : WindowAddr), wordOf i = some (p, dir, a) →
    (∀ d b, (s.port p).frame = .inFrame d b → ¬ (d = dir ∧ b = a)) → (s.port p).frame ≠ .none → exec i s = .next s) ∧
  (∀ (s : State) (p : Port),
    (s.resetHeld = true ∨ (s.port p).frame = .none → s.dataOutput p = .highImpedance) ∧
      (s.resetHeld = false → ((s.port p).frame = .header ∨ ∃ a, (s.port p).frame = .inFrame .write a) →
        s.dataOutput p = .level false) ∧
      (∀ a l, s.endsWord p a l → s.dataOutput p = .sending l.value) ∧
      ∀ a, s.beginsWord p a → ((s.port p).sent = none → s.dataOutput p = .level false) ∧
        ∀ w, (s.port p).sent = some w → s.dataOutput p = .level (w.getLsbD 0)) ∧
  ∀ (s : State) (p : Port), s.resetHeld = false →
    (∃ t, exec (.headerByte p .chipSelect) s = .next t ∧ t.contexts = s.contexts ∧ s.keepsBut t [.ports] ∧
      s.keepsPortsBut t p ∧ t.port p = { s.port p with frame := .header, latch := none, sent := none } ∧
      t.dataOutput p = .level false) ∧
    (∀ byte : BitVec 8, ∃ t, exec (.headerByte p (.byte byte)) s = .next t ∧ t.contexts = s.contexts ∧ s.keepsBut t [.ports] ∧
      s.keepsPortsBut t p ∧ t.port p = { s.port p with
        frame := .inFrame (if byte.getLsbD 7 then .read else .write) (byte.extractLsb' 0 7), latch := none
        sent := none } ∧ t.dataOutput p = .level false) ∧
    ∀ bits : Fin 32, bits ≠ 0 →
      ∃ t, exec (.frameShort p bits) s = .next t ∧ t.contexts = s.contexts ∧ s.keepsBut t [.ports] ∧
        s.keepsPortsBut t p ∧
        (∀ a, (s.port p).frame = .inFrame .write a → t.port p = { s.port p with
          frame := .none, latch := none, windowError := true, errorCause := .frameShort, errorAddr := a }) ∧
        ((∀ a, (s.port p).frame ≠ .inFrame .write a) → t.port p = { s.port p with frame := .none, latch := none })
end

