-- ==== Sys2Proof/Laws/Memory.lean ====
section
/-! SUPPORT. The laws of the coordination memory: reading back a write, and that every operation keeps the canonical
form. -/

namespace Sys2Proof.Machine

/-- What the canonical form says of a non-empty memory. -/
theorem Memory.wfFrom_cons {lo a : Nat} {w : Word} {m : Memory} :
    Memory.wfFrom lo ((a, w) :: m) = true ↔
      lo ≤ a ∧ a < Config.memoryWords ∧ w ≠ 0 ∧ Memory.wfFrom (a + 1) m = true := by
  simp [Memory.wfFrom, and_assoc]

/-- A memory in canonical form from `hi` is so from any lower address. -/
theorem Memory.wfFrom_mono {m : Memory} {lo hi : Nat} (h : lo ≤ hi) (hm : Memory.wfFrom hi m = true) :
    Memory.wfFrom lo m = true := by
  cases m with
  | nil => rfl
  | cons c m =>
    obtain ⟨a, w⟩ := c
    rw [Memory.wfFrom_cons] at hm ⊢
    exact ⟨by omega, hm.2⟩

/-- An address below all listed ones reads 0. -/
theorem Memory.read_below {m : Memory} {lo a : Nat} (hm : Memory.wfFrom lo m = true) (h : a < lo) : m.read a = 0 := by
  induction m generalizing lo with
  | nil => rfl
  | cons c m ih =>
    obtain ⟨b, v⟩ := c
    rw [Memory.wfFrom_cons] at hm
    have hne : a ≠ b := by omega
    simp only [Memory.read, hne, if_false]
    exact ih hm.2.2.2 (by omega)

/-- Nothing is listed at or above the end of the memory. -/
theorem Memory.read_above {m : Memory} {lo a : Nat} (hm : Memory.wfFrom lo m = true) (h : Config.memoryWords ≤ a) :
    m.read a = 0 := by
  induction m generalizing lo with
  | nil => rfl
  | cons c m ih =>
    obtain ⟨b, v⟩ := c
    rw [Memory.wfFrom_cons] at hm
    have hne : a ≠ b := by omega
    simp only [Memory.read, hne, if_false]
    exact ih hm.2.2.2

/-- A write keeps the canonical form. -/
theorem Memory.write_wfFrom {m : Memory} {lo a : Nat} {w : Word} (hm : Memory.wfFrom lo m = true) (hlo : lo ≤ a)
    (ha : a < Config.memoryWords) : Memory.wfFrom lo (m.write a w) = true := by
  induction m generalizing lo with
  | nil =>
    by_cases hw : w = 0#32
    · simp [Memory.write, hw, Memory.wfFrom]
    · simp [Memory.write, hw, Memory.wfFrom, hlo, ha]
  | cons c m ih =>
    obtain ⟨b, v⟩ := c
    have h := Memory.wfFrom_cons.mp hm
    by_cases h1 : a < b
    · by_cases hw : w = 0#32
      · simpa [Memory.write, h1, hw] using hm
      · have hw' : ¬w = (0 : Word) := hw
        simp only [Memory.write, h1, hw', if_true, if_false]
        rw [Memory.wfFrom_cons]
        refine ⟨hlo, ha, hw, ?_⟩
        rw [Memory.wfFrom_cons]
        exact ⟨by omega, h.2⟩
    · by_cases h2 : a = b
      · subst h2
        by_cases hw : w = 0#32
        · simp only [Memory.write, lt_irrefl, hw, if_true, if_false]
          exact Memory.wfFrom_mono (by omega) h.2.2.2
        · have hw' : ¬w = (0 : Word) := hw
          simp only [Memory.write, lt_irrefl, hw', if_true, if_false]
          rw [Memory.wfFrom_cons]
          exact ⟨hlo, ha, hw, h.2.2.2⟩
      · simp only [Memory.write, h1, h2, if_false]
        rw [Memory.wfFrom_cons]
        exact ⟨h.1, h.2.1, h.2.2.1, ih h.2.2.2 (by omega)⟩

/-- Reading after a write: the written word at its address, every other word as it was. -/
theorem Memory.read_write {m : Memory} {lo a : Nat} {w : Word} (hm : Memory.wfFrom lo m = true) (b : Nat) :
    (m.write a w).read b = if b = a then w else m.read b := by
  induction m generalizing lo with
  | nil =>
    by_cases hw : w = 0#32
    · by_cases hb : b = a <;> simp [Memory.write, hw, hb, Memory.read]
    · by_cases hb : b = a <;> simp [Memory.write, hw, hb, Memory.read]
  | cons c m ih =>
    obtain ⟨d, v⟩ := c
    have h := Memory.wfFrom_cons.mp hm
    by_cases h1 : a < d
    · by_cases hw : w = 0#32
      · by_cases hb : b = a
        · subst hb
          have : Memory.read ((d, v) :: m) b = 0 :=
            Memory.read_below (lo := d) (Memory.wfFrom_cons.mpr ⟨le_refl d, h.2⟩) h1
          simp [Memory.write, h1, hw, this]
        · simp [Memory.write, h1, hw, hb]
      · by_cases hb : b = a <;> simp [Memory.write, h1, hw, hb, Memory.read]
    · by_cases h2 : a = d
      · subst h2
        by_cases hw : w = 0#32
        · by_cases hb : b = a
          · subst hb
            simp [Memory.write, hw, Memory.read_below h.2.2.2 (Nat.lt_succ_self b)]
          · simp [Memory.write, hw, hb, Memory.read]
        · by_cases hb : b = a <;> simp [Memory.write, hw, hb, Memory.read]
      · simp only [Memory.write, h1, h2, if_false, Memory.read]
        rw [ih h.2.2.2]
        by_cases hb : b = d
        · subst hb
          have : b ≠ a := fun e => h2 e.symm
          simp [this]
        · simp [hb]

/-- A run of writes keeps the canonical form. -/
theorem Memory.writeRun_wfFrom {ws : List Word} {m : Memory} {lo a : Nat} (hm : Memory.wfFrom lo m = true)
    (hlo : lo ≤ a) (ha : a + ws.length ≤ Config.memoryWords) : Memory.wfFrom lo (m.writeRun a ws) = true := by
  induction ws generalizing m a with
  | nil => simpa [Memory.writeRun] using hm
  | cons w ws ih =>
    simp only [List.length_cons] at ha
    exact ih (Memory.write_wfFrom hm hlo (by omega)) (by omega) (by omega)

/-- Reading after a run of writes. -/
theorem Memory.read_writeRun {ws : List Word} {m : Memory} {lo a : Nat} (hm : Memory.wfFrom lo m = true)
    (hlo : lo ≤ a) (ha : a + ws.length ≤ Config.memoryWords) (b : Nat) :
    (m.writeRun a ws).read b = if h : a ≤ b ∧ b - a < ws.length then ws[b - a]'h.2 else m.read b := by
  induction ws generalizing m a with
  | nil => simp [Memory.writeRun]
  | cons w ws ih =>
    simp only [List.length_cons] at ha
    have hw : Memory.wfFrom lo (m.write a w) = true := Memory.write_wfFrom hm hlo (by omega)
    rw [Memory.writeRun, ih hw (by omega) (by omega), Memory.read_write hm]
    by_cases h1 : b = a
    · subst h1
      simp
    · by_cases h2 : a + 1 ≤ b ∧ b - (a + 1) < ws.length
      · have h3 : a ≤ b ∧ b - a < (w :: ws).length := by simp only [List.length_cons]; omega
        rw [dif_pos h2, dif_pos h3, List.getElem_cons, dif_neg (by omega)]
        congr 1
      · have h3 : ¬(a ≤ b ∧ b - a < (w :: ws).length) := by simp only [List.length_cons]; omega
        rw [dif_neg h2, dif_neg h3, if_neg h1]

/-- A filter keeps the canonical form. -/
theorem Memory.filter_wfFrom {f : Nat × Word → Bool} {m : Memory} {lo : Nat} (hm : Memory.wfFrom lo m = true) :
    Memory.wfFrom lo (m.filter f) = true := by
  induction m generalizing lo with
  | nil => rfl
  | cons c m ih =>
    obtain ⟨a, w⟩ := c
    have h := Memory.wfFrom_cons.mp hm
    have ht := ih h.2.2.2
    by_cases hf : f (a, w) = true
    · rw [List.filter_cons_of_pos hf, Memory.wfFrom_cons]
      exact ⟨h.1, h.2.1, h.2.2.1, ht⟩
    · rw [List.filter_cons_of_neg hf]
      exact Memory.wfFrom_mono (by omega) ht

/-- Clearing a range keeps the canonical form. -/
theorem Memory.clearRun_wfFrom {m : Memory} {lo a n : Nat} (hm : Memory.wfFrom lo m = true) :
    Memory.wfFrom lo (m.clearRun a n) = true := Memory.filter_wfFrom hm

/-- Reading after clearing a range: 0 inside it, as before outside. -/
theorem Memory.read_clearRun {m : Memory} {lo a n : Nat} (hm : Memory.wfFrom lo m = true) (b : Nat) :
    (m.clearRun a n).read b = if a ≤ b ∧ b < a + n then 0 else m.read b := by
  induction m generalizing lo with
  | nil => simp [Memory.clearRun, Memory.read]
  | cons c m ih =>
    obtain ⟨d, v⟩ := c
    have h := Memory.wfFrom_cons.mp hm
    have ih' := ih h.2.2.2
    simp only [Memory.clearRun] at ih' ⊢
    by_cases hd : d < a ∨ a + n ≤ d
    · rw [List.filter_cons_of_pos (by simpa using hd)]
      simp only [Memory.read, ih']
      by_cases hb : b = d
      · subst hb
        have : ¬(a ≤ b ∧ b < a + n) := by omega
        simp [this]
      · simp [hb]
    · rw [List.filter_cons_of_neg (by simpa using hd), ih', Memory.read]
      by_cases hb : b = d
      · subst hb
        have : a ≤ b ∧ b < a + n := by omega
        simp [this]
      · simp [hb]

end Sys2Proof.Machine
end

