-- ==== Sys2Proof/Laws/State.lean ====
section
/-! SUPPORT. The small lemmas of tables and of the updates of State: what each update leaves, and what reading back
gives. No later proof unfolds a record update. -/

namespace Sys2Proof

section Tables
variable {α β : Type} {n : Nat}

/-- Reading the entry just replaced. -/
@[simp] theorem Table.at_put_self (t : Table α n) (i : Fin n) (x : α) : (t.put i x).at i = x := by
  simp [Table.at, Table.put, Vector.get_eq_getElem]

/-- Reading any entry after a replacement. -/
theorem Table.at_put (t : Table α n) (i j : Fin n) (x : α) :
    (t.put i x).at j = if j = i then x else t.at j := by
  by_cases h : j = i
  · simp [h]
  · have : i.val ≠ j.val := fun e => h (Fin.ext e.symm)
    simp [Table.at, Table.put, Vector.get_eq_getElem, this, h]

/-- Another entry is as it was. -/
@[simp] theorem Table.at_put_ne {t : Table α n} {i j : Fin n} {x : α} (h : j ≠ i) : (t.put i x).at j = t.at j := by
  simp [Table.at_put, h]

/-- Entries of a mapped table. -/
@[simp] theorem Table.at_mapEach (t : Table α n) (f : Fin n → α → β) (i : Fin n) :
    (t.mapEach f).at i = f i (t.at i) := by
  simp [Table.at, Table.mapEach, Vector.get_eq_getElem]

/-- Entries of a uniform table. -/
@[simp] theorem Table.at_all (x : α) (i : Fin n) : (Table.all n x).at i = x := by
  simp [Table.at, Table.all, Vector.get_eq_getElem]

/-- Two tables with the same entries are equal. -/
theorem Table.ext_at {t u : Table α n} (h : ∀ i, t.at i = u.at i) : t = u := by
  apply Vector.ext
  intro i hi
  simpa [Table.at, Vector.get_eq_getElem] using h ⟨i, hi⟩

/-- Putting back what is there changes nothing. -/
@[simp] theorem Table.put_at_self (t : Table α n) (i : Fin n) : t.put i (t.at i) = t := by
  apply Table.ext_at
  intro j
  by_cases h : j = i <;> simp [h]

end Tables

section PerUnits
variable {α : Type}

/-- Reading the unit just replaced. -/
@[simp] theorem PerUnit.get_set_self (t : PerUnit α) (u : UnitId) (x : α) : (t.set u x).get u = x := by
  cases u <;> rfl

/-- Another unit is as it was. -/
@[simp] theorem PerUnit.get_set_ne (t : PerUnit α) {u v : UnitId} (x : α) (h : v ≠ u) : (t.set u x).get v = t.get v := by
  cases u <;> cases v <;> first | rfl | exact absurd rfl h

/-- Every unit of a uniform table. -/
@[simp] theorem PerUnit.get_all (x : α) (u : UnitId) : (PerUnit.all x).get u = x := by
  cases u <;> rfl

end PerUnits

end Sys2Proof

namespace Sys2Proof.Machine

variable (s : State)

/-! ### modCtx -/

@[simp] theorem State.modCtx_ports (i : CtxNum) (f : Context → Context) : (s.modCtx i f).ports = s.ports := rfl
@[simp] theorem State.modCtx_links (i : CtxNum) (f : Context → Context) : (s.modCtx i f).links = s.links := rfl
@[simp] theorem State.modCtx_arbiters (i : CtxNum) (f : Context → Context) : (s.modCtx i f).arbiters = s.arbiters := rfl
@[simp] theorem State.modCtx_locks (i : CtxNum) (f : Context → Context) : (s.modCtx i f).locks = s.locks := rfl
@[simp] theorem State.modCtx_luTicks (i : CtxNum) (f : Context → Context) : (s.modCtx i f).luTicks = s.luTicks := rfl
@[simp] theorem State.modCtx_channels (i : CtxNum) (f : Context → Context) : (s.modCtx i f).channels = s.channels := rfl
@[simp] theorem State.modCtx_cuTicks (i : CtxNum) (f : Context → Context) : (s.modCtx i f).cuTicks = s.cuTicks := rfl
@[simp] theorem State.modCtx_cuTickOpen (i : CtxNum) (f : Context → Context) : (s.modCtx i f).cuTickOpen = s.cuTickOpen := rfl
@[simp] theorem State.modCtx_inspection (i : CtxNum) (f : Context → Context) : (s.modCtx i f).inspection = s.inspection := rfl
@[simp] theorem State.modCtx_forcing (i : CtxNum) (f : Context → Context) : (s.modCtx i f).forcing = s.forcing := rfl
@[simp] theorem State.modCtx_memory (i : CtxNum) (f : Context → Context) : (s.modCtx i f).memory = s.memory := rfl
@[simp] theorem State.modCtx_segments (i : CtxNum) (f : Context → Context) : (s.modCtx i f).segments = s.segments := rfl
@[simp] theorem State.modCtx_clearing (i : CtxNum) (f : Context → Context) : (s.modCtx i f).clearing = s.clearing := rfl
@[simp] theorem State.modCtx_period (i : CtxNum) (f : Context → Context) : (s.modCtx i f).period = s.period := rfl
@[simp] theorem State.modCtx_periodCode (i : CtxNum) (f : Context → Context) : (s.modCtx i f).periodCode = s.periodCode := rfl
@[simp] theorem State.modCtx_epoch (i : CtxNum) (f : Context → Context) : (s.modCtx i f).epoch = s.epoch := rfl
@[simp] theorem State.modCtx_phase (i : CtxNum) (f : Context → Context) : (s.modCtx i f).phase = s.phase := rfl
@[simp] theorem State.modCtx_clearReport (i : CtxNum) (f : Context → Context) : (s.modCtx i f).clearReport = s.clearReport := rfl
@[simp] theorem State.modCtx_managerPort (i : CtxNum) (f : Context → Context) : (s.modCtx i f).managerPort = s.managerPort := rfl
@[simp] theorem State.modCtx_keys (i : CtxNum) (f : Context → Context) : (s.modCtx i f).keys = s.keys := rfl
@[simp] theorem State.modCtx_resetHeld (i : CtxNum) (f : Context → Context) : (s.modCtx i f).resetHeld = s.resetHeld := rfl
@[simp] theorem State.modCtx_straps (i : CtxNum) (f : Context → Context) : (s.modCtx i f).straps = s.straps := rfl
@[simp] theorem State.modCtx_pending (i : CtxNum) (f : Context → Context) : (s.modCtx i f).pending = s.pending := rfl
@[simp] theorem State.modCtx_port (i : CtxNum) (f : Context → Context) (j : Port) : (s.modCtx i f).port j = s.port j := rfl
@[simp] theorem State.modCtx_link (i : CtxNum) (f : Context → Context) (j : Port) : (s.modCtx i f).link j = s.link j := rfl
@[simp] theorem State.modCtx_lock (i : CtxNum) (f : Context → Context) (j : LockNum) : (s.modCtx i f).lock j = s.lock j := rfl
@[simp] theorem State.modCtx_chan (i : CtxNum) (f : Context → Context) (j : ChanNum) : (s.modCtx i f).chan j = s.chan j := rfl
@[simp] theorem State.modCtx_seg (i : CtxNum) (f : Context → Context) (j : SegNum) : (s.modCtx i f).seg j = s.seg j := rfl
@[simp] theorem State.modCtx_keyPair (i : CtxNum) (f : Context → Context) (j : Port) : (s.modCtx i f).keyPair j = s.keyPair j := rfl
@[simp] theorem State.modCtx_ctx_self (i : CtxNum) (f : Context → Context) : (s.modCtx i f).ctx i = f (s.ctx i) := by
  simp [State.modCtx, State.ctx]
theorem State.modCtx_ctx (i : CtxNum) (f : Context → Context) (j : CtxNum) : (s.modCtx i f).ctx j = if j = i then f (s.ctx i) else s.ctx j := by
  simp [State.modCtx, State.ctx, Table.at_put]
@[simp] theorem State.modCtx_ctx_ne (i : CtxNum) (f : Context → Context) {j : CtxNum} (h : j ≠ i) : (s.modCtx i f).ctx j = s.ctx j := by
  simp [State.modCtx_ctx, h]

/-! ### modPort -/

@[simp] theorem State.modPort_contexts (i : Port) (f : PortInterface → PortInterface) : (s.modPort i f).contexts = s.contexts := rfl
@[simp] theorem State.modPort_links (i : Port) (f : PortInterface → PortInterface) : (s.modPort i f).links = s.links := rfl
@[simp] theorem State.modPort_arbiters (i : Port) (f : PortInterface → PortInterface) : (s.modPort i f).arbiters = s.arbiters := rfl
@[simp] theorem State.modPort_locks (i : Port) (f : PortInterface → PortInterface) : (s.modPort i f).locks = s.locks := rfl
@[simp] theorem State.modPort_luTicks (i : Port) (f : PortInterface → PortInterface) : (s.modPort i f).luTicks = s.luTicks := rfl
@[simp] theorem State.modPort_channels (i : Port) (f : PortInterface → PortInterface) : (s.modPort i f).channels = s.channels := rfl
@[simp] theorem State.modPort_cuTicks (i : Port) (f : PortInterface → PortInterface) : (s.modPort i f).cuTicks = s.cuTicks := rfl
@[simp] theorem State.modPort_cuTickOpen (i : Port) (f : PortInterface → PortInterface) : (s.modPort i f).cuTickOpen = s.cuTickOpen := rfl
@[simp] theorem State.modPort_inspection (i : Port) (f : PortInterface → PortInterface) : (s.modPort i f).inspection = s.inspection := rfl
@[simp] theorem State.modPort_forcing (i : Port) (f : PortInterface → PortInterface) : (s.modPort i f).forcing = s.forcing := rfl
@[simp] theorem State.modPort_memory (i : Port) (f : PortInterface → PortInterface) : (s.modPort i f).memory = s.memory := rfl
@[simp] theorem State.modPort_segments (i : Port) (f : PortInterface → PortInterface) : (s.modPort i f).segments = s.segments := rfl
@[simp] theorem State.modPort_clearing (i : Port) (f : PortInterface → PortInterface) : (s.modPort i f).clearing = s.clearing := rfl
@[simp] theorem State.modPort_period (i : Port) (f : PortInterface → PortInterface) : (s.modPort i f).period = s.period := rfl
@[simp] theorem State.modPort_periodCode (i : Port) (f : PortInterface → PortInterface) : (s.modPort i f).periodCode = s.periodCode := rfl
@[simp] theorem State.modPort_epoch (i : Port) (f : PortInterface → PortInterface) : (s.modPort i f).epoch = s.epoch := rfl
@[simp] theorem State.modPort_phase (i : Port) (f : PortInterface → PortInterface) : (s.modPort i f).phase = s.phase := rfl
@[simp] theorem State.modPort_clearReport (i : Port) (f : PortInterface → PortInterface) : (s.modPort i f).clearReport = s.clearReport := rfl
@[simp] theorem State.modPort_managerPort (i : Port) (f : PortInterface → PortInterface) : (s.modPort i f).managerPort = s.managerPort := rfl
@[simp] theorem State.modPort_keys (i : Port) (f : PortInterface → PortInterface) : (s.modPort i f).keys = s.keys := rfl
@[simp] theorem State.modPort_resetHeld (i : Port) (f : PortInterface → PortInterface) : (s.modPort i f).resetHeld = s.resetHeld := rfl
@[simp] theorem State.modPort_straps (i : Port) (f : PortInterface → PortInterface) : (s.modPort i f).straps = s.straps := rfl
@[simp] theorem State.modPort_pending (i : Port) (f : PortInterface → PortInterface) : (s.modPort i f).pending = s.pending := rfl
@[simp] theorem State.modPort_ctx (i : Port) (f : PortInterface → PortInterface) (j : CtxNum) : (s.modPort i f).ctx j = s.ctx j := rfl
@[simp] theorem State.modPort_link (i : Port) (f : PortInterface → PortInterface) (j : Port) : (s.modPort i f).link j = s.link j := rfl
@[simp] theorem State.modPort_lock (i : Port) (f : PortInterface → PortInterface) (j : LockNum) : (s.modPort i f).lock j = s.lock j := rfl
@[simp] theorem State.modPort_chan (i : Port) (f : PortInterface → PortInterface) (j : ChanNum) : (s.modPort i f).chan j = s.chan j := rfl
@[simp] theorem State.modPort_seg (i : Port) (f : PortInterface → PortInterface) (j : SegNum) : (s.modPort i f).seg j = s.seg j := rfl
@[simp] theorem State.modPort_keyPair (i : Port) (f : PortInterface → PortInterface) (j : Port) : (s.modPort i f).keyPair j = s.keyPair j := rfl
@[simp] theorem State.modPort_port_self (i : Port) (f : PortInterface → PortInterface) : (s.modPort i f).port i = f (s.port i) := by
  simp [State.modPort, State.port]
theorem State.modPort_port (i : Port) (f : PortInterface → PortInterface) (j : Port) : (s.modPort i f).port j = if j = i then f (s.port i) else s.port j := by
  simp [State.modPort, State.port, Table.at_put]
@[simp] theorem State.modPort_port_ne (i : Port) (f : PortInterface → PortInterface) {j : Port} (h : j ≠ i) : (s.modPort i f).port j = s.port j := by
  simp [State.modPort_port, h]

/-! ### modLink -/

@[simp] theorem State.modLink_contexts (i : Port) (f : Links → Links) : (s.modLink i f).contexts = s.contexts := rfl
@[simp] theorem State.modLink_ports (i : Port) (f : Links → Links) : (s.modLink i f).ports = s.ports := rfl
@[simp] theorem State.modLink_arbiters (i : Port) (f : Links → Links) : (s.modLink i f).arbiters = s.arbiters := rfl
@[simp] theorem State.modLink_locks (i : Port) (f : Links → Links) : (s.modLink i f).locks = s.locks := rfl
@[simp] theorem State.modLink_luTicks (i : Port) (f : Links → Links) : (s.modLink i f).luTicks = s.luTicks := rfl
@[simp] theorem State.modLink_channels (i : Port) (f : Links → Links) : (s.modLink i f).channels = s.channels := rfl
@[simp] theorem State.modLink_cuTicks (i : Port) (f : Links → Links) : (s.modLink i f).cuTicks = s.cuTicks := rfl
@[simp] theorem State.modLink_cuTickOpen (i : Port) (f : Links → Links) : (s.modLink i f).cuTickOpen = s.cuTickOpen := rfl
@[simp] theorem State.modLink_inspection (i : Port) (f : Links → Links) : (s.modLink i f).inspection = s.inspection := rfl
@[simp] theorem State.modLink_forcing (i : Port) (f : Links → Links) : (s.modLink i f).forcing = s.forcing := rfl
@[simp] theorem State.modLink_memory (i : Port) (f : Links → Links) : (s.modLink i f).memory = s.memory := rfl
@[simp] theorem State.modLink_segments (i : Port) (f : Links → Links) : (s.modLink i f).segments = s.segments := rfl
@[simp] theorem State.modLink_clearing (i : Port) (f : Links → Links) : (s.modLink i f).clearing = s.clearing := rfl
@[simp] theorem State.modLink_period (i : Port) (f : Links → Links) : (s.modLink i f).period = s.period := rfl
@[simp] theorem State.modLink_periodCode (i : Port) (f : Links → Links) : (s.modLink i f).periodCode = s.periodCode := rfl
@[simp] theorem State.modLink_epoch (i : Port) (f : Links → Links) : (s.modLink i f).epoch = s.epoch := rfl
@[simp] theorem State.modLink_phase (i : Port) (f : Links → Links) : (s.modLink i f).phase = s.phase := rfl
@[simp] theorem State.modLink_clearReport (i : Port) (f : Links → Links) : (s.modLink i f).clearReport = s.clearReport := rfl
@[simp] theorem State.modLink_managerPort (i : Port) (f : Links → Links) : (s.modLink i f).managerPort = s.managerPort := rfl
@[simp] theorem State.modLink_keys (i : Port) (f : Links → Links) : (s.modLink i f).keys = s.keys := rfl
@[simp] theorem State.modLink_resetHeld (i : Port) (f : Links → Links) : (s.modLink i f).resetHeld = s.resetHeld := rfl
@[simp] theorem State.modLink_straps (i : Port) (f : Links → Links) : (s.modLink i f).straps = s.straps := rfl
@[simp] theorem State.modLink_pending (i : Port) (f : Links → Links) : (s.modLink i f).pending = s.pending := rfl
@[simp] theorem State.modLink_ctx (i : Port) (f : Links → Links) (j : CtxNum) : (s.modLink i f).ctx j = s.ctx j := rfl
@[simp] theorem State.modLink_port (i : Port) (f : Links → Links) (j : Port) : (s.modLink i f).port j = s.port j := rfl
@[simp] theorem State.modLink_lock (i : Port) (f : Links → Links) (j : LockNum) : (s.modLink i f).lock j = s.lock j := rfl
@[simp] theorem State.modLink_chan (i : Port) (f : Links → Links) (j : ChanNum) : (s.modLink i f).chan j = s.chan j := rfl
@[simp] theorem State.modLink_seg (i : Port) (f : Links → Links) (j : SegNum) : (s.modLink i f).seg j = s.seg j := rfl
@[simp] theorem State.modLink_keyPair (i : Port) (f : Links → Links) (j : Port) : (s.modLink i f).keyPair j = s.keyPair j := rfl
@[simp] theorem State.modLink_link_self (i : Port) (f : Links → Links) : (s.modLink i f).link i = f (s.link i) := by
  simp [State.modLink, State.link]
theorem State.modLink_link (i : Port) (f : Links → Links) (j : Port) : (s.modLink i f).link j = if j = i then f (s.link i) else s.link j := by
  simp [State.modLink, State.link, Table.at_put]
@[simp] theorem State.modLink_link_ne (i : Port) (f : Links → Links) {j : Port} (h : j ≠ i) : (s.modLink i f).link j = s.link j := by
  simp [State.modLink_link, h]

/-! ### modLock -/

@[simp] theorem State.modLock_contexts (i : LockNum) (f : Lock → Lock) : (s.modLock i f).contexts = s.contexts := rfl
@[simp] theorem State.modLock_ports (i : LockNum) (f : Lock → Lock) : (s.modLock i f).ports = s.ports := rfl
@[simp] theorem State.modLock_links (i : LockNum) (f : Lock → Lock) : (s.modLock i f).links = s.links := rfl
@[simp] theorem State.modLock_arbiters (i : LockNum) (f : Lock → Lock) : (s.modLock i f).arbiters = s.arbiters := rfl
@[simp] theorem State.modLock_luTicks (i : LockNum) (f : Lock → Lock) : (s.modLock i f).luTicks = s.luTicks := rfl
@[simp] theorem State.modLock_channels (i : LockNum) (f : Lock → Lock) : (s.modLock i f).channels = s.channels := rfl
@[simp] theorem State.modLock_cuTicks (i : LockNum) (f : Lock → Lock) : (s.modLock i f).cuTicks = s.cuTicks := rfl
@[simp] theorem State.modLock_cuTickOpen (i : LockNum) (f : Lock → Lock) : (s.modLock i f).cuTickOpen = s.cuTickOpen := rfl
@[simp] theorem State.modLock_inspection (i : LockNum) (f : Lock → Lock) : (s.modLock i f).inspection = s.inspection := rfl
@[simp] theorem State.modLock_forcing (i : LockNum) (f : Lock → Lock) : (s.modLock i f).forcing = s.forcing := rfl
@[simp] theorem State.modLock_memory (i : LockNum) (f : Lock → Lock) : (s.modLock i f).memory = s.memory := rfl
@[simp] theorem State.modLock_segments (i : LockNum) (f : Lock → Lock) : (s.modLock i f).segments = s.segments := rfl
@[simp] theorem State.modLock_clearing (i : LockNum) (f : Lock → Lock) : (s.modLock i f).clearing = s.clearing := rfl
@[simp] theorem State.modLock_period (i : LockNum) (f : Lock → Lock) : (s.modLock i f).period = s.period := rfl
@[simp] theorem State.modLock_periodCode (i : LockNum) (f : Lock → Lock) : (s.modLock i f).periodCode = s.periodCode := rfl
@[simp] theorem State.modLock_epoch (i : LockNum) (f : Lock → Lock) : (s.modLock i f).epoch = s.epoch := rfl
@[simp] theorem State.modLock_phase (i : LockNum) (f : Lock → Lock) : (s.modLock i f).phase = s.phase := rfl
@[simp] theorem State.modLock_clearReport (i : LockNum) (f : Lock → Lock) : (s.modLock i f).clearReport = s.clearReport := rfl
@[simp] theorem State.modLock_managerPort (i : LockNum) (f : Lock → Lock) : (s.modLock i f).managerPort = s.managerPort := rfl
@[simp] theorem State.modLock_keys (i : LockNum) (f : Lock → Lock) : (s.modLock i f).keys = s.keys := rfl
@[simp] theorem State.modLock_resetHeld (i : LockNum) (f : Lock → Lock) : (s.modLock i f).resetHeld = s.resetHeld := rfl
@[simp] theorem State.modLock_straps (i : LockNum) (f : Lock → Lock) : (s.modLock i f).straps = s.straps := rfl
@[simp] theorem State.modLock_pending (i : LockNum) (f : Lock → Lock) : (s.modLock i f).pending = s.pending := rfl
@[simp] theorem State.modLock_ctx (i : LockNum) (f : Lock → Lock) (j : CtxNum) : (s.modLock i f).ctx j = s.ctx j := rfl
@[simp] theorem State.modLock_port (i : LockNum) (f : Lock → Lock) (j : Port) : (s.modLock i f).port j = s.port j := rfl
@[simp] theorem State.modLock_link (i : LockNum) (f : Lock → Lock) (j : Port) : (s.modLock i f).link j = s.link j := rfl
@[simp] theorem State.modLock_chan (i : LockNum) (f : Lock → Lock) (j : ChanNum) : (s.modLock i f).chan j = s.chan j := rfl
@[simp] theorem State.modLock_seg (i : LockNum) (f : Lock → Lock) (j : SegNum) : (s.modLock i f).seg j = s.seg j := rfl
@[simp] theorem State.modLock_keyPair (i : LockNum) (f : Lock → Lock) (j : Port) : (s.modLock i f).keyPair j = s.keyPair j := rfl
@[simp] theorem State.modLock_lock_self (i : LockNum) (f : Lock → Lock) : (s.modLock i f).lock i = f (s.lock i) := by
  simp [State.modLock, State.lock]
theorem State.modLock_lock (i : LockNum) (f : Lock → Lock) (j : LockNum) : (s.modLock i f).lock j = if j = i then f (s.lock i) else s.lock j := by
  simp [State.modLock, State.lock, Table.at_put]
@[simp] theorem State.modLock_lock_ne (i : LockNum) (f : Lock → Lock) {j : LockNum} (h : j ≠ i) : (s.modLock i f).lock j = s.lock j := by
  simp [State.modLock_lock, h]

/-! ### modChan -/

@[simp] theorem State.modChan_contexts (i : ChanNum) (f : Channel → Channel) : (s.modChan i f).contexts = s.contexts := rfl
@[simp] theorem State.modChan_ports (i : ChanNum) (f : Channel → Channel) : (s.modChan i f).ports = s.ports := rfl
@[simp] theorem State.modChan_links (i : ChanNum) (f : Channel → Channel) : (s.modChan i f).links = s.links := rfl
@[simp] theorem State.modChan_arbiters (i : ChanNum) (f : Channel → Channel) : (s.modChan i f).arbiters = s.arbiters := rfl
@[simp] theorem State.modChan_locks (i : ChanNum) (f : Channel → Channel) : (s.modChan i f).locks = s.locks := rfl
@[simp] theorem State.modChan_luTicks (i : ChanNum) (f : Channel → Channel) : (s.modChan i f).luTicks = s.luTicks := rfl
@[simp] theorem State.modChan_cuTicks (i : ChanNum) (f : Channel → Channel) : (s.modChan i f).cuTicks = s.cuTicks := rfl
@[simp] theorem State.modChan_cuTickOpen (i : ChanNum) (f : Channel → Channel) : (s.modChan i f).cuTickOpen = s.cuTickOpen := rfl
@[simp] theorem State.modChan_inspection (i : ChanNum) (f : Channel → Channel) : (s.modChan i f).inspection = s.inspection := rfl
@[simp] theorem State.modChan_forcing (i : ChanNum) (f : Channel → Channel) : (s.modChan i f).forcing = s.forcing := rfl
@[simp] theorem State.modChan_memory (i : ChanNum) (f : Channel → Channel) : (s.modChan i f).memory = s.memory := rfl
@[simp] theorem State.modChan_segments (i : ChanNum) (f : Channel → Channel) : (s.modChan i f).segments = s.segments := rfl
@[simp] theorem State.modChan_clearing (i : ChanNum) (f : Channel → Channel) : (s.modChan i f).clearing = s.clearing := rfl
@[simp] theorem State.modChan_period (i : ChanNum) (f : Channel → Channel) : (s.modChan i f).period = s.period := rfl
@[simp] theorem State.modChan_periodCode (i : ChanNum) (f : Channel → Channel) : (s.modChan i f).periodCode = s.periodCode := rfl
@[simp] theorem State.modChan_epoch (i : ChanNum) (f : Channel → Channel) : (s.modChan i f).epoch = s.epoch := rfl
@[simp] theorem State.modChan_phase (i : ChanNum) (f : Channel → Channel) : (s.modChan i f).phase = s.phase := rfl
@[simp] theorem State.modChan_clearReport (i : ChanNum) (f : Channel → Channel) : (s.modChan i f).clearReport = s.clearReport := rfl
@[simp] theorem State.modChan_managerPort (i : ChanNum) (f : Channel → Channel) : (s.modChan i f).managerPort = s.managerPort := rfl
@[simp] theorem State.modChan_keys (i : ChanNum) (f : Channel → Channel) : (s.modChan i f).keys = s.keys := rfl
@[simp] theorem State.modChan_resetHeld (i : ChanNum) (f : Channel → Channel) : (s.modChan i f).resetHeld = s.resetHeld := rfl
@[simp] theorem State.modChan_straps (i : ChanNum) (f : Channel → Channel) : (s.modChan i f).straps = s.straps := rfl
@[simp] theorem State.modChan_pending (i : ChanNum) (f : Channel → Channel) : (s.modChan i f).pending = s.pending := rfl
@[simp] theorem State.modChan_ctx (i : ChanNum) (f : Channel → Channel) (j : CtxNum) : (s.modChan i f).ctx j = s.ctx j := rfl
@[simp] theorem State.modChan_port (i : ChanNum) (f : Channel → Channel) (j : Port) : (s.modChan i f).port j = s.port j := rfl
@[simp] theorem State.modChan_link (i : ChanNum) (f : Channel → Channel) (j : Port) : (s.modChan i f).link j = s.link j := rfl
@[simp] theorem State.modChan_lock (i : ChanNum) (f : Channel → Channel) (j : LockNum) : (s.modChan i f).lock j = s.lock j := rfl
@[simp] theorem State.modChan_seg (i : ChanNum) (f : Channel → Channel) (j : SegNum) : (s.modChan i f).seg j = s.seg j := rfl
@[simp] theorem State.modChan_keyPair (i : ChanNum) (f : Channel → Channel) (j : Port) : (s.modChan i f).keyPair j = s.keyPair j := rfl
@[simp] theorem State.modChan_chan_self (i : ChanNum) (f : Channel → Channel) : (s.modChan i f).chan i = f (s.chan i) := by
  simp [State.modChan, State.chan]
theorem State.modChan_chan (i : ChanNum) (f : Channel → Channel) (j : ChanNum) : (s.modChan i f).chan j = if j = i then f (s.chan i) else s.chan j := by
  simp [State.modChan, State.chan, Table.at_put]
@[simp] theorem State.modChan_chan_ne (i : ChanNum) (f : Channel → Channel) {j : ChanNum} (h : j ≠ i) : (s.modChan i f).chan j = s.chan j := by
  simp [State.modChan_chan, h]

/-! ### setSeg -/

@[simp] theorem State.setSeg_contexts (i : SegNum) (f : Option Segment) : (s.setSeg i f).contexts = s.contexts := rfl
@[simp] theorem State.setSeg_ports (i : SegNum) (f : Option Segment) : (s.setSeg i f).ports = s.ports := rfl
@[simp] theorem State.setSeg_links (i : SegNum) (f : Option Segment) : (s.setSeg i f).links = s.links := rfl
@[simp] theorem State.setSeg_arbiters (i : SegNum) (f : Option Segment) : (s.setSeg i f).arbiters = s.arbiters := rfl
@[simp] theorem State.setSeg_locks (i : SegNum) (f : Option Segment) : (s.setSeg i f).locks = s.locks := rfl
@[simp] theorem State.setSeg_luTicks (i : SegNum) (f : Option Segment) : (s.setSeg i f).luTicks = s.luTicks := rfl
@[simp] theorem State.setSeg_channels (i : SegNum) (f : Option Segment) : (s.setSeg i f).channels = s.channels := rfl
@[simp] theorem State.setSeg_cuTicks (i : SegNum) (f : Option Segment) : (s.setSeg i f).cuTicks = s.cuTicks := rfl
@[simp] theorem State.setSeg_cuTickOpen (i : SegNum) (f : Option Segment) : (s.setSeg i f).cuTickOpen = s.cuTickOpen := rfl
@[simp] theorem State.setSeg_inspection (i : SegNum) (f : Option Segment) : (s.setSeg i f).inspection = s.inspection := rfl
@[simp] theorem State.setSeg_forcing (i : SegNum) (f : Option Segment) : (s.setSeg i f).forcing = s.forcing := rfl
@[simp] theorem State.setSeg_memory (i : SegNum) (f : Option Segment) : (s.setSeg i f).memory = s.memory := rfl
@[simp] theorem State.setSeg_clearing (i : SegNum) (f : Option Segment) : (s.setSeg i f).clearing = s.clearing := rfl
@[simp] theorem State.setSeg_period (i : SegNum) (f : Option Segment) : (s.setSeg i f).period = s.period := rfl
@[simp] theorem State.setSeg_periodCode (i : SegNum) (f : Option Segment) : (s.setSeg i f).periodCode = s.periodCode := rfl
@[simp] theorem State.setSeg_epoch (i : SegNum) (f : Option Segment) : (s.setSeg i f).epoch = s.epoch := rfl
@[simp] theorem State.setSeg_phase (i : SegNum) (f : Option Segment) : (s.setSeg i f).phase = s.phase := rfl
@[simp] theorem State.setSeg_clearReport (i : SegNum) (f : Option Segment) : (s.setSeg i f).clearReport = s.clearReport := rfl
@[simp] theorem State.setSeg_managerPort (i : SegNum) (f : Option Segment) : (s.setSeg i f).managerPort = s.managerPort := rfl
@[simp] theorem State.setSeg_keys (i : SegNum) (f : Option Segment) : (s.setSeg i f).keys = s.keys := rfl
@[simp] theorem State.setSeg_resetHeld (i : SegNum) (f : Option Segment) : (s.setSeg i f).resetHeld = s.resetHeld := rfl
@[simp] theorem State.setSeg_straps (i : SegNum) (f : Option Segment) : (s.setSeg i f).straps = s.straps := rfl
@[simp] theorem State.setSeg_pending (i : SegNum) (f : Option Segment) : (s.setSeg i f).pending = s.pending := rfl
@[simp] theorem State.setSeg_ctx (i : SegNum) (f : Option Segment) (j : CtxNum) : (s.setSeg i f).ctx j = s.ctx j := rfl
@[simp] theorem State.setSeg_port (i : SegNum) (f : Option Segment) (j : Port) : (s.setSeg i f).port j = s.port j := rfl
@[simp] theorem State.setSeg_link (i : SegNum) (f : Option Segment) (j : Port) : (s.setSeg i f).link j = s.link j := rfl
@[simp] theorem State.setSeg_lock (i : SegNum) (f : Option Segment) (j : LockNum) : (s.setSeg i f).lock j = s.lock j := rfl
@[simp] theorem State.setSeg_chan (i : SegNum) (f : Option Segment) (j : ChanNum) : (s.setSeg i f).chan j = s.chan j := rfl
@[simp] theorem State.setSeg_keyPair (i : SegNum) (f : Option Segment) (j : Port) : (s.setSeg i f).keyPair j = s.keyPair j := rfl
@[simp] theorem State.setSeg_seg_self (i : SegNum) (f : Option Segment) : (s.setSeg i f).seg i = f := by
  simp [State.setSeg, State.seg]
theorem State.setSeg_seg (i : SegNum) (f : Option Segment) (j : SegNum) : (s.setSeg i f).seg j = if j = i then f else s.seg j := by
  simp [State.setSeg, State.seg, Table.at_put]
@[simp] theorem State.setSeg_seg_ne (i : SegNum) (f : Option Segment) {j : SegNum} (h : j ≠ i) : (s.setSeg i f).seg j = s.seg j := by
  simp [State.setSeg_seg, h]

/-! ### setKeyPair -/

@[simp] theorem State.setKeyPair_contexts (i : Port) (f : KeyPair) : (s.setKeyPair i f).contexts = s.contexts := rfl
@[simp] theorem State.setKeyPair_ports (i : Port) (f : KeyPair) : (s.setKeyPair i f).ports = s.ports := rfl
@[simp] theorem State.setKeyPair_links (i : Port) (f : KeyPair) : (s.setKeyPair i f).links = s.links := rfl
@[simp] theorem State.setKeyPair_arbiters (i : Port) (f : KeyPair) : (s.setKeyPair i f).arbiters = s.arbiters := rfl
@[simp] theorem State.setKeyPair_locks (i : Port) (f : KeyPair) : (s.setKeyPair i f).locks = s.locks := rfl
@[simp] theorem State.setKeyPair_luTicks (i : Port) (f : KeyPair) : (s.setKeyPair i f).luTicks = s.luTicks := rfl
@[simp] theorem State.setKeyPair_channels (i : Port) (f : KeyPair) : (s.setKeyPair i f).channels = s.channels := rfl
@[simp] theorem State.setKeyPair_cuTicks (i : Port) (f : KeyPair) : (s.setKeyPair i f).cuTicks = s.cuTicks := rfl
@[simp] theorem State.setKeyPair_cuTickOpen (i : Port) (f : KeyPair) : (s.setKeyPair i f).cuTickOpen = s.cuTickOpen := rfl
@[simp] theorem State.setKeyPair_inspection (i : Port) (f : KeyPair) : (s.setKeyPair i f).inspection = s.inspection := rfl
@[simp] theorem State.setKeyPair_forcing (i : Port) (f : KeyPair) : (s.setKeyPair i f).forcing = s.forcing := rfl
@[simp] theorem State.setKeyPair_memory (i : Port) (f : KeyPair) : (s.setKeyPair i f).memory = s.memory := rfl
@[simp] theorem State.setKeyPair_segments (i : Port) (f : KeyPair) : (s.setKeyPair i f).segments = s.segments := rfl
@[simp] theorem State.setKeyPair_clearing (i : Port) (f : KeyPair) : (s.setKeyPair i f).clearing = s.clearing := rfl
@[simp] theorem State.setKeyPair_period (i : Port) (f : KeyPair) : (s.setKeyPair i f).period = s.period := rfl
@[simp] theorem State.setKeyPair_periodCode (i : Port) (f : KeyPair) : (s.setKeyPair i f).periodCode = s.periodCode := rfl
@[simp] theorem State.setKeyPair_epoch (i : Port) (f : KeyPair) : (s.setKeyPair i f).epoch = s.epoch := rfl
@[simp] theorem State.setKeyPair_phase (i : Port) (f : KeyPair) : (s.setKeyPair i f).phase = s.phase := rfl
@[simp] theorem State.setKeyPair_clearReport (i : Port) (f : KeyPair) : (s.setKeyPair i f).clearReport = s.clearReport := rfl
@[simp] theorem State.setKeyPair_managerPort (i : Port) (f : KeyPair) : (s.setKeyPair i f).managerPort = s.managerPort := rfl
@[simp] theorem State.setKeyPair_resetHeld (i : Port) (f : KeyPair) : (s.setKeyPair i f).resetHeld = s.resetHeld := rfl
@[simp] theorem State.setKeyPair_straps (i : Port) (f : KeyPair) : (s.setKeyPair i f).straps = s.straps := rfl
@[simp] theorem State.setKeyPair_pending (i : Port) (f : KeyPair) : (s.setKeyPair i f).pending = s.pending := rfl
@[simp] theorem State.setKeyPair_ctx (i : Port) (f : KeyPair) (j : CtxNum) : (s.setKeyPair i f).ctx j = s.ctx j := rfl
@[simp] theorem State.setKeyPair_port (i : Port) (f : KeyPair) (j : Port) : (s.setKeyPair i f).port j = s.port j := rfl
@[simp] theorem State.setKeyPair_link (i : Port) (f : KeyPair) (j : Port) : (s.setKeyPair i f).link j = s.link j := rfl
@[simp] theorem State.setKeyPair_lock (i : Port) (f : KeyPair) (j : LockNum) : (s.setKeyPair i f).lock j = s.lock j := rfl
@[simp] theorem State.setKeyPair_chan (i : Port) (f : KeyPair) (j : ChanNum) : (s.setKeyPair i f).chan j = s.chan j := rfl
@[simp] theorem State.setKeyPair_seg (i : Port) (f : KeyPair) (j : SegNum) : (s.setKeyPair i f).seg j = s.seg j := rfl
@[simp] theorem State.setKeyPair_keyPair_self (i : Port) (f : KeyPair) : (s.setKeyPair i f).keyPair i = f := by
  simp [State.setKeyPair, State.keyPair]
theorem State.setKeyPair_keyPair (i : Port) (f : KeyPair) (j : Port) : (s.setKeyPair i f).keyPair j = if j = i then f else s.keyPair j := by
  simp [State.setKeyPair, State.keyPair, Table.at_put]
@[simp] theorem State.setKeyPair_keyPair_ne (i : Port) (f : KeyPair) {j : Port} (h : j ≠ i) : (s.setKeyPair i f).keyPair j = s.keyPair j := by
  simp [State.setKeyPair_keyPair, h]

/-! ### mapCtxs -/

@[simp] theorem State.mapCtxs_ports (f : CtxNum → Context → Context) : (s.mapCtxs f).ports = s.ports := by simp only [State.mapCtxs]
@[simp] theorem State.mapCtxs_links (f : CtxNum → Context → Context) : (s.mapCtxs f).links = s.links := by simp only [State.mapCtxs]
@[simp] theorem State.mapCtxs_arbiters (f : CtxNum → Context → Context) : (s.mapCtxs f).arbiters = s.arbiters := by simp only [State.mapCtxs]
@[simp] theorem State.mapCtxs_locks (f : CtxNum → Context → Context) : (s.mapCtxs f).locks = s.locks := by simp only [State.mapCtxs]
@[simp] theorem State.mapCtxs_luTicks (f : CtxNum → Context → Context) : (s.mapCtxs f).luTicks = s.luTicks := by simp only [State.mapCtxs]
@[simp] theorem State.mapCtxs_channels (f : CtxNum → Context → Context) : (s.mapCtxs f).channels = s.channels := by simp only [State.mapCtxs]
@[simp] theorem State.mapCtxs_cuTicks (f : CtxNum → Context → Context) : (s.mapCtxs f).cuTicks = s.cuTicks := by simp only [State.mapCtxs]
@[simp] theorem State.mapCtxs_cuTickOpen (f : CtxNum → Context → Context) : (s.mapCtxs f).cuTickOpen = s.cuTickOpen := by simp only [State.mapCtxs]
@[simp] theorem State.mapCtxs_inspection (f : CtxNum → Context → Context) : (s.mapCtxs f).inspection = s.inspection := by simp only [State.mapCtxs]
@[simp] theorem State.mapCtxs_forcing (f : CtxNum → Context → Context) : (s.mapCtxs f).forcing = s.forcing := by simp only [State.mapCtxs]
@[simp] theorem State.mapCtxs_memory (f : CtxNum → Context → Context) : (s.mapCtxs f).memory = s.memory := by simp only [State.mapCtxs]
@[simp] theorem State.mapCtxs_segments (f : CtxNum → Context → Context) : (s.mapCtxs f).segments = s.segments := by simp only [State.mapCtxs]
@[simp] theorem State.mapCtxs_clearing (f : CtxNum → Context → Context) : (s.mapCtxs f).clearing = s.clearing := by simp only [State.mapCtxs]
@[simp] theorem State.mapCtxs_period (f : CtxNum → Context → Context) : (s.mapCtxs f).period = s.period := by simp only [State.mapCtxs]
@[simp] theorem State.mapCtxs_periodCode (f : CtxNum → Context → Context) : (s.mapCtxs f).periodCode = s.periodCode := by simp only [State.mapCtxs]
@[simp] theorem State.mapCtxs_epoch (f : CtxNum → Context → Context) : (s.mapCtxs f).epoch = s.epoch := by simp only [State.mapCtxs]
@[simp] theorem State.mapCtxs_phase (f : CtxNum → Context → Context) : (s.mapCtxs f).phase = s.phase := by simp only [State.mapCtxs]
@[simp] theorem State.mapCtxs_clearReport (f : CtxNum → Context → Context) : (s.mapCtxs f).clearReport = s.clearReport := by simp only [State.mapCtxs]
@[simp] theorem State.mapCtxs_managerPort (f : CtxNum → Context → Context) : (s.mapCtxs f).managerPort = s.managerPort := by simp only [State.mapCtxs]
@[simp] theorem State.mapCtxs_keys (f : CtxNum → Context → Context) : (s.mapCtxs f).keys = s.keys := by simp only [State.mapCtxs]
@[simp] theorem State.mapCtxs_resetHeld (f : CtxNum → Context → Context) : (s.mapCtxs f).resetHeld = s.resetHeld := by simp only [State.mapCtxs]
@[simp] theorem State.mapCtxs_straps (f : CtxNum → Context → Context) : (s.mapCtxs f).straps = s.straps := by simp only [State.mapCtxs]
@[simp] theorem State.mapCtxs_pending (f : CtxNum → Context → Context) : (s.mapCtxs f).pending = s.pending := by simp only [State.mapCtxs]
@[simp] theorem State.mapCtxs_port (f : CtxNum → Context → Context) (j : Port) : (s.mapCtxs f).port j = s.port j := by
  simp [State.port]
@[simp] theorem State.mapCtxs_link (f : CtxNum → Context → Context) (j : Port) : (s.mapCtxs f).link j = s.link j := by
  simp [State.link]
@[simp] theorem State.mapCtxs_lock (f : CtxNum → Context → Context) (j : LockNum) : (s.mapCtxs f).lock j = s.lock j := by
  simp [State.lock]
@[simp] theorem State.mapCtxs_chan (f : CtxNum → Context → Context) (j : ChanNum) : (s.mapCtxs f).chan j = s.chan j := by
  simp [State.chan]
@[simp] theorem State.mapCtxs_seg (f : CtxNum → Context → Context) (j : SegNum) : (s.mapCtxs f).seg j = s.seg j := by
  simp [State.seg]
@[simp] theorem State.mapCtxs_keyPair (f : CtxNum → Context → Context) (j : Port) : (s.mapCtxs f).keyPair j = s.keyPair j := by
  simp [State.keyPair]
@[simp] theorem State.mapCtxs_ctx (f : CtxNum → Context → Context) (j : CtxNum) : (s.mapCtxs f).ctx j = f j (s.ctx j) := by
  simp [State.mapCtxs, State.ctx]

/-! ### mapLocks -/

@[simp] theorem State.mapLocks_contexts (f : Lock → Lock) : (s.mapLocks f).contexts = s.contexts := by simp only [State.mapLocks]
@[simp] theorem State.mapLocks_ports (f : Lock → Lock) : (s.mapLocks f).ports = s.ports := by simp only [State.mapLocks]
@[simp] theorem State.mapLocks_links (f : Lock → Lock) : (s.mapLocks f).links = s.links := by simp only [State.mapLocks]
@[simp] theorem State.mapLocks_arbiters (f : Lock → Lock) : (s.mapLocks f).arbiters = s.arbiters := by simp only [State.mapLocks]
@[simp] theorem State.mapLocks_luTicks (f : Lock → Lock) : (s.mapLocks f).luTicks = s.luTicks := by simp only [State.mapLocks]
@[simp] theorem State.mapLocks_channels (f : Lock → Lock) : (s.mapLocks f).channels = s.channels := by simp only [State.mapLocks]
@[simp] theorem State.mapLocks_cuTicks (f : Lock → Lock) : (s.mapLocks f).cuTicks = s.cuTicks := by simp only [State.mapLocks]
@[simp] theorem State.mapLocks_cuTickOpen (f : Lock → Lock) : (s.mapLocks f).cuTickOpen = s.cuTickOpen := by simp only [State.mapLocks]
@[simp] theorem State.mapLocks_inspection (f : Lock → Lock) : (s.mapLocks f).inspection = s.inspection := by simp only [State.mapLocks]
@[simp] theorem State.mapLocks_forcing (f : Lock → Lock) : (s.mapLocks f).forcing = s.forcing := by simp only [State.mapLocks]
@[simp] theorem State.mapLocks_memory (f : Lock → Lock) : (s.mapLocks f).memory = s.memory := by simp only [State.mapLocks]
@[simp] theorem State.mapLocks_segments (f : Lock → Lock) : (s.mapLocks f).segments = s.segments := by simp only [State.mapLocks]
@[simp] theorem State.mapLocks_clearing (f : Lock → Lock) : (s.mapLocks f).clearing = s.clearing := by simp only [State.mapLocks]
@[simp] theorem State.mapLocks_period (f : Lock → Lock) : (s.mapLocks f).period = s.period := by simp only [State.mapLocks]
@[simp] theorem State.mapLocks_periodCode (f : Lock → Lock) : (s.mapLocks f).periodCode = s.periodCode := by simp only [State.mapLocks]
@[simp] theorem State.mapLocks_epoch (f : Lock → Lock) : (s.mapLocks f).epoch = s.epoch := by simp only [State.mapLocks]
@[simp] theorem State.mapLocks_phase (f : Lock → Lock) : (s.mapLocks f).phase = s.phase := by simp only [State.mapLocks]
@[simp] theorem State.mapLocks_clearReport (f : Lock → Lock) : (s.mapLocks f).clearReport = s.clearReport := by simp only [State.mapLocks]
@[simp] theorem State.mapLocks_managerPort (f : Lock → Lock) : (s.mapLocks f).managerPort = s.managerPort := by simp only [State.mapLocks]
@[simp] theorem State.mapLocks_keys (f : Lock → Lock) : (s.mapLocks f).keys = s.keys := by simp only [State.mapLocks]
@[simp] theorem State.mapLocks_resetHeld (f : Lock → Lock) : (s.mapLocks f).resetHeld = s.resetHeld := by simp only [State.mapLocks]
@[simp] theorem State.mapLocks_straps (f : Lock → Lock) : (s.mapLocks f).straps = s.straps := by simp only [State.mapLocks]
@[simp] theorem State.mapLocks_pending (f : Lock → Lock) : (s.mapLocks f).pending = s.pending := by simp only [State.mapLocks]
@[simp] theorem State.mapLocks_ctx (f : Lock → Lock) (j : CtxNum) : (s.mapLocks f).ctx j = s.ctx j := by
  simp [State.ctx]
@[simp] theorem State.mapLocks_port (f : Lock → Lock) (j : Port) : (s.mapLocks f).port j = s.port j := by
  simp [State.port]
@[simp] theorem State.mapLocks_link (f : Lock → Lock) (j : Port) : (s.mapLocks f).link j = s.link j := by
  simp [State.link]
@[simp] theorem State.mapLocks_chan (f : Lock → Lock) (j : ChanNum) : (s.mapLocks f).chan j = s.chan j := by
  simp [State.chan]
@[simp] theorem State.mapLocks_seg (f : Lock → Lock) (j : SegNum) : (s.mapLocks f).seg j = s.seg j := by
  simp [State.seg]
@[simp] theorem State.mapLocks_keyPair (f : Lock → Lock) (j : Port) : (s.mapLocks f).keyPair j = s.keyPair j := by
  simp [State.keyPair]
@[simp] theorem State.mapLocks_lock (f : Lock → Lock) (j : LockNum) : (s.mapLocks f).lock j = f (s.lock j) := by
  simp [State.mapLocks, State.lock]

/-! ### mapChans -/

@[simp] theorem State.mapChans_contexts (f : Channel → Channel) : (s.mapChans f).contexts = s.contexts := by simp only [State.mapChans]
@[simp] theorem State.mapChans_ports (f : Channel → Channel) : (s.mapChans f).ports = s.ports := by simp only [State.mapChans]
@[simp] theorem State.mapChans_links (f : Channel → Channel) : (s.mapChans f).links = s.links := by simp only [State.mapChans]
@[simp] theorem State.mapChans_arbiters (f : Channel → Channel) : (s.mapChans f).arbiters = s.arbiters := by simp only [State.mapChans]
@[simp] theorem State.mapChans_locks (f : Channel → Channel) : (s.mapChans f).locks = s.locks := by simp only [State.mapChans]
@[simp] theorem State.mapChans_luTicks (f : Channel → Channel) : (s.mapChans f).luTicks = s.luTicks := by simp only [State.mapChans]
@[simp] theorem State.mapChans_cuTicks (f : Channel → Channel) : (s.mapChans f).cuTicks = s.cuTicks := by simp only [State.mapChans]
@[simp] theorem State.mapChans_cuTickOpen (f : Channel → Channel) : (s.mapChans f).cuTickOpen = s.cuTickOpen := by simp only [State.mapChans]
@[simp] theorem State.mapChans_inspection (f : Channel → Channel) : (s.mapChans f).inspection = s.inspection := by simp only [State.mapChans]
@[simp] theorem State.mapChans_forcing (f : Channel → Channel) : (s.mapChans f).forcing = s.forcing := by simp only [State.mapChans]
@[simp] theorem State.mapChans_memory (f : Channel → Channel) : (s.mapChans f).memory = s.memory := by simp only [State.mapChans]
@[simp] theorem State.mapChans_segments (f : Channel → Channel) : (s.mapChans f).segments = s.segments := by simp only [State.mapChans]
@[simp] theorem State.mapChans_clearing (f : Channel → Channel) : (s.mapChans f).clearing = s.clearing := by simp only [State.mapChans]
@[simp] theorem State.mapChans_period (f : Channel → Channel) : (s.mapChans f).period = s.period := by simp only [State.mapChans]
@[simp] theorem State.mapChans_periodCode (f : Channel → Channel) : (s.mapChans f).periodCode = s.periodCode := by simp only [State.mapChans]
@[simp] theorem State.mapChans_epoch (f : Channel → Channel) : (s.mapChans f).epoch = s.epoch := by simp only [State.mapChans]
@[simp] theorem State.mapChans_phase (f : Channel → Channel) : (s.mapChans f).phase = s.phase := by simp only [State.mapChans]
@[simp] theorem State.mapChans_clearReport (f : Channel → Channel) : (s.mapChans f).clearReport = s.clearReport := by simp only [State.mapChans]
@[simp] theorem State.mapChans_managerPort (f : Channel → Channel) : (s.mapChans f).managerPort = s.managerPort := by simp only [State.mapChans]
@[simp] theorem State.mapChans_keys (f : Channel → Channel) : (s.mapChans f).keys = s.keys := by simp only [State.mapChans]
@[simp] theorem State.mapChans_resetHeld (f : Channel → Channel) : (s.mapChans f).resetHeld = s.resetHeld := by simp only [State.mapChans]
@[simp] theorem State.mapChans_straps (f : Channel → Channel) : (s.mapChans f).straps = s.straps := by simp only [State.mapChans]
@[simp] theorem State.mapChans_pending (f : Channel → Channel) : (s.mapChans f).pending = s.pending := by simp only [State.mapChans]
@[simp] theorem State.mapChans_ctx (f : Channel → Channel) (j : CtxNum) : (s.mapChans f).ctx j = s.ctx j := by
  simp [State.ctx]
@[simp] theorem State.mapChans_port (f : Channel → Channel) (j : Port) : (s.mapChans f).port j = s.port j := by
  simp [State.port]
@[simp] theorem State.mapChans_link (f : Channel → Channel) (j : Port) : (s.mapChans f).link j = s.link j := by
  simp [State.link]
@[simp] theorem State.mapChans_lock (f : Channel → Channel) (j : LockNum) : (s.mapChans f).lock j = s.lock j := by
  simp [State.lock]
@[simp] theorem State.mapChans_seg (f : Channel → Channel) (j : SegNum) : (s.mapChans f).seg j = s.seg j := by
  simp [State.seg]
@[simp] theorem State.mapChans_keyPair (f : Channel → Channel) (j : Port) : (s.mapChans f).keyPair j = s.keyPair j := by
  simp [State.keyPair]
@[simp] theorem State.mapChans_chan (f : Channel → Channel) (j : ChanNum) : (s.mapChans f).chan j = f (s.chan j) := by
  simp [State.mapChans, State.chan]

/-! ### setMemory -/

@[simp] theorem State.setMemory_contexts (m : Memory) : (s.setMemory m).contexts = s.contexts := rfl
@[simp] theorem State.setMemory_ports (m : Memory) : (s.setMemory m).ports = s.ports := rfl
@[simp] theorem State.setMemory_links (m : Memory) : (s.setMemory m).links = s.links := rfl
@[simp] theorem State.setMemory_arbiters (m : Memory) : (s.setMemory m).arbiters = s.arbiters := rfl
@[simp] theorem State.setMemory_locks (m : Memory) : (s.setMemory m).locks = s.locks := rfl
@[simp] theorem State.setMemory_luTicks (m : Memory) : (s.setMemory m).luTicks = s.luTicks := rfl
@[simp] theorem State.setMemory_channels (m : Memory) : (s.setMemory m).channels = s.channels := rfl
@[simp] theorem State.setMemory_cuTicks (m : Memory) : (s.setMemory m).cuTicks = s.cuTicks := rfl
@[simp] theorem State.setMemory_cuTickOpen (m : Memory) : (s.setMemory m).cuTickOpen = s.cuTickOpen := rfl
@[simp] theorem State.setMemory_inspection (m : Memory) : (s.setMemory m).inspection = s.inspection := rfl
@[simp] theorem State.setMemory_forcing (m : Memory) : (s.setMemory m).forcing = s.forcing := rfl
@[simp] theorem State.setMemory_segments (m : Memory) : (s.setMemory m).segments = s.segments := rfl
@[simp] theorem State.setMemory_clearing (m : Memory) : (s.setMemory m).clearing = s.clearing := rfl
@[simp] theorem State.setMemory_period (m : Memory) : (s.setMemory m).period = s.period := rfl
@[simp] theorem State.setMemory_periodCode (m : Memory) : (s.setMemory m).periodCode = s.periodCode := rfl
@[simp] theorem State.setMemory_epoch (m : Memory) : (s.setMemory m).epoch = s.epoch := rfl
@[simp] theorem State.setMemory_phase (m : Memory) : (s.setMemory m).phase = s.phase := rfl
@[simp] theorem State.setMemory_clearReport (m : Memory) : (s.setMemory m).clearReport = s.clearReport := rfl
@[simp] theorem State.setMemory_managerPort (m : Memory) : (s.setMemory m).managerPort = s.managerPort := rfl
@[simp] theorem State.setMemory_keys (m : Memory) : (s.setMemory m).keys = s.keys := rfl
@[simp] theorem State.setMemory_resetHeld (m : Memory) : (s.setMemory m).resetHeld = s.resetHeld := rfl
@[simp] theorem State.setMemory_straps (m : Memory) : (s.setMemory m).straps = s.straps := rfl
@[simp] theorem State.setMemory_pending (m : Memory) : (s.setMemory m).pending = s.pending := rfl
@[simp] theorem State.setMemory_memory (m : Memory) : (s.setMemory m).memory = m := rfl
@[simp] theorem State.setMemory_ctx (m : Memory) (j : CtxNum) : (s.setMemory m).ctx j = s.ctx j := rfl
@[simp] theorem State.setMemory_port (m : Memory) (j : Port) : (s.setMemory m).port j = s.port j := rfl
@[simp] theorem State.setMemory_link (m : Memory) (j : Port) : (s.setMemory m).link j = s.link j := rfl
@[simp] theorem State.setMemory_lock (m : Memory) (j : LockNum) : (s.setMemory m).lock j = s.lock j := rfl
@[simp] theorem State.setMemory_chan (m : Memory) (j : ChanNum) : (s.setMemory m).chan j = s.chan j := rfl
@[simp] theorem State.setMemory_seg (m : Memory) (j : SegNum) : (s.setMemory m).seg j = s.seg j := rfl
@[simp] theorem State.setMemory_keyPair (m : Memory) (j : Port) : (s.setMemory m).keyPair j = s.keyPair j := rfl

/-! ### setLuTicks -/

@[simp] theorem State.setLuTicks_contexts (ts : List LuTick) : (s.setLuTicks ts).contexts = s.contexts := rfl
@[simp] theorem State.setLuTicks_ports (ts : List LuTick) : (s.setLuTicks ts).ports = s.ports := rfl
@[simp] theorem State.setLuTicks_links (ts : List LuTick) : (s.setLuTicks ts).links = s.links := rfl
@[simp] theorem State.setLuTicks_arbiters (ts : List LuTick) : (s.setLuTicks ts).arbiters = s.arbiters := rfl
@[simp] theorem State.setLuTicks_locks (ts : List LuTick) : (s.setLuTicks ts).locks = s.locks := rfl
@[simp] theorem State.setLuTicks_channels (ts : List LuTick) : (s.setLuTicks ts).channels = s.channels := rfl
@[simp] theorem State.setLuTicks_cuTicks (ts : List LuTick) : (s.setLuTicks ts).cuTicks = s.cuTicks := rfl
@[simp] theorem State.setLuTicks_cuTickOpen (ts : List LuTick) : (s.setLuTicks ts).cuTickOpen = s.cuTickOpen := rfl
@[simp] theorem State.setLuTicks_inspection (ts : List LuTick) : (s.setLuTicks ts).inspection = s.inspection := rfl
@[simp] theorem State.setLuTicks_forcing (ts : List LuTick) : (s.setLuTicks ts).forcing = s.forcing := rfl
@[simp] theorem State.setLuTicks_memory (ts : List LuTick) : (s.setLuTicks ts).memory = s.memory := rfl
@[simp] theorem State.setLuTicks_segments (ts : List LuTick) : (s.setLuTicks ts).segments = s.segments := rfl
@[simp] theorem State.setLuTicks_clearing (ts : List LuTick) : (s.setLuTicks ts).clearing = s.clearing := rfl
@[simp] theorem State.setLuTicks_period (ts : List LuTick) : (s.setLuTicks ts).period = s.period := rfl
@[simp] theorem State.setLuTicks_periodCode (ts : List LuTick) : (s.setLuTicks ts).periodCode = s.periodCode := rfl
@[simp] theorem State.setLuTicks_epoch (ts : List LuTick) : (s.setLuTicks ts).epoch = s.epoch := rfl
@[simp] theorem State.setLuTicks_phase (ts : List LuTick) : (s.setLuTicks ts).phase = s.phase := rfl
@[simp] theorem State.setLuTicks_clearReport (ts : List LuTick) : (s.setLuTicks ts).clearReport = s.clearReport := rfl
@[simp] theorem State.setLuTicks_managerPort (ts : List LuTick) : (s.setLuTicks ts).managerPort = s.managerPort := rfl
@[simp] theorem State.setLuTicks_keys (ts : List LuTick) : (s.setLuTicks ts).keys = s.keys := rfl
@[simp] theorem State.setLuTicks_resetHeld (ts : List LuTick) : (s.setLuTicks ts).resetHeld = s.resetHeld := rfl
@[simp] theorem State.setLuTicks_straps (ts : List LuTick) : (s.setLuTicks ts).straps = s.straps := rfl
@[simp] theorem State.setLuTicks_pending (ts : List LuTick) : (s.setLuTicks ts).pending = s.pending := rfl
@[simp] theorem State.setLuTicks_luTicks (ts : List LuTick) : (s.setLuTicks ts).luTicks = ts := rfl
@[simp] theorem State.setLuTicks_ctx (ts : List LuTick) (j : CtxNum) : (s.setLuTicks ts).ctx j = s.ctx j := rfl
@[simp] theorem State.setLuTicks_port (ts : List LuTick) (j : Port) : (s.setLuTicks ts).port j = s.port j := rfl
@[simp] theorem State.setLuTicks_link (ts : List LuTick) (j : Port) : (s.setLuTicks ts).link j = s.link j := rfl
@[simp] theorem State.setLuTicks_lock (ts : List LuTick) (j : LockNum) : (s.setLuTicks ts).lock j = s.lock j := rfl
@[simp] theorem State.setLuTicks_chan (ts : List LuTick) (j : ChanNum) : (s.setLuTicks ts).chan j = s.chan j := rfl
@[simp] theorem State.setLuTicks_seg (ts : List LuTick) (j : SegNum) : (s.setLuTicks ts).seg j = s.seg j := rfl
@[simp] theorem State.setLuTicks_keyPair (ts : List LuTick) (j : Port) : (s.setLuTicks ts).keyPair j = s.keyPair j := rfl

/-! ### setForcing -/

@[simp] theorem State.setForcing_contexts (f : Option CtxNum) : (s.setForcing f).contexts = s.contexts := rfl
@[simp] theorem State.setForcing_ports (f : Option CtxNum) : (s.setForcing f).ports = s.ports := rfl
@[simp] theorem State.setForcing_links (f : Option CtxNum) : (s.setForcing f).links = s.links := rfl
@[simp] theorem State.setForcing_arbiters (f : Option CtxNum) : (s.setForcing f).arbiters = s.arbiters := rfl
@[simp] theorem State.setForcing_locks (f : Option CtxNum) : (s.setForcing f).locks = s.locks := rfl
@[simp] theorem State.setForcing_luTicks (f : Option CtxNum) : (s.setForcing f).luTicks = s.luTicks := rfl
@[simp] theorem State.setForcing_channels (f : Option CtxNum) : (s.setForcing f).channels = s.channels := rfl
@[simp] theorem State.setForcing_memory (f : Option CtxNum) : (s.setForcing f).memory = s.memory := rfl
@[simp] theorem State.setForcing_segments (f : Option CtxNum) : (s.setForcing f).segments = s.segments := rfl
@[simp] theorem State.setForcing_clearing (f : Option CtxNum) : (s.setForcing f).clearing = s.clearing := rfl
@[simp] theorem State.setForcing_period (f : Option CtxNum) : (s.setForcing f).period = s.period := rfl
@[simp] theorem State.setForcing_periodCode (f : Option CtxNum) : (s.setForcing f).periodCode = s.periodCode := rfl
@[simp] theorem State.setForcing_epoch (f : Option CtxNum) : (s.setForcing f).epoch = s.epoch := rfl
@[simp] theorem State.setForcing_phase (f : Option CtxNum) : (s.setForcing f).phase = s.phase := rfl
@[simp] theorem State.setForcing_clearReport (f : Option CtxNum) : (s.setForcing f).clearReport = s.clearReport := rfl
@[simp] theorem State.setForcing_managerPort (f : Option CtxNum) : (s.setForcing f).managerPort = s.managerPort := rfl
@[simp] theorem State.setForcing_keys (f : Option CtxNum) : (s.setForcing f).keys = s.keys := rfl
@[simp] theorem State.setForcing_resetHeld (f : Option CtxNum) : (s.setForcing f).resetHeld = s.resetHeld := rfl
@[simp] theorem State.setForcing_straps (f : Option CtxNum) : (s.setForcing f).straps = s.straps := rfl
@[simp] theorem State.setForcing_pending (f : Option CtxNum) : (s.setForcing f).pending = s.pending := rfl
@[simp] theorem State.setForcing_cuTicks (f : Option CtxNum) : (s.setForcing f).cuTicks = s.cuTicks := rfl
@[simp] theorem State.setForcing_cuTickOpen (f : Option CtxNum) : (s.setForcing f).cuTickOpen = s.cuTickOpen := rfl
@[simp] theorem State.setForcing_inspection (f : Option CtxNum) : (s.setForcing f).inspection = s.inspection := rfl
@[simp] theorem State.setForcing_forcing (f : Option CtxNum) : (s.setForcing f).forcing = f := rfl
@[simp] theorem State.setForcing_ctx (f : Option CtxNum) (j : CtxNum) : (s.setForcing f).ctx j = s.ctx j := rfl
@[simp] theorem State.setForcing_port (f : Option CtxNum) (j : Port) : (s.setForcing f).port j = s.port j := rfl
@[simp] theorem State.setForcing_link (f : Option CtxNum) (j : Port) : (s.setForcing f).link j = s.link j := rfl
@[simp] theorem State.setForcing_lock (f : Option CtxNum) (j : LockNum) : (s.setForcing f).lock j = s.lock j := rfl
@[simp] theorem State.setForcing_chan (f : Option CtxNum) (j : ChanNum) : (s.setForcing f).chan j = s.chan j := rfl
@[simp] theorem State.setForcing_seg (f : Option CtxNum) (j : SegNum) : (s.setForcing f).seg j = s.seg j := rfl
@[simp] theorem State.setForcing_keyPair (f : Option CtxNum) (j : Port) : (s.setForcing f).keyPair j = s.keyPair j := rfl

/-! ### setCuTicks -/

@[simp] theorem State.setCuTicks_contexts (k : Nat) (b : Bool) : (s.setCuTicks k b).contexts = s.contexts := rfl
@[simp] theorem State.setCuTicks_ports (k : Nat) (b : Bool) : (s.setCuTicks k b).ports = s.ports := rfl
@[simp] theorem State.setCuTicks_links (k : Nat) (b : Bool) : (s.setCuTicks k b).links = s.links := rfl
@[simp] theorem State.setCuTicks_arbiters (k : Nat) (b : Bool) : (s.setCuTicks k b).arbiters = s.arbiters := rfl
@[simp] theorem State.setCuTicks_locks (k : Nat) (b : Bool) : (s.setCuTicks k b).locks = s.locks := rfl
@[simp] theorem State.setCuTicks_luTicks (k : Nat) (b : Bool) : (s.setCuTicks k b).luTicks = s.luTicks := rfl
@[simp] theorem State.setCuTicks_channels (k : Nat) (b : Bool) : (s.setCuTicks k b).channels = s.channels := rfl
@[simp] theorem State.setCuTicks_memory (k : Nat) (b : Bool) : (s.setCuTicks k b).memory = s.memory := rfl
@[simp] theorem State.setCuTicks_segments (k : Nat) (b : Bool) : (s.setCuTicks k b).segments = s.segments := rfl
@[simp] theorem State.setCuTicks_clearing (k : Nat) (b : Bool) : (s.setCuTicks k b).clearing = s.clearing := rfl
@[simp] theorem State.setCuTicks_period (k : Nat) (b : Bool) : (s.setCuTicks k b).period = s.period := rfl
@[simp] theorem State.setCuTicks_periodCode (k : Nat) (b : Bool) : (s.setCuTicks k b).periodCode = s.periodCode := rfl
@[simp] theorem State.setCuTicks_epoch (k : Nat) (b : Bool) : (s.setCuTicks k b).epoch = s.epoch := rfl
@[simp] theorem State.setCuTicks_phase (k : Nat) (b : Bool) : (s.setCuTicks k b).phase = s.phase := rfl
@[simp] theorem State.setCuTicks_clearReport (k : Nat) (b : Bool) : (s.setCuTicks k b).clearReport = s.clearReport := rfl
@[simp] theorem State.setCuTicks_managerPort (k : Nat) (b : Bool) : (s.setCuTicks k b).managerPort = s.managerPort := rfl
@[simp] theorem State.setCuTicks_keys (k : Nat) (b : Bool) : (s.setCuTicks k b).keys = s.keys := rfl
@[simp] theorem State.setCuTicks_resetHeld (k : Nat) (b : Bool) : (s.setCuTicks k b).resetHeld = s.resetHeld := rfl
@[simp] theorem State.setCuTicks_straps (k : Nat) (b : Bool) : (s.setCuTicks k b).straps = s.straps := rfl
@[simp] theorem State.setCuTicks_pending (k : Nat) (b : Bool) : (s.setCuTicks k b).pending = s.pending := rfl
@[simp] theorem State.setCuTicks_cuTicks (k : Nat) (b : Bool) : (s.setCuTicks k b).cuTicks = k := rfl
@[simp] theorem State.setCuTicks_cuTickOpen (k : Nat) (b : Bool) : (s.setCuTicks k b).cuTickOpen = b := rfl
@[simp] theorem State.setCuTicks_inspection (k : Nat) (b : Bool) : (s.setCuTicks k b).inspection = s.inspection := rfl
@[simp] theorem State.setCuTicks_forcing (k : Nat) (b : Bool) : (s.setCuTicks k b).forcing = s.forcing := rfl
@[simp] theorem State.setCuTicks_ctx (k : Nat) (b : Bool) (j : CtxNum) : (s.setCuTicks k b).ctx j = s.ctx j := rfl
@[simp] theorem State.setCuTicks_port (k : Nat) (b : Bool) (j : Port) : (s.setCuTicks k b).port j = s.port j := rfl
@[simp] theorem State.setCuTicks_link (k : Nat) (b : Bool) (j : Port) : (s.setCuTicks k b).link j = s.link j := rfl
@[simp] theorem State.setCuTicks_lock (k : Nat) (b : Bool) (j : LockNum) : (s.setCuTicks k b).lock j = s.lock j := rfl
@[simp] theorem State.setCuTicks_chan (k : Nat) (b : Bool) (j : ChanNum) : (s.setCuTicks k b).chan j = s.chan j := rfl
@[simp] theorem State.setCuTicks_seg (k : Nat) (b : Bool) (j : SegNum) : (s.setCuTicks k b).seg j = s.seg j := rfl
@[simp] theorem State.setCuTicks_keyPair (k : Nat) (b : Bool) (j : Port) : (s.setCuTicks k b).keyPair j = s.keyPair j := rfl

end Sys2Proof.Machine
end

