-- ==== Sys2Proof/Laws/Ops.lean ====
section
/-! SUPPORT. What each shared operation can do: what it leaves, what it answers, and when it acts. Callers cite these
lemmas instead of unfolding the operation. -/

namespace Sys2Proof.Machine

variable (s : State)

/-! ### Numbers of contexts -/

@[simp] theorem portOf_ctxOf (p : Port) (c : Fin 4) : portOf (ctxOf p c) = p := by
  apply Fin.ext
  simp only [portOf, ctxOf]
  omega

@[simp] theorem slotOf_ctxOf (p : Port) (c : Fin 4) : slotOf (ctxOf p c) = c := by
  apply Fin.ext
  simp only [slotOf, ctxOf]
  omega

@[simp] theorem ctxOf_portOf_slotOf (cx : CtxNum) : ctxOf (portOf cx) (slotOf cx) = cx := by
  apply Fin.ext
  simp only [portOf, slotOf, ctxOf]
  omega

/-- Every context is one of its port's four. -/
theorem exists_slot {cx : CtxNum} {p : Port} (h : portOf cx = p) : ∃ c, cx = ctxOf p c :=
  ⟨slotOf cx, by rw [← h, ctxOf_portOf_slotOf]⟩

@[simp] theorem mem_allSlots (c : Fin 4) : c ∈ allSlots := by revert c; decide
@[simp] theorem mem_allPorts (p : Port) : p ∈ allPorts := by revert p; decide
@[simp] theorem mem_allCtxs (c : CtxNum) : c ∈ allCtxs := List.mem_finRange c
@[simp] theorem mem_allChans (c : ChanNum) : c ∈ allChans := List.mem_finRange c
@[simp] theorem mem_allLocks (l : LockNum) : l ∈ allLocks := List.mem_finRange l

/-- The lock of an object number, if there is one. -/
theorem CommandRecord.objectBelow_eq_some {r : CommandRecord} {n : Nat} {i : Fin n} :
    r.objectBelow n = some i ↔ r.object.toNat = i.val := by
  unfold CommandRecord.objectBelow
  split
  · rw [Option.some.injEq]
    exact ⟨fun h => by rw [← h], fun h => Fin.ext h⟩
  · rename_i h
    constructor
    · intro h'; cases h'
    · intro h'; omega

/-- An object number out of range. -/
theorem CommandRecord.objectBelow_eq_none {r : CommandRecord} {n : Nat} :
    r.objectBelow n = none ↔ n ≤ r.object.toNat := by
  unfold CommandRecord.objectBelow
  split
  · constructor
    · intro h'; cases h'
    · intro h'; omega
  · simp_all

/-! ### modPortCtxs, the port reset clearing, the withdrawal's completion -/

@[simp] theorem State.modPortCtxs_ports (p : Port) (f : Context → Context) : (s.modPortCtxs p f).ports = s.ports := by
  simp only [State.modPortCtxs, State.mapCtxs_ports]
@[simp] theorem State.modPortCtxs_links (p : Port) (f : Context → Context) : (s.modPortCtxs p f).links = s.links := by
  simp only [State.modPortCtxs, State.mapCtxs_links]
@[simp] theorem State.modPortCtxs_arbiters (p : Port) (f : Context → Context) : (s.modPortCtxs p f).arbiters = s.arbiters := by
  simp only [State.modPortCtxs, State.mapCtxs_arbiters]
@[simp] theorem State.modPortCtxs_locks (p : Port) (f : Context → Context) : (s.modPortCtxs p f).locks = s.locks := by
  simp only [State.modPortCtxs, State.mapCtxs_locks]
@[simp] theorem State.modPortCtxs_luTicks (p : Port) (f : Context → Context) : (s.modPortCtxs p f).luTicks = s.luTicks := by
  simp only [State.modPortCtxs, State.mapCtxs_luTicks]
@[simp] theorem State.modPortCtxs_channels (p : Port) (f : Context → Context) : (s.modPortCtxs p f).channels = s.channels := by
  simp only [State.modPortCtxs, State.mapCtxs_channels]
@[simp] theorem State.modPortCtxs_cuTicks (p : Port) (f : Context → Context) : (s.modPortCtxs p f).cuTicks = s.cuTicks := by
  simp only [State.modPortCtxs, State.mapCtxs_cuTicks]
@[simp] theorem State.modPortCtxs_cuTickOpen (p : Port) (f : Context → Context) : (s.modPortCtxs p f).cuTickOpen = s.cuTickOpen := by
  simp only [State.modPortCtxs, State.mapCtxs_cuTickOpen]
@[simp] theorem State.modPortCtxs_inspection (p : Port) (f : Context → Context) : (s.modPortCtxs p f).inspection = s.inspection := by
  simp only [State.modPortCtxs, State.mapCtxs_inspection]
@[simp] theorem State.modPortCtxs_forcing (p : Port) (f : Context → Context) : (s.modPortCtxs p f).forcing = s.forcing := by
  simp only [State.modPortCtxs, State.mapCtxs_forcing]
@[simp] theorem State.modPortCtxs_memory (p : Port) (f : Context → Context) : (s.modPortCtxs p f).memory = s.memory := by
  simp only [State.modPortCtxs, State.mapCtxs_memory]
@[simp] theorem State.modPortCtxs_segments (p : Port) (f : Context → Context) : (s.modPortCtxs p f).segments = s.segments := by
  simp only [State.modPortCtxs, State.mapCtxs_segments]
@[simp] theorem State.modPortCtxs_clearing (p : Port) (f : Context → Context) : (s.modPortCtxs p f).clearing = s.clearing := by
  simp only [State.modPortCtxs, State.mapCtxs_clearing]
@[simp] theorem State.modPortCtxs_period (p : Port) (f : Context → Context) : (s.modPortCtxs p f).period = s.period := by
  simp only [State.modPortCtxs, State.mapCtxs_period]
@[simp] theorem State.modPortCtxs_periodCode (p : Port) (f : Context → Context) : (s.modPortCtxs p f).periodCode = s.periodCode := by
  simp only [State.modPortCtxs, State.mapCtxs_periodCode]
@[simp] theorem State.modPortCtxs_epoch (p : Port) (f : Context → Context) : (s.modPortCtxs p f).epoch = s.epoch := by
  simp only [State.modPortCtxs, State.mapCtxs_epoch]
@[simp] theorem State.modPortCtxs_phase (p : Port) (f : Context → Context) : (s.modPortCtxs p f).phase = s.phase := by
  simp only [State.modPortCtxs, State.mapCtxs_phase]
@[simp] theorem State.modPortCtxs_clearReport (p : Port) (f : Context → Context) : (s.modPortCtxs p f).clearReport = s.clearReport := by
  simp only [State.modPortCtxs, State.mapCtxs_clearReport]
@[simp] theorem State.modPortCtxs_managerPort (p : Port) (f : Context → Context) : (s.modPortCtxs p f).managerPort = s.managerPort := by
  simp only [State.modPortCtxs, State.mapCtxs_managerPort]
@[simp] theorem State.modPortCtxs_keys (p : Port) (f : Context → Context) : (s.modPortCtxs p f).keys = s.keys := by
  simp only [State.modPortCtxs, State.mapCtxs_keys]
@[simp] theorem State.modPortCtxs_resetHeld (p : Port) (f : Context → Context) : (s.modPortCtxs p f).resetHeld = s.resetHeld := by
  simp only [State.modPortCtxs, State.mapCtxs_resetHeld]
@[simp] theorem State.modPortCtxs_straps (p : Port) (f : Context → Context) : (s.modPortCtxs p f).straps = s.straps := by
  simp only [State.modPortCtxs, State.mapCtxs_straps]
@[simp] theorem State.modPortCtxs_pending (p : Port) (f : Context → Context) : (s.modPortCtxs p f).pending = s.pending := by
  simp only [State.modPortCtxs, State.mapCtxs_pending]
@[simp] theorem State.modPortCtxs_port (p : Port) (f : Context → Context) (j : Port) : (s.modPortCtxs p f).port j = s.port j := by
  simp [State.port]
@[simp] theorem State.modPortCtxs_link (p : Port) (f : Context → Context) (j : Port) : (s.modPortCtxs p f).link j = s.link j := by
  simp [State.link]
@[simp] theorem State.modPortCtxs_lock (p : Port) (f : Context → Context) (j : LockNum) : (s.modPortCtxs p f).lock j = s.lock j := by
  simp [State.lock]
@[simp] theorem State.modPortCtxs_chan (p : Port) (f : Context → Context) (j : ChanNum) : (s.modPortCtxs p f).chan j = s.chan j := by
  simp [State.chan]
@[simp] theorem State.modPortCtxs_seg (p : Port) (f : Context → Context) (j : SegNum) : (s.modPortCtxs p f).seg j = s.seg j := by
  simp [State.seg]
@[simp] theorem State.modPortCtxs_keyPair (p : Port) (f : Context → Context) (j : Port) : (s.modPortCtxs p f).keyPair j = s.keyPair j := by
  simp [State.keyPair]
@[simp] theorem State.modPortCtxs_ctx (p : Port) (f : Context → Context) (cx : CtxNum) :
    (s.modPortCtxs p f).ctx cx = if portOf cx = p then f (s.ctx cx) else s.ctx cx := by
  simp [State.modPortCtxs]

@[simp] theorem State.portResetClearing_links (p : Port) : (s.portResetClearing p).links = s.links := by
  simp only [State.portResetClearing, State.modPort_links, State.modPortCtxs_links]
@[simp] theorem State.portResetClearing_arbiters (p : Port) : (s.portResetClearing p).arbiters = s.arbiters := by
  simp only [State.portResetClearing, State.modPort_arbiters, State.modPortCtxs_arbiters]
@[simp] theorem State.portResetClearing_locks (p : Port) : (s.portResetClearing p).locks = s.locks := by
  simp only [State.portResetClearing, State.modPort_locks, State.modPortCtxs_locks]
@[simp] theorem State.portResetClearing_luTicks (p : Port) : (s.portResetClearing p).luTicks = s.luTicks := by
  simp only [State.portResetClearing, State.modPort_luTicks, State.modPortCtxs_luTicks]
@[simp] theorem State.portResetClearing_channels (p : Port) : (s.portResetClearing p).channels = s.channels := by
  simp only [State.portResetClearing, State.modPort_channels, State.modPortCtxs_channels]
@[simp] theorem State.portResetClearing_cuTicks (p : Port) : (s.portResetClearing p).cuTicks = s.cuTicks := by
  simp only [State.portResetClearing, State.modPort_cuTicks, State.modPortCtxs_cuTicks]
@[simp] theorem State.portResetClearing_cuTickOpen (p : Port) : (s.portResetClearing p).cuTickOpen = s.cuTickOpen := by
  simp only [State.portResetClearing, State.modPort_cuTickOpen, State.modPortCtxs_cuTickOpen]
@[simp] theorem State.portResetClearing_inspection (p : Port) : (s.portResetClearing p).inspection = s.inspection := by
  simp only [State.portResetClearing, State.modPort_inspection, State.modPortCtxs_inspection]
@[simp] theorem State.portResetClearing_forcing (p : Port) : (s.portResetClearing p).forcing = s.forcing := by
  simp only [State.portResetClearing, State.modPort_forcing, State.modPortCtxs_forcing]
@[simp] theorem State.portResetClearing_memory (p : Port) : (s.portResetClearing p).memory = s.memory := by
  simp only [State.portResetClearing, State.modPort_memory, State.modPortCtxs_memory]
@[simp] theorem State.portResetClearing_segments (p : Port) : (s.portResetClearing p).segments = s.segments := by
  simp only [State.portResetClearing, State.modPort_segments, State.modPortCtxs_segments]
@[simp] theorem State.portResetClearing_clearing (p : Port) : (s.portResetClearing p).clearing = s.clearing := by
  simp only [State.portResetClearing, State.modPort_clearing, State.modPortCtxs_clearing]
@[simp] theorem State.portResetClearing_period (p : Port) : (s.portResetClearing p).period = s.period := by
  simp only [State.portResetClearing, State.modPort_period, State.modPortCtxs_period]
@[simp] theorem State.portResetClearing_periodCode (p : Port) : (s.portResetClearing p).periodCode = s.periodCode := by
  simp only [State.portResetClearing, State.modPort_periodCode, State.modPortCtxs_periodCode]
@[simp] theorem State.portResetClearing_epoch (p : Port) : (s.portResetClearing p).epoch = s.epoch := by
  simp only [State.portResetClearing, State.modPort_epoch, State.modPortCtxs_epoch]
@[simp] theorem State.portResetClearing_phase (p : Port) : (s.portResetClearing p).phase = s.phase := by
  simp only [State.portResetClearing, State.modPort_phase, State.modPortCtxs_phase]
@[simp] theorem State.portResetClearing_clearReport (p : Port) : (s.portResetClearing p).clearReport = s.clearReport := by
  simp only [State.portResetClearing, State.modPort_clearReport, State.modPortCtxs_clearReport]
@[simp] theorem State.portResetClearing_managerPort (p : Port) : (s.portResetClearing p).managerPort = s.managerPort := by
  simp only [State.portResetClearing, State.modPort_managerPort, State.modPortCtxs_managerPort]
@[simp] theorem State.portResetClearing_keys (p : Port) : (s.portResetClearing p).keys = s.keys := by
  simp only [State.portResetClearing, State.modPort_keys, State.modPortCtxs_keys]
@[simp] theorem State.portResetClearing_resetHeld (p : Port) : (s.portResetClearing p).resetHeld = s.resetHeld := by
  simp only [State.portResetClearing, State.modPort_resetHeld, State.modPortCtxs_resetHeld]
@[simp] theorem State.portResetClearing_straps (p : Port) : (s.portResetClearing p).straps = s.straps := by
  simp only [State.portResetClearing, State.modPort_straps, State.modPortCtxs_straps]
@[simp] theorem State.portResetClearing_pending (p : Port) : (s.portResetClearing p).pending = s.pending := by
  simp only [State.portResetClearing, State.modPort_pending, State.modPortCtxs_pending]
@[simp] theorem State.portResetClearing_link (p : Port) (j : Port) : (s.portResetClearing p).link j = s.link j := by
  simp [State.link]
@[simp] theorem State.portResetClearing_lock (p : Port) (j : LockNum) : (s.portResetClearing p).lock j = s.lock j := by
  simp [State.lock]
@[simp] theorem State.portResetClearing_chan (p : Port) (j : ChanNum) : (s.portResetClearing p).chan j = s.chan j := by
  simp [State.chan]
@[simp] theorem State.portResetClearing_seg (p : Port) (j : SegNum) : (s.portResetClearing p).seg j = s.seg j := by
  simp [State.seg]
@[simp] theorem State.portResetClearing_keyPair (p : Port) (j : Port) : (s.portResetClearing p).keyPair j = s.keyPair j := by
  simp [State.keyPair]
@[simp] theorem State.completeWithdrawal_links (p : Port) (m : Bool) : (s.completeWithdrawal p m).links = s.links := by
  cases m <;> simp [State.completeWithdrawal]
@[simp] theorem State.completeWithdrawal_arbiters (p : Port) (m : Bool) : (s.completeWithdrawal p m).arbiters = s.arbiters := by
  cases m <;> simp [State.completeWithdrawal]
@[simp] theorem State.completeWithdrawal_locks (p : Port) (m : Bool) : (s.completeWithdrawal p m).locks = s.locks := by
  cases m <;> simp [State.completeWithdrawal]
@[simp] theorem State.completeWithdrawal_luTicks (p : Port) (m : Bool) : (s.completeWithdrawal p m).luTicks = s.luTicks := by
  cases m <;> simp [State.completeWithdrawal]
@[simp] theorem State.completeWithdrawal_channels (p : Port) (m : Bool) : (s.completeWithdrawal p m).channels = s.channels := by
  cases m <;> simp [State.completeWithdrawal]
@[simp] theorem State.completeWithdrawal_cuTicks (p : Port) (m : Bool) : (s.completeWithdrawal p m).cuTicks = s.cuTicks := by
  cases m <;> simp [State.completeWithdrawal]
@[simp] theorem State.completeWithdrawal_cuTickOpen (p : Port) (m : Bool) : (s.completeWithdrawal p m).cuTickOpen = s.cuTickOpen := by
  cases m <;> simp [State.completeWithdrawal]
@[simp] theorem State.completeWithdrawal_inspection (p : Port) (m : Bool) : (s.completeWithdrawal p m).inspection = s.inspection := by
  cases m <;> simp [State.completeWithdrawal]
@[simp] theorem State.completeWithdrawal_forcing (p : Port) (m : Bool) : (s.completeWithdrawal p m).forcing = s.forcing := by
  cases m <;> simp [State.completeWithdrawal]
@[simp] theorem State.completeWithdrawal_memory (p : Port) (m : Bool) : (s.completeWithdrawal p m).memory = s.memory := by
  cases m <;> simp [State.completeWithdrawal]
@[simp] theorem State.completeWithdrawal_segments (p : Port) (m : Bool) : (s.completeWithdrawal p m).segments = s.segments := by
  cases m <;> simp [State.completeWithdrawal]
@[simp] theorem State.completeWithdrawal_clearing (p : Port) (m : Bool) : (s.completeWithdrawal p m).clearing = s.clearing := by
  cases m <;> simp [State.completeWithdrawal]
@[simp] theorem State.completeWithdrawal_period (p : Port) (m : Bool) : (s.completeWithdrawal p m).period = s.period := by
  cases m <;> simp [State.completeWithdrawal]
@[simp] theorem State.completeWithdrawal_periodCode (p : Port) (m : Bool) : (s.completeWithdrawal p m).periodCode = s.periodCode := by
  cases m <;> simp [State.completeWithdrawal]
@[simp] theorem State.completeWithdrawal_epoch (p : Port) (m : Bool) : (s.completeWithdrawal p m).epoch = s.epoch := by
  cases m <;> simp [State.completeWithdrawal]
@[simp] theorem State.completeWithdrawal_phase (p : Port) (m : Bool) : (s.completeWithdrawal p m).phase = s.phase := by
  cases m <;> simp [State.completeWithdrawal]
@[simp] theorem State.completeWithdrawal_clearReport (p : Port) (m : Bool) : (s.completeWithdrawal p m).clearReport = s.clearReport := by
  cases m <;> simp [State.completeWithdrawal]
@[simp] theorem State.completeWithdrawal_managerPort (p : Port) (m : Bool) : (s.completeWithdrawal p m).managerPort = s.managerPort := by
  cases m <;> simp [State.completeWithdrawal]
@[simp] theorem State.completeWithdrawal_keys (p : Port) (m : Bool) : (s.completeWithdrawal p m).keys = s.keys := by
  cases m <;> simp [State.completeWithdrawal]
@[simp] theorem State.completeWithdrawal_resetHeld (p : Port) (m : Bool) : (s.completeWithdrawal p m).resetHeld = s.resetHeld := by
  cases m <;> simp [State.completeWithdrawal]
@[simp] theorem State.completeWithdrawal_straps (p : Port) (m : Bool) : (s.completeWithdrawal p m).straps = s.straps := by
  cases m <;> simp [State.completeWithdrawal]
@[simp] theorem State.completeWithdrawal_pending (p : Port) (m : Bool) : (s.completeWithdrawal p m).pending = s.pending := by
  cases m <;> simp [State.completeWithdrawal]
@[simp] theorem State.completeWithdrawal_link (p : Port) (m : Bool) (j : Port) : (s.completeWithdrawal p m).link j = s.link j := by
  simp [State.link]
@[simp] theorem State.completeWithdrawal_lock (p : Port) (m : Bool) (j : LockNum) : (s.completeWithdrawal p m).lock j = s.lock j := by
  simp [State.lock]
@[simp] theorem State.completeWithdrawal_chan (p : Port) (m : Bool) (j : ChanNum) : (s.completeWithdrawal p m).chan j = s.chan j := by
  simp [State.chan]
@[simp] theorem State.completeWithdrawal_seg (p : Port) (m : Bool) (j : SegNum) : (s.completeWithdrawal p m).seg j = s.seg j := by
  simp [State.seg]
@[simp] theorem State.completeWithdrawal_keyPair (p : Port) (m : Bool) (j : Port) : (s.completeWithdrawal p m).keyPair j = s.keyPair j := by
  simp [State.keyPair]
/-! ### The test of the completion condition (R140) -/

/-- The test does nothing, or it is the completion step. -/
theorem State.testWithdrawal_cases (p : Port) :
    s.testWithdrawal p = s ∨
      ∃ acks mark, (s.port p).state = .withdrawing acks mark ∧ allAcked acks = true ∧ s.portAtRest p = true ∧
        s.testWithdrawal p = s.completeWithdrawal p mark := by
  unfold State.testWithdrawal
  split
  · rename_i acks mark h
    by_cases hc : (allAcked acks && s.portAtRest p) = true
    · rw [if_pos hc]
      simp only [Bool.and_eq_true] at hc
      exact .inr ⟨acks, mark, h, hc.1, hc.2, rfl⟩
    · rw [if_neg hc]; exact .inl rfl
  · exact .inl rfl

/-- With no acknowledgement set full the test does nothing. -/
theorem State.testWithdrawal_of_settled {s : State} (h : s.settled) (p : Port) : s.testWithdrawal p = s := by
  rcases s.testWithdrawal_cases p with e | ⟨acks, mark, hs, ha, _, _⟩
  · exact e
  · have := h p
    rw [hs] at this
    simp [PortState.settled, ha] at this

/-- Whether completions are due is seen at the port interfaces alone. -/
theorem State.settled_congr {s t : State} (h : t.ports = s.ports) : t.settled ↔ s.settled := by
  simp [State.settled, State.port, h]

@[simp] theorem State.testWithdrawal_links (p : Port) : (s.testWithdrawal p).links = s.links := by
  rcases s.testWithdrawal_cases p with e | ⟨_, _, _, _, _, e⟩ <;> rw [e]
  exact State.completeWithdrawal_links s p _
@[simp] theorem State.testWithdrawal_arbiters (p : Port) : (s.testWithdrawal p).arbiters = s.arbiters := by
  rcases s.testWithdrawal_cases p with e | ⟨_, _, _, _, _, e⟩ <;> rw [e]
  exact State.completeWithdrawal_arbiters s p _
@[simp] theorem State.testWithdrawal_locks (p : Port) : (s.testWithdrawal p).locks = s.locks := by
  rcases s.testWithdrawal_cases p with e | ⟨_, _, _, _, _, e⟩ <;> rw [e]
  exact State.completeWithdrawal_locks s p _
@[simp] theorem State.testWithdrawal_luTicks (p : Port) : (s.testWithdrawal p).luTicks = s.luTicks := by
  rcases s.testWithdrawal_cases p with e | ⟨_, _, _, _, _, e⟩ <;> rw [e]
  exact State.completeWithdrawal_luTicks s p _
@[simp] theorem State.testWithdrawal_channels (p : Port) : (s.testWithdrawal p).channels = s.channels := by
  rcases s.testWithdrawal_cases p with e | ⟨_, _, _, _, _, e⟩ <;> rw [e]
  exact State.completeWithdrawal_channels s p _
@[simp] theorem State.testWithdrawal_cuTicks (p : Port) : (s.testWithdrawal p).cuTicks = s.cuTicks := by
  rcases s.testWithdrawal_cases p with e | ⟨_, _, _, _, _, e⟩ <;> rw [e]
  exact State.completeWithdrawal_cuTicks s p _
@[simp] theorem State.testWithdrawal_cuTickOpen (p : Port) : (s.testWithdrawal p).cuTickOpen = s.cuTickOpen := by
  rcases s.testWithdrawal_cases p with e | ⟨_, _, _, _, _, e⟩ <;> rw [e]
  exact State.completeWithdrawal_cuTickOpen s p _
@[simp] theorem State.testWithdrawal_inspection (p : Port) : (s.testWithdrawal p).inspection = s.inspection := by
  rcases s.testWithdrawal_cases p with e | ⟨_, _, _, _, _, e⟩ <;> rw [e]
  exact State.completeWithdrawal_inspection s p _
@[simp] theorem State.testWithdrawal_forcing (p : Port) : (s.testWithdrawal p).forcing = s.forcing := by
  rcases s.testWithdrawal_cases p with e | ⟨_, _, _, _, _, e⟩ <;> rw [e]
  exact State.completeWithdrawal_forcing s p _
@[simp] theorem State.testWithdrawal_memory (p : Port) : (s.testWithdrawal p).memory = s.memory := by
  rcases s.testWithdrawal_cases p with e | ⟨_, _, _, _, _, e⟩ <;> rw [e]
  exact State.completeWithdrawal_memory s p _
@[simp] theorem State.testWithdrawal_segments (p : Port) : (s.testWithdrawal p).segments = s.segments := by
  rcases s.testWithdrawal_cases p with e | ⟨_, _, _, _, _, e⟩ <;> rw [e]
  exact State.completeWithdrawal_segments s p _
@[simp] theorem State.testWithdrawal_clearing (p : Port) : (s.testWithdrawal p).clearing = s.clearing := by
  rcases s.testWithdrawal_cases p with e | ⟨_, _, _, _, _, e⟩ <;> rw [e]
  exact State.completeWithdrawal_clearing s p _
@[simp] theorem State.testWithdrawal_period (p : Port) : (s.testWithdrawal p).period = s.period := by
  rcases s.testWithdrawal_cases p with e | ⟨_, _, _, _, _, e⟩ <;> rw [e]
  exact State.completeWithdrawal_period s p _
@[simp] theorem State.testWithdrawal_periodCode (p : Port) : (s.testWithdrawal p).periodCode = s.periodCode := by
  rcases s.testWithdrawal_cases p with e | ⟨_, _, _, _, _, e⟩ <;> rw [e]
  exact State.completeWithdrawal_periodCode s p _
@[simp] theorem State.testWithdrawal_epoch (p : Port) : (s.testWithdrawal p).epoch = s.epoch := by
  rcases s.testWithdrawal_cases p with e | ⟨_, _, _, _, _, e⟩ <;> rw [e]
  exact State.completeWithdrawal_epoch s p _
@[simp] theorem State.testWithdrawal_phase (p : Port) : (s.testWithdrawal p).phase = s.phase := by
  rcases s.testWithdrawal_cases p with e | ⟨_, _, _, _, _, e⟩ <;> rw [e]
  exact State.completeWithdrawal_phase s p _
@[simp] theorem State.testWithdrawal_clearReport (p : Port) : (s.testWithdrawal p).clearReport = s.clearReport := by
  rcases s.testWithdrawal_cases p with e | ⟨_, _, _, _, _, e⟩ <;> rw [e]
  exact State.completeWithdrawal_clearReport s p _
@[simp] theorem State.testWithdrawal_managerPort (p : Port) : (s.testWithdrawal p).managerPort = s.managerPort := by
  rcases s.testWithdrawal_cases p with e | ⟨_, _, _, _, _, e⟩ <;> rw [e]
  exact State.completeWithdrawal_managerPort s p _
@[simp] theorem State.testWithdrawal_keys (p : Port) : (s.testWithdrawal p).keys = s.keys := by
  rcases s.testWithdrawal_cases p with e | ⟨_, _, _, _, _, e⟩ <;> rw [e]
  exact State.completeWithdrawal_keys s p _
@[simp] theorem State.testWithdrawal_resetHeld (p : Port) : (s.testWithdrawal p).resetHeld = s.resetHeld := by
  rcases s.testWithdrawal_cases p with e | ⟨_, _, _, _, _, e⟩ <;> rw [e]
  exact State.completeWithdrawal_resetHeld s p _
@[simp] theorem State.testWithdrawal_straps (p : Port) : (s.testWithdrawal p).straps = s.straps := by
  rcases s.testWithdrawal_cases p with e | ⟨_, _, _, _, _, e⟩ <;> rw [e]
  exact State.completeWithdrawal_straps s p _
@[simp] theorem State.testWithdrawal_pending (p : Port) : (s.testWithdrawal p).pending = s.pending := by
  rcases s.testWithdrawal_cases p with e | ⟨_, _, _, _, _, e⟩ <;> rw [e]
  exact State.completeWithdrawal_pending s p _
@[simp] theorem State.testWithdrawal_link (p : Port) (j : Port) : (s.testWithdrawal p).link j = s.link j := by
  simp [State.link]
@[simp] theorem State.testWithdrawal_lock (p : Port) (j : LockNum) : (s.testWithdrawal p).lock j = s.lock j := by
  simp [State.lock]
@[simp] theorem State.testWithdrawal_chan (p : Port) (j : ChanNum) : (s.testWithdrawal p).chan j = s.chan j := by
  simp [State.chan]
@[simp] theorem State.testWithdrawal_seg (p : Port) (j : SegNum) : (s.testWithdrawal p).seg j = s.seg j := by
  simp [State.seg]
@[simp] theorem State.testWithdrawal_keyPair (p : Port) (j : Port) : (s.testWithdrawal p).keyPair j = s.keyPair j := by
  simp [State.keyPair]
/-! ### Completion (R18) -/

@[simp] theorem State.complete_links (cx : CtxNum) (r : Answer) : (s.complete cx r).links = s.links := by
  simp [State.complete]
@[simp] theorem State.complete_arbiters (cx : CtxNum) (r : Answer) : (s.complete cx r).arbiters = s.arbiters := by
  simp [State.complete]
@[simp] theorem State.complete_locks (cx : CtxNum) (r : Answer) : (s.complete cx r).locks = s.locks := by
  simp [State.complete]
@[simp] theorem State.complete_luTicks (cx : CtxNum) (r : Answer) : (s.complete cx r).luTicks = s.luTicks := by
  simp [State.complete]
@[simp] theorem State.complete_channels (cx : CtxNum) (r : Answer) : (s.complete cx r).channels = s.channels := by
  simp [State.complete]
@[simp] theorem State.complete_cuTicks (cx : CtxNum) (r : Answer) : (s.complete cx r).cuTicks = s.cuTicks := by
  simp [State.complete]
@[simp] theorem State.complete_cuTickOpen (cx : CtxNum) (r : Answer) : (s.complete cx r).cuTickOpen = s.cuTickOpen := by
  simp [State.complete]
@[simp] theorem State.complete_inspection (cx : CtxNum) (r : Answer) : (s.complete cx r).inspection = s.inspection := by
  simp [State.complete]
@[simp] theorem State.complete_forcing (cx : CtxNum) (r : Answer) : (s.complete cx r).forcing = s.forcing := by
  simp [State.complete]
@[simp] theorem State.complete_memory (cx : CtxNum) (r : Answer) : (s.complete cx r).memory = s.memory := by
  simp [State.complete]
@[simp] theorem State.complete_segments (cx : CtxNum) (r : Answer) : (s.complete cx r).segments = s.segments := by
  simp [State.complete]
@[simp] theorem State.complete_clearing (cx : CtxNum) (r : Answer) : (s.complete cx r).clearing = s.clearing := by
  simp [State.complete]
@[simp] theorem State.complete_period (cx : CtxNum) (r : Answer) : (s.complete cx r).period = s.period := by
  simp [State.complete]
@[simp] theorem State.complete_periodCode (cx : CtxNum) (r : Answer) : (s.complete cx r).periodCode = s.periodCode := by
  simp [State.complete]
@[simp] theorem State.complete_epoch (cx : CtxNum) (r : Answer) : (s.complete cx r).epoch = s.epoch := by
  simp [State.complete]
@[simp] theorem State.complete_phase (cx : CtxNum) (r : Answer) : (s.complete cx r).phase = s.phase := by
  simp [State.complete]
@[simp] theorem State.complete_clearReport (cx : CtxNum) (r : Answer) : (s.complete cx r).clearReport = s.clearReport := by
  simp [State.complete]
@[simp] theorem State.complete_managerPort (cx : CtxNum) (r : Answer) : (s.complete cx r).managerPort = s.managerPort := by
  simp [State.complete]
@[simp] theorem State.complete_keys (cx : CtxNum) (r : Answer) : (s.complete cx r).keys = s.keys := by
  simp [State.complete]
@[simp] theorem State.complete_resetHeld (cx : CtxNum) (r : Answer) : (s.complete cx r).resetHeld = s.resetHeld := by
  simp [State.complete]
@[simp] theorem State.complete_straps (cx : CtxNum) (r : Answer) : (s.complete cx r).straps = s.straps := by
  simp [State.complete]
@[simp] theorem State.complete_pending (cx : CtxNum) (r : Answer) : (s.complete cx r).pending = s.pending := by
  simp [State.complete]
@[simp] theorem State.complete_link (cx : CtxNum) (r : Answer) (j : Port) : (s.complete cx r).link j = s.link j := by
  simp [State.link]
@[simp] theorem State.complete_lock (cx : CtxNum) (r : Answer) (j : LockNum) : (s.complete cx r).lock j = s.lock j := by
  simp [State.lock]
@[simp] theorem State.complete_chan (cx : CtxNum) (r : Answer) (j : ChanNum) : (s.complete cx r).chan j = s.chan j := by
  simp [State.chan]
@[simp] theorem State.complete_seg (cx : CtxNum) (r : Answer) (j : SegNum) : (s.complete cx r).seg j = s.seg j := by
  simp [State.seg]
@[simp] theorem State.complete_keyPair (cx : CtxNum) (r : Answer) (j : Port) : (s.complete cx r).keyPair j = s.keyPair j := by
  simp [State.keyPair]
/-- A completion with no withdrawal about to complete writes its own context alone. -/
theorem State.complete_of_settled {s : State} (h : s.settled) (cx : CtxNum) (r : Answer) :
    s.complete cx r = s.modCtx cx fun c => c.completed r :=
  State.testWithdrawal_of_settled ((State.settled_congr (by simp)).2 h) (portOf cx)

/-- A quantity that no completion changes is not changed by a fold of steps that each keep it. -/
theorem foldl_keeps {α β γ : Type} (g : α → γ) (f : α → β → α) (h : ∀ a b, g (f a b) = g a) (l : List β) (a : α) :
    g (l.foldl f a) = g a := by
  induction l generalizing a with
  | nil => rfl
  | cons b l ih => rw [List.foldl_cons, ih, h]

/-! ### Folds of completions -/

@[simp] theorem State.cancelAll_links (p : Port) (t : CtxState) : (s.cancelAll p t).links = s.links := by
  exact foldl_keeps State.links _ (fun a b => by split <;> simp) _ s
@[simp] theorem State.cancelAll_arbiters (p : Port) (t : CtxState) : (s.cancelAll p t).arbiters = s.arbiters := by
  exact foldl_keeps State.arbiters _ (fun a b => by split <;> simp) _ s
@[simp] theorem State.cancelAll_locks (p : Port) (t : CtxState) : (s.cancelAll p t).locks = s.locks := by
  exact foldl_keeps State.locks _ (fun a b => by split <;> simp) _ s
@[simp] theorem State.cancelAll_luTicks (p : Port) (t : CtxState) : (s.cancelAll p t).luTicks = s.luTicks := by
  exact foldl_keeps State.luTicks _ (fun a b => by split <;> simp) _ s
@[simp] theorem State.cancelAll_channels (p : Port) (t : CtxState) : (s.cancelAll p t).channels = s.channels := by
  exact foldl_keeps State.channels _ (fun a b => by split <;> simp) _ s
@[simp] theorem State.cancelAll_cuTicks (p : Port) (t : CtxState) : (s.cancelAll p t).cuTicks = s.cuTicks := by
  exact foldl_keeps State.cuTicks _ (fun a b => by split <;> simp) _ s
@[simp] theorem State.cancelAll_cuTickOpen (p : Port) (t : CtxState) : (s.cancelAll p t).cuTickOpen = s.cuTickOpen := by
  exact foldl_keeps State.cuTickOpen _ (fun a b => by split <;> simp) _ s
@[simp] theorem State.cancelAll_inspection (p : Port) (t : CtxState) : (s.cancelAll p t).inspection = s.inspection := by
  exact foldl_keeps State.inspection _ (fun a b => by split <;> simp) _ s
@[simp] theorem State.cancelAll_forcing (p : Port) (t : CtxState) : (s.cancelAll p t).forcing = s.forcing := by
  exact foldl_keeps State.forcing _ (fun a b => by split <;> simp) _ s
@[simp] theorem State.cancelAll_memory (p : Port) (t : CtxState) : (s.cancelAll p t).memory = s.memory := by
  exact foldl_keeps State.memory _ (fun a b => by split <;> simp) _ s
@[simp] theorem State.cancelAll_segments (p : Port) (t : CtxState) : (s.cancelAll p t).segments = s.segments := by
  exact foldl_keeps State.segments _ (fun a b => by split <;> simp) _ s
@[simp] theorem State.cancelAll_clearing (p : Port) (t : CtxState) : (s.cancelAll p t).clearing = s.clearing := by
  exact foldl_keeps State.clearing _ (fun a b => by split <;> simp) _ s
@[simp] theorem State.cancelAll_period (p : Port) (t : CtxState) : (s.cancelAll p t).period = s.period := by
  exact foldl_keeps State.period _ (fun a b => by split <;> simp) _ s
@[simp] theorem State.cancelAll_periodCode (p : Port) (t : CtxState) : (s.cancelAll p t).periodCode = s.periodCode := by
  exact foldl_keeps State.periodCode _ (fun a b => by split <;> simp) _ s
@[simp] theorem State.cancelAll_epoch (p : Port) (t : CtxState) : (s.cancelAll p t).epoch = s.epoch := by
  exact foldl_keeps State.epoch _ (fun a b => by split <;> simp) _ s
@[simp] theorem State.cancelAll_phase (p : Port) (t : CtxState) : (s.cancelAll p t).phase = s.phase := by
  exact foldl_keeps State.phase _ (fun a b => by split <;> simp) _ s
@[simp] theorem State.cancelAll_clearReport (p : Port) (t : CtxState) : (s.cancelAll p t).clearReport = s.clearReport := by
  exact foldl_keeps State.clearReport _ (fun a b => by split <;> simp) _ s
@[simp] theorem State.cancelAll_managerPort (p : Port) (t : CtxState) : (s.cancelAll p t).managerPort = s.managerPort := by
  exact foldl_keeps State.managerPort _ (fun a b => by split <;> simp) _ s
@[simp] theorem State.cancelAll_keys (p : Port) (t : CtxState) : (s.cancelAll p t).keys = s.keys := by
  exact foldl_keeps State.keys _ (fun a b => by split <;> simp) _ s
@[simp] theorem State.cancelAll_resetHeld (p : Port) (t : CtxState) : (s.cancelAll p t).resetHeld = s.resetHeld := by
  exact foldl_keeps State.resetHeld _ (fun a b => by split <;> simp) _ s
@[simp] theorem State.cancelAll_straps (p : Port) (t : CtxState) : (s.cancelAll p t).straps = s.straps := by
  exact foldl_keeps State.straps _ (fun a b => by split <;> simp) _ s
@[simp] theorem State.cancelAll_pending (p : Port) (t : CtxState) : (s.cancelAll p t).pending = s.pending := by
  exact foldl_keeps State.pending _ (fun a b => by split <;> simp) _ s
@[simp] theorem State.cancelAll_link (p : Port) (t : CtxState) (j : Port) : (s.cancelAll p t).link j = s.link j := by
  simp [State.link]
@[simp] theorem State.cancelAll_lock (p : Port) (t : CtxState) (j : LockNum) : (s.cancelAll p t).lock j = s.lock j := by
  simp [State.lock]
@[simp] theorem State.cancelAll_chan (p : Port) (t : CtxState) (j : ChanNum) : (s.cancelAll p t).chan j = s.chan j := by
  simp [State.chan]
@[simp] theorem State.cancelAll_seg (p : Port) (t : CtxState) (j : SegNum) : (s.cancelAll p t).seg j = s.seg j := by
  simp [State.seg]
@[simp] theorem State.cancelAll_keyPair (p : Port) (t : CtxState) (j : Port) : (s.cancelAll p t).keyPair j = s.keyPair j := by
  simp [State.keyPair]
@[simp] theorem State.timeOutAll_links (cs : List CtxNum) : (s.timeOutAll cs).links = s.links := by
  exact foldl_keeps State.links _ (fun a b => by simp) _ s
@[simp] theorem State.timeOutAll_arbiters (cs : List CtxNum) : (s.timeOutAll cs).arbiters = s.arbiters := by
  exact foldl_keeps State.arbiters _ (fun a b => by simp) _ s
@[simp] theorem State.timeOutAll_locks (cs : List CtxNum) : (s.timeOutAll cs).locks = s.locks := by
  exact foldl_keeps State.locks _ (fun a b => by simp) _ s
@[simp] theorem State.timeOutAll_luTicks (cs : List CtxNum) : (s.timeOutAll cs).luTicks = s.luTicks := by
  exact foldl_keeps State.luTicks _ (fun a b => by simp) _ s
@[simp] theorem State.timeOutAll_channels (cs : List CtxNum) : (s.timeOutAll cs).channels = s.channels := by
  exact foldl_keeps State.channels _ (fun a b => by simp) _ s
@[simp] theorem State.timeOutAll_cuTicks (cs : List CtxNum) : (s.timeOutAll cs).cuTicks = s.cuTicks := by
  exact foldl_keeps State.cuTicks _ (fun a b => by simp) _ s
@[simp] theorem State.timeOutAll_cuTickOpen (cs : List CtxNum) : (s.timeOutAll cs).cuTickOpen = s.cuTickOpen := by
  exact foldl_keeps State.cuTickOpen _ (fun a b => by simp) _ s
@[simp] theorem State.timeOutAll_inspection (cs : List CtxNum) : (s.timeOutAll cs).inspection = s.inspection := by
  exact foldl_keeps State.inspection _ (fun a b => by simp) _ s
@[simp] theorem State.timeOutAll_forcing (cs : List CtxNum) : (s.timeOutAll cs).forcing = s.forcing := by
  exact foldl_keeps State.forcing _ (fun a b => by simp) _ s
@[simp] theorem State.timeOutAll_memory (cs : List CtxNum) : (s.timeOutAll cs).memory = s.memory := by
  exact foldl_keeps State.memory _ (fun a b => by simp) _ s
@[simp] theorem State.timeOutAll_segments (cs : List CtxNum) : (s.timeOutAll cs).segments = s.segments := by
  exact foldl_keeps State.segments _ (fun a b => by simp) _ s
@[simp] theorem State.timeOutAll_clearing (cs : List CtxNum) : (s.timeOutAll cs).clearing = s.clearing := by
  exact foldl_keeps State.clearing _ (fun a b => by simp) _ s
@[simp] theorem State.timeOutAll_period (cs : List CtxNum) : (s.timeOutAll cs).period = s.period := by
  exact foldl_keeps State.period _ (fun a b => by simp) _ s
@[simp] theorem State.timeOutAll_periodCode (cs : List CtxNum) : (s.timeOutAll cs).periodCode = s.periodCode := by
  exact foldl_keeps State.periodCode _ (fun a b => by simp) _ s
@[simp] theorem State.timeOutAll_epoch (cs : List CtxNum) : (s.timeOutAll cs).epoch = s.epoch := by
  exact foldl_keeps State.epoch _ (fun a b => by simp) _ s
@[simp] theorem State.timeOutAll_phase (cs : List CtxNum) : (s.timeOutAll cs).phase = s.phase := by
  exact foldl_keeps State.phase _ (fun a b => by simp) _ s
@[simp] theorem State.timeOutAll_clearReport (cs : List CtxNum) : (s.timeOutAll cs).clearReport = s.clearReport := by
  exact foldl_keeps State.clearReport _ (fun a b => by simp) _ s
@[simp] theorem State.timeOutAll_managerPort (cs : List CtxNum) : (s.timeOutAll cs).managerPort = s.managerPort := by
  exact foldl_keeps State.managerPort _ (fun a b => by simp) _ s
@[simp] theorem State.timeOutAll_keys (cs : List CtxNum) : (s.timeOutAll cs).keys = s.keys := by
  exact foldl_keeps State.keys _ (fun a b => by simp) _ s
@[simp] theorem State.timeOutAll_resetHeld (cs : List CtxNum) : (s.timeOutAll cs).resetHeld = s.resetHeld := by
  exact foldl_keeps State.resetHeld _ (fun a b => by simp) _ s
@[simp] theorem State.timeOutAll_straps (cs : List CtxNum) : (s.timeOutAll cs).straps = s.straps := by
  exact foldl_keeps State.straps _ (fun a b => by simp) _ s
@[simp] theorem State.timeOutAll_pending (cs : List CtxNum) : (s.timeOutAll cs).pending = s.pending := by
  exact foldl_keeps State.pending _ (fun a b => by simp) _ s
@[simp] theorem State.timeOutAll_link (cs : List CtxNum) (j : Port) : (s.timeOutAll cs).link j = s.link j := by
  simp [State.link]
@[simp] theorem State.timeOutAll_lock (cs : List CtxNum) (j : LockNum) : (s.timeOutAll cs).lock j = s.lock j := by
  simp [State.lock]
@[simp] theorem State.timeOutAll_chan (cs : List CtxNum) (j : ChanNum) : (s.timeOutAll cs).chan j = s.chan j := by
  simp [State.chan]
@[simp] theorem State.timeOutAll_seg (cs : List CtxNum) (j : SegNum) : (s.timeOutAll cs).seg j = s.seg j := by
  simp [State.seg]
@[simp] theorem State.timeOutAll_keyPair (cs : List CtxNum) (j : Port) : (s.timeOutAll cs).keyPair j = s.keyPair j := by
  simp [State.keyPair]
@[simp] theorem State.cancelEntries_links (es : List WaitEntry) : (s.cancelEntries es).links = s.links := by
  exact foldl_keeps State.links _ (fun a b => by simp) _ s
@[simp] theorem State.cancelEntries_arbiters (es : List WaitEntry) : (s.cancelEntries es).arbiters = s.arbiters := by
  exact foldl_keeps State.arbiters _ (fun a b => by simp) _ s
@[simp] theorem State.cancelEntries_locks (es : List WaitEntry) : (s.cancelEntries es).locks = s.locks := by
  exact foldl_keeps State.locks _ (fun a b => by simp) _ s
@[simp] theorem State.cancelEntries_luTicks (es : List WaitEntry) : (s.cancelEntries es).luTicks = s.luTicks := by
  exact foldl_keeps State.luTicks _ (fun a b => by simp) _ s
@[simp] theorem State.cancelEntries_channels (es : List WaitEntry) : (s.cancelEntries es).channels = s.channels := by
  exact foldl_keeps State.channels _ (fun a b => by simp) _ s
@[simp] theorem State.cancelEntries_cuTicks (es : List WaitEntry) : (s.cancelEntries es).cuTicks = s.cuTicks := by
  exact foldl_keeps State.cuTicks _ (fun a b => by simp) _ s
@[simp] theorem State.cancelEntries_cuTickOpen (es : List WaitEntry) : (s.cancelEntries es).cuTickOpen = s.cuTickOpen := by
  exact foldl_keeps State.cuTickOpen _ (fun a b => by simp) _ s
@[simp] theorem State.cancelEntries_inspection (es : List WaitEntry) : (s.cancelEntries es).inspection = s.inspection := by
  exact foldl_keeps State.inspection _ (fun a b => by simp) _ s
@[simp] theorem State.cancelEntries_forcing (es : List WaitEntry) : (s.cancelEntries es).forcing = s.forcing := by
  exact foldl_keeps State.forcing _ (fun a b => by simp) _ s
@[simp] theorem State.cancelEntries_memory (es : List WaitEntry) : (s.cancelEntries es).memory = s.memory := by
  exact foldl_keeps State.memory _ (fun a b => by simp) _ s
@[simp] theorem State.cancelEntries_segments (es : List WaitEntry) : (s.cancelEntries es).segments = s.segments := by
  exact foldl_keeps State.segments _ (fun a b => by simp) _ s
@[simp] theorem State.cancelEntries_clearing (es : List WaitEntry) : (s.cancelEntries es).clearing = s.clearing := by
  exact foldl_keeps State.clearing _ (fun a b => by simp) _ s
@[simp] theorem State.cancelEntries_period (es : List WaitEntry) : (s.cancelEntries es).period = s.period := by
  exact foldl_keeps State.period _ (fun a b => by simp) _ s
@[simp] theorem State.cancelEntries_periodCode (es : List WaitEntry) : (s.cancelEntries es).periodCode = s.periodCode := by
  exact foldl_keeps State.periodCode _ (fun a b => by simp) _ s
@[simp] theorem State.cancelEntries_epoch (es : List WaitEntry) : (s.cancelEntries es).epoch = s.epoch := by
  exact foldl_keeps State.epoch _ (fun a b => by simp) _ s
@[simp] theorem State.cancelEntries_phase (es : List WaitEntry) : (s.cancelEntries es).phase = s.phase := by
  exact foldl_keeps State.phase _ (fun a b => by simp) _ s
@[simp] theorem State.cancelEntries_clearReport (es : List WaitEntry) : (s.cancelEntries es).clearReport = s.clearReport := by
  exact foldl_keeps State.clearReport _ (fun a b => by simp) _ s
@[simp] theorem State.cancelEntries_managerPort (es : List WaitEntry) : (s.cancelEntries es).managerPort = s.managerPort := by
  exact foldl_keeps State.managerPort _ (fun a b => by simp) _ s
@[simp] theorem State.cancelEntries_keys (es : List WaitEntry) : (s.cancelEntries es).keys = s.keys := by
  exact foldl_keeps State.keys _ (fun a b => by simp) _ s
@[simp] theorem State.cancelEntries_resetHeld (es : List WaitEntry) : (s.cancelEntries es).resetHeld = s.resetHeld := by
  exact foldl_keeps State.resetHeld _ (fun a b => by simp) _ s
@[simp] theorem State.cancelEntries_straps (es : List WaitEntry) : (s.cancelEntries es).straps = s.straps := by
  exact foldl_keeps State.straps _ (fun a b => by simp) _ s
@[simp] theorem State.cancelEntries_pending (es : List WaitEntry) : (s.cancelEntries es).pending = s.pending := by
  exact foldl_keeps State.pending _ (fun a b => by simp) _ s
@[simp] theorem State.cancelEntries_link (es : List WaitEntry) (j : Port) : (s.cancelEntries es).link j = s.link j := by
  simp [State.link]
@[simp] theorem State.cancelEntries_lock (es : List WaitEntry) (j : LockNum) : (s.cancelEntries es).lock j = s.lock j := by
  simp [State.lock]
@[simp] theorem State.cancelEntries_chan (es : List WaitEntry) (j : ChanNum) : (s.cancelEntries es).chan j = s.chan j := by
  simp [State.chan]
@[simp] theorem State.cancelEntries_seg (es : List WaitEntry) (j : SegNum) : (s.cancelEntries es).seg j = s.seg j := by
  simp [State.seg]
@[simp] theorem State.cancelEntries_keyPair (es : List WaitEntry) (j : Port) : (s.cancelEntries es).keyPair j = s.keyPair j := by
  simp [State.keyPair]
/-! ### Arbiters and the taking of a request (R13, R14) -/

@[simp] theorem State.granted_ports (u : UnitId) (cx : CtxNum) : (s.granted u cx).ports = s.ports := by simp only [State.granted]
@[simp] theorem State.granted_locks (u : UnitId) (cx : CtxNum) : (s.granted u cx).locks = s.locks := by simp only [State.granted]
@[simp] theorem State.granted_luTicks (u : UnitId) (cx : CtxNum) : (s.granted u cx).luTicks = s.luTicks := by simp only [State.granted]
@[simp] theorem State.granted_channels (u : UnitId) (cx : CtxNum) : (s.granted u cx).channels = s.channels := by simp only [State.granted]
@[simp] theorem State.granted_cuTicks (u : UnitId) (cx : CtxNum) : (s.granted u cx).cuTicks = s.cuTicks := by simp only [State.granted]
@[simp] theorem State.granted_cuTickOpen (u : UnitId) (cx : CtxNum) : (s.granted u cx).cuTickOpen = s.cuTickOpen := by simp only [State.granted]
@[simp] theorem State.granted_inspection (u : UnitId) (cx : CtxNum) : (s.granted u cx).inspection = s.inspection := by simp only [State.granted]
@[simp] theorem State.granted_forcing (u : UnitId) (cx : CtxNum) : (s.granted u cx).forcing = s.forcing := by simp only [State.granted]
@[simp] theorem State.granted_memory (u : UnitId) (cx : CtxNum) : (s.granted u cx).memory = s.memory := by simp only [State.granted]
@[simp] theorem State.granted_segments (u : UnitId) (cx : CtxNum) : (s.granted u cx).segments = s.segments := by simp only [State.granted]
@[simp] theorem State.granted_clearing (u : UnitId) (cx : CtxNum) : (s.granted u cx).clearing = s.clearing := by simp only [State.granted]
@[simp] theorem State.granted_period (u : UnitId) (cx : CtxNum) : (s.granted u cx).period = s.period := by simp only [State.granted]
@[simp] theorem State.granted_periodCode (u : UnitId) (cx : CtxNum) : (s.granted u cx).periodCode = s.periodCode := by simp only [State.granted]
@[simp] theorem State.granted_epoch (u : UnitId) (cx : CtxNum) : (s.granted u cx).epoch = s.epoch := by simp only [State.granted]
@[simp] theorem State.granted_phase (u : UnitId) (cx : CtxNum) : (s.granted u cx).phase = s.phase := by simp only [State.granted]
@[simp] theorem State.granted_clearReport (u : UnitId) (cx : CtxNum) : (s.granted u cx).clearReport = s.clearReport := by simp only [State.granted]
@[simp] theorem State.granted_managerPort (u : UnitId) (cx : CtxNum) : (s.granted u cx).managerPort = s.managerPort := by simp only [State.granted]
@[simp] theorem State.granted_keys (u : UnitId) (cx : CtxNum) : (s.granted u cx).keys = s.keys := by simp only [State.granted]
@[simp] theorem State.granted_resetHeld (u : UnitId) (cx : CtxNum) : (s.granted u cx).resetHeld = s.resetHeld := by simp only [State.granted]
@[simp] theorem State.granted_straps (u : UnitId) (cx : CtxNum) : (s.granted u cx).straps = s.straps := by simp only [State.granted]
@[simp] theorem State.granted_pending (u : UnitId) (cx : CtxNum) : (s.granted u cx).pending = s.pending := by simp only [State.granted]
@[simp] theorem State.granted_port (u : UnitId) (cx : CtxNum) (j : Port) : (s.granted u cx).port j = s.port j := by
  simp [State.port]
@[simp] theorem State.granted_lock (u : UnitId) (cx : CtxNum) (j : LockNum) : (s.granted u cx).lock j = s.lock j := by
  simp [State.lock]
@[simp] theorem State.granted_chan (u : UnitId) (cx : CtxNum) (j : ChanNum) : (s.granted u cx).chan j = s.chan j := by
  simp [State.chan]
@[simp] theorem State.granted_seg (u : UnitId) (cx : CtxNum) (j : SegNum) : (s.granted u cx).seg j = s.seg j := by
  simp [State.seg]
@[simp] theorem State.granted_keyPair (u : UnitId) (cx : CtxNum) (j : Port) : (s.granted u cx).keyPair j = s.keyPair j := by
  simp [State.keyPair]
@[simp] theorem State.granted_arbiters (u : UnitId) (cx : CtxNum) :
    (s.granted u cx).arbiters = s.arbiters.set u cx := rfl

@[simp] theorem State.granted_ctx (u : UnitId) (cx c : CtxNum) :
    (s.granted u cx).ctx c = (s.ctx c).countGrant u := by
  simp [State.granted, State.ctx]

@[simp] theorem State.granted_link (u : UnitId) (cx : CtxNum) (p : Port) :
    (s.granted u cx).link p =
      { s.link p with notices := (s.link p).notices.set u ((s.link p).notices.get u).countGrant } := by
  simp [State.granted, State.link]

@[simp] theorem Context.countGrant_state (u : UnitId) (c : Context) : (c.countGrant u).state = c.state := by
  unfold Context.countGrant; split <;> rfl
@[simp] theorem Context.countGrant_command (u : UnitId) (c : Context) : (c.countGrant u).command = c.command := by
  unfold Context.countGrant; split <;> rfl
@[simp] theorem Context.countGrant_result (u : UnitId) (c : Context) : (c.countGrant u).result = c.result := by
  unfold Context.countGrant; split <;> rfl
@[simp] theorem Context.countGrant_buffer (u : UnitId) (c : Context) : (c.countGrant u).buffer = c.buffer := by
  unfold Context.countGrant; split <;> rfl
@[simp] theorem Context.countGrant_index (u : UnitId) (c : Context) : (c.countGrant u).index = c.index := by
  unfold Context.countGrant; split <;> rfl
@[simp] theorem Context.countGrant_goRefused (u : UnitId) (c : Context) :
    (c.countGrant u).goRefused = c.goRefused := by
  unfold Context.countGrant; split <;> rfl
@[simp] theorem Context.countGrant_marker (u : UnitId) (c : Context) : (c.countGrant u).marker = c.marker := by
  unfold Context.countGrant; split <;> simp [Context.marker]
@[simp] theorem Context.countGrant_seen (u : UnitId) (c : Context) : (c.countGrant u).seen = c.seen := by
  unfold Context.countGrant Context.seen
  split
  · cases c.abort <;> simp
  · rfl
/-- A completion does not depend on the model's count of grants. -/
@[simp] theorem Context.countGrant_completed (u : UnitId) (c : Context) (r : Answer) :
    (c.countGrant u).completed r = c.completed r := by
  simp only [Context.completed, Context.countGrant_marker, Context.countGrant_command, Context.countGrant_index]
  unfold Context.countGrant
  split <;> rfl
@[simp] theorem Context.countGrant_withWords (u : UnitId) (c : Context) (ws : List Word) :
    (c.countGrant u).withWords ws = (c.withWords ws).countGrant u := by
  unfold Context.countGrant Context.withWords
  dsimp only
  split <;> rfl

@[simp] theorem NoticeState.countGrant_seen (n : NoticeState) : n.countGrant.seen = n.seen := by
  cases n <;> rfl

/-- A grant shows in no message. -/
@[simp] theorem Links.countGrant_seen (u : UnitId) (k : Links) :
    Links.seen { k with notices := k.notices.set u (k.notices.get u).countGrant } = k.seen := by
  cases u <;> simp [Links.seen, PerUnit.set, PerUnit.get]

@[simp] theorem State.granted_settled (u : UnitId) (cx : CtxNum) : (s.granted u cx).settled ↔ s.settled :=
  State.settled_congr (by simp)

/-- A request that the unit takes now goes on to its meaning. -/
theorem State.take_of_takes {s : State} {c : Command} {cx : CtxNum} (h : s.takes c cx) (k : State → Out) :
    s.take c cx k = k (s.granted c.owner cx) := by
  obtain ⟨h1, h2, h3, h4⟩ := h
  simp [State.take, h1, h2, h3, h4]

/-- All that `take` can do: the request is taken now, or nothing changes. -/
theorem State.take_cases (s : State) (c : Command) (cx : CtxNum) (k : State → Out) :
    (s.takes c cx ∧ s.take c cx k = k (s.granted c.owner cx)) ∨ s.take c cx k = .next s := by
  unfold State.take
  by_cases h1 : s.resetHeld = true
  · exact .inr (by simp [h1])
  · rw [if_neg h1]
    split
    · rename_i h
      exact .inl ⟨⟨by simpa using h1, h⟩, rfl⟩
    · exact .inr rfl

/-- A failed check completes the context alone. -/
theorem State.failed_of_settled {s : State} (h : s.settled) (cx : CtxNum) (code : CompletionCode) :
    s.failed cx code = .next (s.modCtx cx fun c => c.completed { code := code }) := by
  rw [State.failed, State.complete_of_settled h]

/-- What has completed a request and changed nothing else is a request served. -/
theorem State.served_complete {s : State} {u : UnitId} {cx : CtxNum} {r : Answer} (h : s.settled) :
    s.served ((s.granted u cx).complete cx r) u cx [] [] := by
  rw [State.complete_of_settled (by simpa using h)]
  refine ⟨by simp, ⟨by simp, ?_⟩, ?_⟩
  · intro q hq
    cases q <;> simp_all [State.keeps]
  · intro c hc
    simp only [List.mem_singleton] at hc
    simp [hc]

/-! ### Words of a frame (R155, R158) -/

@[simp] theorem State.setFrame_contexts (p : Port) (f : Frame) : (s.setFrame p f).contexts = s.contexts := by
  simp only [State.setFrame, State.modPort_contexts]
@[simp] theorem State.setFrame_links (p : Port) (f : Frame) : (s.setFrame p f).links = s.links := by
  simp only [State.setFrame, State.modPort_links]
@[simp] theorem State.setFrame_arbiters (p : Port) (f : Frame) : (s.setFrame p f).arbiters = s.arbiters := by
  simp only [State.setFrame, State.modPort_arbiters]
@[simp] theorem State.setFrame_locks (p : Port) (f : Frame) : (s.setFrame p f).locks = s.locks := by
  simp only [State.setFrame, State.modPort_locks]
@[simp] theorem State.setFrame_luTicks (p : Port) (f : Frame) : (s.setFrame p f).luTicks = s.luTicks := by
  simp only [State.setFrame, State.modPort_luTicks]
@[simp] theorem State.setFrame_channels (p : Port) (f : Frame) : (s.setFrame p f).channels = s.channels := by
  simp only [State.setFrame, State.modPort_channels]
@[simp] theorem State.setFrame_cuTicks (p : Port) (f : Frame) : (s.setFrame p f).cuTicks = s.cuTicks := by
  simp only [State.setFrame, State.modPort_cuTicks]
@[simp] theorem State.setFrame_cuTickOpen (p : Port) (f : Frame) : (s.setFrame p f).cuTickOpen = s.cuTickOpen := by
  simp only [State.setFrame, State.modPort_cuTickOpen]
@[simp] theorem State.setFrame_inspection (p : Port) (f : Frame) : (s.setFrame p f).inspection = s.inspection := by
  simp only [State.setFrame, State.modPort_inspection]
@[simp] theorem State.setFrame_forcing (p : Port) (f : Frame) : (s.setFrame p f).forcing = s.forcing := by
  simp only [State.setFrame, State.modPort_forcing]
@[simp] theorem State.setFrame_memory (p : Port) (f : Frame) : (s.setFrame p f).memory = s.memory := by
  simp only [State.setFrame, State.modPort_memory]
@[simp] theorem State.setFrame_segments (p : Port) (f : Frame) : (s.setFrame p f).segments = s.segments := by
  simp only [State.setFrame, State.modPort_segments]
@[simp] theorem State.setFrame_clearing (p : Port) (f : Frame) : (s.setFrame p f).clearing = s.clearing := by
  simp only [State.setFrame, State.modPort_clearing]
@[simp] theorem State.setFrame_period (p : Port) (f : Frame) : (s.setFrame p f).period = s.period := by
  simp only [State.setFrame, State.modPort_period]
@[simp] theorem State.setFrame_periodCode (p : Port) (f : Frame) : (s.setFrame p f).periodCode = s.periodCode := by
  simp only [State.setFrame, State.modPort_periodCode]
@[simp] theorem State.setFrame_epoch (p : Port) (f : Frame) : (s.setFrame p f).epoch = s.epoch := by
  simp only [State.setFrame, State.modPort_epoch]
@[simp] theorem State.setFrame_phase (p : Port) (f : Frame) : (s.setFrame p f).phase = s.phase := by
  simp only [State.setFrame, State.modPort_phase]
@[simp] theorem State.setFrame_clearReport (p : Port) (f : Frame) : (s.setFrame p f).clearReport = s.clearReport := by
  simp only [State.setFrame, State.modPort_clearReport]
@[simp] theorem State.setFrame_managerPort (p : Port) (f : Frame) : (s.setFrame p f).managerPort = s.managerPort := by
  simp only [State.setFrame, State.modPort_managerPort]
@[simp] theorem State.setFrame_keys (p : Port) (f : Frame) : (s.setFrame p f).keys = s.keys := by
  simp only [State.setFrame, State.modPort_keys]
@[simp] theorem State.setFrame_resetHeld (p : Port) (f : Frame) : (s.setFrame p f).resetHeld = s.resetHeld := by
  simp only [State.setFrame, State.modPort_resetHeld]
@[simp] theorem State.setFrame_straps (p : Port) (f : Frame) : (s.setFrame p f).straps = s.straps := by
  simp only [State.setFrame, State.modPort_straps]
@[simp] theorem State.setFrame_pending (p : Port) (f : Frame) : (s.setFrame p f).pending = s.pending := by
  simp only [State.setFrame, State.modPort_pending]
@[simp] theorem State.setFrame_ctx (p : Port) (f : Frame) (j : CtxNum) : (s.setFrame p f).ctx j = s.ctx j := by
  simp [State.ctx]
@[simp] theorem State.setFrame_link (p : Port) (f : Frame) (j : Port) : (s.setFrame p f).link j = s.link j := by
  simp [State.link]
@[simp] theorem State.setFrame_lock (p : Port) (f : Frame) (j : LockNum) : (s.setFrame p f).lock j = s.lock j := by
  simp [State.lock]
@[simp] theorem State.setFrame_chan (p : Port) (f : Frame) (j : ChanNum) : (s.setFrame p f).chan j = s.chan j := by
  simp [State.chan]
@[simp] theorem State.setFrame_seg (p : Port) (f : Frame) (j : SegNum) : (s.setFrame p f).seg j = s.seg j := by
  simp [State.seg]
@[simp] theorem State.setFrame_keyPair (p : Port) (f : Frame) (j : Port) : (s.setFrame p f).keyPair j = s.keyPair j := by
  simp [State.keyPair]
/-- All that a word can do: nothing; or its action, where no frame is in progress, or one of its direction that has come
to its address, which then moves on. -/
theorem State.word_cases (s : State) (p : Port) (dir : Direction) (a : WindowAddr) (act : State → State) :
    s.word p dir a act = .next s ∨
      (s.takesWord p dir a ∧ (s.port p).frame = .none ∧ s.word p dir a act = .next (act s)) ∨
      (s.takesWord p dir a ∧ (s.port p).frame = .inFrame dir a ∧
        s.word p dir a act = .next ((act s).setFrame p (.inFrame dir (nextAddr a)))) := by
  unfold State.word State.takesWord
  cases s.resetHeld <;> cases (s.port p).frame <;> simp
  rename_i d b
  by_cases h : d = dir ∧ b = a
  · obtain ⟨rfl, rfl⟩ := h
    exact .inr ⟨⟨rfl, rfl⟩, fun h => absurd rfl (h rfl)⟩
  · exact .inl fun h1 h2 => absurd ⟨h1, h2⟩ h

/-- A word that the PI takes is answered with its action, and the frame in progress, if there is one, moves on. -/
theorem State.word_of_takesWord {s : State} {p : Port} {dir : Direction} {a : WindowAddr} (h : s.takesWord p dir a)
    (act : State → State) :
    ((s.port p).frame = .none ∧ s.word p dir a act = .next (act s)) ∨
      ((s.port p).frame = .inFrame dir a ∧
        s.word p dir a act = .next ((act s).setFrame p (.inFrame dir (nextAddr a)))) := by
  obtain ⟨h1, h2 | h2⟩ := h
  · exact .inl ⟨h2, by simp [State.word, h1, h2]⟩
  · exact .inr ⟨h2, by simp [State.word, h1, h2]⟩

/-- A word that is none of the frame's in progress changes nothing. -/
theorem State.word_of_ne {s : State} {p : Port} {dir : Direction} {a : WindowAddr} (act : State → State)
    (h : (s.port p).frame ≠ .none) (h' : (s.port p).frame ≠ .inFrame dir a) : s.word p dir a act = .next s := by
  unfold State.word
  cases s.resetHeld <;> cases hf : (s.port p).frame <;> simp_all

/-- All that a read word can do: nothing; its value is latched at the first bit; or the latched word is complete. -/
theorem State.readWord_cases (s : State) (p : Port) (a : WindowAddr) (part : ReadPart) :
    s.readWord p a part = .next s ∨
      (s.beginsWord p a ∧ s.readWord p a part = .next (s.latchWord p (s.readLatch p a))) ∨
      (∃ l, s.endsWord p a l ∧
        s.readWord p a part = .next ((s.sendLatched p).setFrame p (.inFrame .read (nextAddr a)))) ∨
      (s.sendsWord p a ∧
        s.readWord p a part = s.word p .read a fun s => (s.latchWord p (s.readLatch p a)).sendLatched p) := by
  unfold State.readWord
  cases part with
  | firstBit =>
    dsimp only
    split
    · exact .inr (.inl ⟨‹_›, rfl⟩)
    · exact .inl rfl
  | lastBit =>
    dsimp only
    split
    · rename_i h
      cases hl : (s.port p).latch with
      | none => simp [PortInterface.sending, hl] at h
      | some l =>
        cases hr : s.resetHeld with
        | true => exact .inl (by simp [State.word, hr])
        | false => exact .inr (.inr (.inl ⟨l, ⟨hr, h.1, hl⟩, by simp [State.word, hr, h.1]⟩))
    · exact .inl rfl
  | whole =>
    dsimp only
    split
    · rename_i h
      rcases State.word_cases s p .read a fun s => (s.latchWord p (s.readLatch p a)).sendLatched p with
        h' | ⟨h', _⟩ | ⟨h', _⟩
      · exact .inl h'
      · exact .inr (.inr (.inr ⟨⟨h', h⟩, rfl⟩))
      · exact .inr (.inr (.inr ⟨⟨h', h⟩, rfl⟩))
    · exact .inl rfl

/-- LU is within the step of a FORCE RELEASE, or has begun that of its oldest tick event. -/
@[simp] theorem State.midStep_lu : s.midStep .lu = (s.luTickOpen || s.forcing.isSome) := rfl

/-! ### Messages -/

@[simp] theorem State.sendLu_contexts (p : Port) (m : LuMessage) : (s.sendLu p m).contexts = s.contexts := by
  simp only [State.sendLu, State.modLink_contexts]
@[simp] theorem State.sendLu_ports (p : Port) (m : LuMessage) : (s.sendLu p m).ports = s.ports := by
  simp only [State.sendLu, State.modLink_ports]
@[simp] theorem State.sendLu_arbiters (p : Port) (m : LuMessage) : (s.sendLu p m).arbiters = s.arbiters := by
  simp only [State.sendLu, State.modLink_arbiters]
@[simp] theorem State.sendLu_locks (p : Port) (m : LuMessage) : (s.sendLu p m).locks = s.locks := by
  simp only [State.sendLu, State.modLink_locks]
@[simp] theorem State.sendLu_luTicks (p : Port) (m : LuMessage) : (s.sendLu p m).luTicks = s.luTicks := by
  simp only [State.sendLu, State.modLink_luTicks]
@[simp] theorem State.sendLu_channels (p : Port) (m : LuMessage) : (s.sendLu p m).channels = s.channels := by
  simp only [State.sendLu, State.modLink_channels]
@[simp] theorem State.sendLu_cuTicks (p : Port) (m : LuMessage) : (s.sendLu p m).cuTicks = s.cuTicks := by
  simp only [State.sendLu, State.modLink_cuTicks]
@[simp] theorem State.sendLu_cuTickOpen (p : Port) (m : LuMessage) : (s.sendLu p m).cuTickOpen = s.cuTickOpen := by
  simp only [State.sendLu, State.modLink_cuTickOpen]
@[simp] theorem State.sendLu_inspection (p : Port) (m : LuMessage) : (s.sendLu p m).inspection = s.inspection := by
  simp only [State.sendLu, State.modLink_inspection]
@[simp] theorem State.sendLu_forcing (p : Port) (m : LuMessage) : (s.sendLu p m).forcing = s.forcing := by
  simp only [State.sendLu, State.modLink_forcing]
@[simp] theorem State.sendLu_memory (p : Port) (m : LuMessage) : (s.sendLu p m).memory = s.memory := by
  simp only [State.sendLu, State.modLink_memory]
@[simp] theorem State.sendLu_segments (p : Port) (m : LuMessage) : (s.sendLu p m).segments = s.segments := by
  simp only [State.sendLu, State.modLink_segments]
@[simp] theorem State.sendLu_clearing (p : Port) (m : LuMessage) : (s.sendLu p m).clearing = s.clearing := by
  simp only [State.sendLu, State.modLink_clearing]
@[simp] theorem State.sendLu_period (p : Port) (m : LuMessage) : (s.sendLu p m).period = s.period := by
  simp only [State.sendLu, State.modLink_period]
@[simp] theorem State.sendLu_periodCode (p : Port) (m : LuMessage) : (s.sendLu p m).periodCode = s.periodCode := by
  simp only [State.sendLu, State.modLink_periodCode]
@[simp] theorem State.sendLu_epoch (p : Port) (m : LuMessage) : (s.sendLu p m).epoch = s.epoch := by
  simp only [State.sendLu, State.modLink_epoch]
@[simp] theorem State.sendLu_phase (p : Port) (m : LuMessage) : (s.sendLu p m).phase = s.phase := by
  simp only [State.sendLu, State.modLink_phase]
@[simp] theorem State.sendLu_clearReport (p : Port) (m : LuMessage) : (s.sendLu p m).clearReport = s.clearReport := by
  simp only [State.sendLu, State.modLink_clearReport]
@[simp] theorem State.sendLu_managerPort (p : Port) (m : LuMessage) : (s.sendLu p m).managerPort = s.managerPort := by
  simp only [State.sendLu, State.modLink_managerPort]
@[simp] theorem State.sendLu_keys (p : Port) (m : LuMessage) : (s.sendLu p m).keys = s.keys := by
  simp only [State.sendLu, State.modLink_keys]
@[simp] theorem State.sendLu_resetHeld (p : Port) (m : LuMessage) : (s.sendLu p m).resetHeld = s.resetHeld := by
  simp only [State.sendLu, State.modLink_resetHeld]
@[simp] theorem State.sendLu_straps (p : Port) (m : LuMessage) : (s.sendLu p m).straps = s.straps := by
  simp only [State.sendLu, State.modLink_straps]
@[simp] theorem State.sendLu_pending (p : Port) (m : LuMessage) : (s.sendLu p m).pending = s.pending := by
  simp only [State.sendLu, State.modLink_pending]
@[simp] theorem State.sendLu_ctx (p : Port) (m : LuMessage) (j : CtxNum) : (s.sendLu p m).ctx j = s.ctx j := by
  simp [State.ctx]
@[simp] theorem State.sendLu_port (p : Port) (m : LuMessage) (j : Port) : (s.sendLu p m).port j = s.port j := by
  simp [State.port]
@[simp] theorem State.sendLu_lock (p : Port) (m : LuMessage) (j : LockNum) : (s.sendLu p m).lock j = s.lock j := by
  simp [State.lock]
@[simp] theorem State.sendLu_chan (p : Port) (m : LuMessage) (j : ChanNum) : (s.sendLu p m).chan j = s.chan j := by
  simp [State.chan]
@[simp] theorem State.sendLu_seg (p : Port) (m : LuMessage) (j : SegNum) : (s.sendLu p m).seg j = s.seg j := by
  simp [State.seg]
@[simp] theorem State.sendLu_keyPair (p : Port) (m : LuMessage) (j : Port) : (s.sendLu p m).keyPair j = s.keyPair j := by
  simp [State.keyPair]
@[simp] theorem State.sendCu_contexts (p : Port) (m : CuMessage) : (s.sendCu p m).contexts = s.contexts := by
  simp only [State.sendCu, State.modLink_contexts]
@[simp] theorem State.sendCu_ports (p : Port) (m : CuMessage) : (s.sendCu p m).ports = s.ports := by
  simp only [State.sendCu, State.modLink_ports]
@[simp] theorem State.sendCu_arbiters (p : Port) (m : CuMessage) : (s.sendCu p m).arbiters = s.arbiters := by
  simp only [State.sendCu, State.modLink_arbiters]
@[simp] theorem State.sendCu_locks (p : Port) (m : CuMessage) : (s.sendCu p m).locks = s.locks := by
  simp only [State.sendCu, State.modLink_locks]
@[simp] theorem State.sendCu_luTicks (p : Port) (m : CuMessage) : (s.sendCu p m).luTicks = s.luTicks := by
  simp only [State.sendCu, State.modLink_luTicks]
@[simp] theorem State.sendCu_channels (p : Port) (m : CuMessage) : (s.sendCu p m).channels = s.channels := by
  simp only [State.sendCu, State.modLink_channels]
@[simp] theorem State.sendCu_cuTicks (p : Port) (m : CuMessage) : (s.sendCu p m).cuTicks = s.cuTicks := by
  simp only [State.sendCu, State.modLink_cuTicks]
@[simp] theorem State.sendCu_cuTickOpen (p : Port) (m : CuMessage) : (s.sendCu p m).cuTickOpen = s.cuTickOpen := by
  simp only [State.sendCu, State.modLink_cuTickOpen]
@[simp] theorem State.sendCu_inspection (p : Port) (m : CuMessage) : (s.sendCu p m).inspection = s.inspection := by
  simp only [State.sendCu, State.modLink_inspection]
@[simp] theorem State.sendCu_forcing (p : Port) (m : CuMessage) : (s.sendCu p m).forcing = s.forcing := by
  simp only [State.sendCu, State.modLink_forcing]
@[simp] theorem State.sendCu_memory (p : Port) (m : CuMessage) : (s.sendCu p m).memory = s.memory := by
  simp only [State.sendCu, State.modLink_memory]
@[simp] theorem State.sendCu_segments (p : Port) (m : CuMessage) : (s.sendCu p m).segments = s.segments := by
  simp only [State.sendCu, State.modLink_segments]
@[simp] theorem State.sendCu_clearing (p : Port) (m : CuMessage) : (s.sendCu p m).clearing = s.clearing := by
  simp only [State.sendCu, State.modLink_clearing]
@[simp] theorem State.sendCu_period (p : Port) (m : CuMessage) : (s.sendCu p m).period = s.period := by
  simp only [State.sendCu, State.modLink_period]
@[simp] theorem State.sendCu_periodCode (p : Port) (m : CuMessage) : (s.sendCu p m).periodCode = s.periodCode := by
  simp only [State.sendCu, State.modLink_periodCode]
@[simp] theorem State.sendCu_epoch (p : Port) (m : CuMessage) : (s.sendCu p m).epoch = s.epoch := by
  simp only [State.sendCu, State.modLink_epoch]
@[simp] theorem State.sendCu_phase (p : Port) (m : CuMessage) : (s.sendCu p m).phase = s.phase := by
  simp only [State.sendCu, State.modLink_phase]
@[simp] theorem State.sendCu_clearReport (p : Port) (m : CuMessage) : (s.sendCu p m).clearReport = s.clearReport := by
  simp only [State.sendCu, State.modLink_clearReport]
@[simp] theorem State.sendCu_managerPort (p : Port) (m : CuMessage) : (s.sendCu p m).managerPort = s.managerPort := by
  simp only [State.sendCu, State.modLink_managerPort]
@[simp] theorem State.sendCu_keys (p : Port) (m : CuMessage) : (s.sendCu p m).keys = s.keys := by
  simp only [State.sendCu, State.modLink_keys]
@[simp] theorem State.sendCu_resetHeld (p : Port) (m : CuMessage) : (s.sendCu p m).resetHeld = s.resetHeld := by
  simp only [State.sendCu, State.modLink_resetHeld]
@[simp] theorem State.sendCu_straps (p : Port) (m : CuMessage) : (s.sendCu p m).straps = s.straps := by
  simp only [State.sendCu, State.modLink_straps]
@[simp] theorem State.sendCu_pending (p : Port) (m : CuMessage) : (s.sendCu p m).pending = s.pending := by
  simp only [State.sendCu, State.modLink_pending]
@[simp] theorem State.sendCu_ctx (p : Port) (m : CuMessage) (j : CtxNum) : (s.sendCu p m).ctx j = s.ctx j := by
  simp [State.ctx]
@[simp] theorem State.sendCu_port (p : Port) (m : CuMessage) (j : Port) : (s.sendCu p m).port j = s.port j := by
  simp [State.port]
@[simp] theorem State.sendCu_lock (p : Port) (m : CuMessage) (j : LockNum) : (s.sendCu p m).lock j = s.lock j := by
  simp [State.lock]
@[simp] theorem State.sendCu_chan (p : Port) (m : CuMessage) (j : ChanNum) : (s.sendCu p m).chan j = s.chan j := by
  simp [State.chan]
@[simp] theorem State.sendCu_seg (p : Port) (m : CuMessage) (j : SegNum) : (s.sendCu p m).seg j = s.seg j := by
  simp [State.seg]
@[simp] theorem State.sendCu_keyPair (p : Port) (m : CuMessage) (j : Port) : (s.sendCu p m).keyPair j = s.keyPair j := by
  simp [State.keyPair]
@[simp] theorem State.sendCuAll_contexts (b : BitVec 4) (m : CuMessage) : (s.sendCuAll b m).contexts = s.contexts := by
  exact foldl_keeps State.contexts _ (fun a b => by split <;> simp) _ s
@[simp] theorem State.sendCuAll_ports (b : BitVec 4) (m : CuMessage) : (s.sendCuAll b m).ports = s.ports := by
  exact foldl_keeps State.ports _ (fun a b => by split <;> simp) _ s
@[simp] theorem State.sendCuAll_arbiters (b : BitVec 4) (m : CuMessage) : (s.sendCuAll b m).arbiters = s.arbiters := by
  exact foldl_keeps State.arbiters _ (fun a b => by split <;> simp) _ s
@[simp] theorem State.sendCuAll_locks (b : BitVec 4) (m : CuMessage) : (s.sendCuAll b m).locks = s.locks := by
  exact foldl_keeps State.locks _ (fun a b => by split <;> simp) _ s
@[simp] theorem State.sendCuAll_luTicks (b : BitVec 4) (m : CuMessage) : (s.sendCuAll b m).luTicks = s.luTicks := by
  exact foldl_keeps State.luTicks _ (fun a b => by split <;> simp) _ s
@[simp] theorem State.sendCuAll_channels (b : BitVec 4) (m : CuMessage) : (s.sendCuAll b m).channels = s.channels := by
  exact foldl_keeps State.channels _ (fun a b => by split <;> simp) _ s
@[simp] theorem State.sendCuAll_cuTicks (b : BitVec 4) (m : CuMessage) : (s.sendCuAll b m).cuTicks = s.cuTicks := by
  exact foldl_keeps State.cuTicks _ (fun a b => by split <;> simp) _ s
@[simp] theorem State.sendCuAll_cuTickOpen (b : BitVec 4) (m : CuMessage) : (s.sendCuAll b m).cuTickOpen = s.cuTickOpen := by
  exact foldl_keeps State.cuTickOpen _ (fun a b => by split <;> simp) _ s
@[simp] theorem State.sendCuAll_inspection (b : BitVec 4) (m : CuMessage) : (s.sendCuAll b m).inspection = s.inspection := by
  exact foldl_keeps State.inspection _ (fun a b => by split <;> simp) _ s
@[simp] theorem State.sendCuAll_forcing (b : BitVec 4) (m : CuMessage) : (s.sendCuAll b m).forcing = s.forcing := by
  exact foldl_keeps State.forcing _ (fun a b => by split <;> simp) _ s
@[simp] theorem State.sendCuAll_memory (b : BitVec 4) (m : CuMessage) : (s.sendCuAll b m).memory = s.memory := by
  exact foldl_keeps State.memory _ (fun a b => by split <;> simp) _ s
@[simp] theorem State.sendCuAll_segments (b : BitVec 4) (m : CuMessage) : (s.sendCuAll b m).segments = s.segments := by
  exact foldl_keeps State.segments _ (fun a b => by split <;> simp) _ s
@[simp] theorem State.sendCuAll_clearing (b : BitVec 4) (m : CuMessage) : (s.sendCuAll b m).clearing = s.clearing := by
  exact foldl_keeps State.clearing _ (fun a b => by split <;> simp) _ s
@[simp] theorem State.sendCuAll_period (b : BitVec 4) (m : CuMessage) : (s.sendCuAll b m).period = s.period := by
  exact foldl_keeps State.period _ (fun a b => by split <;> simp) _ s
@[simp] theorem State.sendCuAll_periodCode (b : BitVec 4) (m : CuMessage) : (s.sendCuAll b m).periodCode = s.periodCode := by
  exact foldl_keeps State.periodCode _ (fun a b => by split <;> simp) _ s
@[simp] theorem State.sendCuAll_epoch (b : BitVec 4) (m : CuMessage) : (s.sendCuAll b m).epoch = s.epoch := by
  exact foldl_keeps State.epoch _ (fun a b => by split <;> simp) _ s
@[simp] theorem State.sendCuAll_phase (b : BitVec 4) (m : CuMessage) : (s.sendCuAll b m).phase = s.phase := by
  exact foldl_keeps State.phase _ (fun a b => by split <;> simp) _ s
@[simp] theorem State.sendCuAll_clearReport (b : BitVec 4) (m : CuMessage) : (s.sendCuAll b m).clearReport = s.clearReport := by
  exact foldl_keeps State.clearReport _ (fun a b => by split <;> simp) _ s
@[simp] theorem State.sendCuAll_managerPort (b : BitVec 4) (m : CuMessage) : (s.sendCuAll b m).managerPort = s.managerPort := by
  exact foldl_keeps State.managerPort _ (fun a b => by split <;> simp) _ s
@[simp] theorem State.sendCuAll_keys (b : BitVec 4) (m : CuMessage) : (s.sendCuAll b m).keys = s.keys := by
  exact foldl_keeps State.keys _ (fun a b => by split <;> simp) _ s
@[simp] theorem State.sendCuAll_resetHeld (b : BitVec 4) (m : CuMessage) : (s.sendCuAll b m).resetHeld = s.resetHeld := by
  exact foldl_keeps State.resetHeld _ (fun a b => by split <;> simp) _ s
@[simp] theorem State.sendCuAll_straps (b : BitVec 4) (m : CuMessage) : (s.sendCuAll b m).straps = s.straps := by
  exact foldl_keeps State.straps _ (fun a b => by split <;> simp) _ s
@[simp] theorem State.sendCuAll_pending (b : BitVec 4) (m : CuMessage) : (s.sendCuAll b m).pending = s.pending := by
  exact foldl_keeps State.pending _ (fun a b => by split <;> simp) _ s
@[simp] theorem State.sendCuAll_ctx (b : BitVec 4) (m : CuMessage) (j : CtxNum) : (s.sendCuAll b m).ctx j = s.ctx j := by
  simp [State.ctx]
@[simp] theorem State.sendCuAll_port (b : BitVec 4) (m : CuMessage) (j : Port) : (s.sendCuAll b m).port j = s.port j := by
  simp [State.port]
@[simp] theorem State.sendCuAll_lock (b : BitVec 4) (m : CuMessage) (j : LockNum) : (s.sendCuAll b m).lock j = s.lock j := by
  simp [State.lock]
@[simp] theorem State.sendCuAll_chan (b : BitVec 4) (m : CuMessage) (j : ChanNum) : (s.sendCuAll b m).chan j = s.chan j := by
  simp [State.chan]
@[simp] theorem State.sendCuAll_seg (b : BitVec 4) (m : CuMessage) (j : SegNum) : (s.sendCuAll b m).seg j = s.seg j := by
  simp [State.seg]
@[simp] theorem State.sendCuAll_keyPair (b : BitVec 4) (m : CuMessage) (j : Port) : (s.sendCuAll b m).keyPair j = s.keyPair j := by
  simp [State.keyPair]
@[simp] theorem State.muSettle_contexts (p : Port) : (s.muSettle p).contexts = s.contexts := by
  unfold State.muSettle; split <;> simp
@[simp] theorem State.muSettle_ports (p : Port) : (s.muSettle p).ports = s.ports := by
  unfold State.muSettle; split <;> simp
@[simp] theorem State.muSettle_arbiters (p : Port) : (s.muSettle p).arbiters = s.arbiters := by
  unfold State.muSettle; split <;> simp
@[simp] theorem State.muSettle_locks (p : Port) : (s.muSettle p).locks = s.locks := by
  unfold State.muSettle; split <;> simp
@[simp] theorem State.muSettle_luTicks (p : Port) : (s.muSettle p).luTicks = s.luTicks := by
  unfold State.muSettle; split <;> simp
@[simp] theorem State.muSettle_channels (p : Port) : (s.muSettle p).channels = s.channels := by
  unfold State.muSettle; split <;> simp
@[simp] theorem State.muSettle_cuTicks (p : Port) : (s.muSettle p).cuTicks = s.cuTicks := by
  unfold State.muSettle; split <;> simp
@[simp] theorem State.muSettle_cuTickOpen (p : Port) : (s.muSettle p).cuTickOpen = s.cuTickOpen := by
  unfold State.muSettle; split <;> simp
@[simp] theorem State.muSettle_inspection (p : Port) : (s.muSettle p).inspection = s.inspection := by
  unfold State.muSettle; split <;> simp
@[simp] theorem State.muSettle_forcing (p : Port) : (s.muSettle p).forcing = s.forcing := by
  unfold State.muSettle; split <;> simp
@[simp] theorem State.muSettle_memory (p : Port) : (s.muSettle p).memory = s.memory := by
  unfold State.muSettle; split <;> simp
@[simp] theorem State.muSettle_segments (p : Port) : (s.muSettle p).segments = s.segments := by
  unfold State.muSettle; split <;> simp
@[simp] theorem State.muSettle_clearing (p : Port) : (s.muSettle p).clearing = s.clearing := by
  unfold State.muSettle; split <;> simp
@[simp] theorem State.muSettle_period (p : Port) : (s.muSettle p).period = s.period := by
  unfold State.muSettle; split <;> simp
@[simp] theorem State.muSettle_periodCode (p : Port) : (s.muSettle p).periodCode = s.periodCode := by
  unfold State.muSettle; split <;> simp
@[simp] theorem State.muSettle_epoch (p : Port) : (s.muSettle p).epoch = s.epoch := by
  unfold State.muSettle; split <;> simp
@[simp] theorem State.muSettle_phase (p : Port) : (s.muSettle p).phase = s.phase := by
  unfold State.muSettle; split <;> simp
@[simp] theorem State.muSettle_clearReport (p : Port) : (s.muSettle p).clearReport = s.clearReport := by
  unfold State.muSettle; split <;> simp
@[simp] theorem State.muSettle_managerPort (p : Port) : (s.muSettle p).managerPort = s.managerPort := by
  unfold State.muSettle; split <;> simp
@[simp] theorem State.muSettle_keys (p : Port) : (s.muSettle p).keys = s.keys := by
  unfold State.muSettle; split <;> simp
@[simp] theorem State.muSettle_resetHeld (p : Port) : (s.muSettle p).resetHeld = s.resetHeld := by
  unfold State.muSettle; split <;> simp
@[simp] theorem State.muSettle_straps (p : Port) : (s.muSettle p).straps = s.straps := by
  unfold State.muSettle; split <;> simp
@[simp] theorem State.muSettle_pending (p : Port) : (s.muSettle p).pending = s.pending := by
  unfold State.muSettle; split <;> simp
@[simp] theorem State.muSettle_ctx (p : Port) (j : CtxNum) : (s.muSettle p).ctx j = s.ctx j := by
  simp [State.ctx]
@[simp] theorem State.muSettle_port (p : Port) (j : Port) : (s.muSettle p).port j = s.port j := by
  simp [State.port]
@[simp] theorem State.muSettle_lock (p : Port) (j : LockNum) : (s.muSettle p).lock j = s.lock j := by
  simp [State.lock]
@[simp] theorem State.muSettle_chan (p : Port) (j : ChanNum) : (s.muSettle p).chan j = s.chan j := by
  simp [State.chan]
@[simp] theorem State.muSettle_seg (p : Port) (j : SegNum) : (s.muSettle p).seg j = s.seg j := by
  simp [State.seg]
@[simp] theorem State.muSettle_keyPair (p : Port) (j : Port) : (s.muSettle p).keyPair j = s.keyPair j := by
  simp [State.keyPair]
/-! ### Window errors -/

@[simp] theorem State.windowRefusal_contexts (p : Port) (c : ErrorCause) (a : WindowAddr) : (s.windowRefusal p c a).contexts = s.contexts := by
  simp only [State.windowRefusal, State.modPort_contexts]
@[simp] theorem State.windowRefusal_links (p : Port) (c : ErrorCause) (a : WindowAddr) : (s.windowRefusal p c a).links = s.links := by
  simp only [State.windowRefusal, State.modPort_links]
@[simp] theorem State.windowRefusal_arbiters (p : Port) (c : ErrorCause) (a : WindowAddr) : (s.windowRefusal p c a).arbiters = s.arbiters := by
  simp only [State.windowRefusal, State.modPort_arbiters]
@[simp] theorem State.windowRefusal_locks (p : Port) (c : ErrorCause) (a : WindowAddr) : (s.windowRefusal p c a).locks = s.locks := by
  simp only [State.windowRefusal, State.modPort_locks]
@[simp] theorem State.windowRefusal_luTicks (p : Port) (c : ErrorCause) (a : WindowAddr) : (s.windowRefusal p c a).luTicks = s.luTicks := by
  simp only [State.windowRefusal, State.modPort_luTicks]
@[simp] theorem State.windowRefusal_channels (p : Port) (c : ErrorCause) (a : WindowAddr) : (s.windowRefusal p c a).channels = s.channels := by
  simp only [State.windowRefusal, State.modPort_channels]
@[simp] theorem State.windowRefusal_cuTicks (p : Port) (c : ErrorCause) (a : WindowAddr) : (s.windowRefusal p c a).cuTicks = s.cuTicks := by
  simp only [State.windowRefusal, State.modPort_cuTicks]
@[simp] theorem State.windowRefusal_cuTickOpen (p : Port) (c : ErrorCause) (a : WindowAddr) : (s.windowRefusal p c a).cuTickOpen = s.cuTickOpen := by
  simp only [State.windowRefusal, State.modPort_cuTickOpen]
@[simp] theorem State.windowRefusal_inspection (p : Port) (c : ErrorCause) (a : WindowAddr) : (s.windowRefusal p c a).inspection = s.inspection := by
  simp only [State.windowRefusal, State.modPort_inspection]
@[simp] theorem State.windowRefusal_forcing (p : Port) (c : ErrorCause) (a : WindowAddr) : (s.windowRefusal p c a).forcing = s.forcing := by
  simp only [State.windowRefusal, State.modPort_forcing]
@[simp] theorem State.windowRefusal_memory (p : Port) (c : ErrorCause) (a : WindowAddr) : (s.windowRefusal p c a).memory = s.memory := by
  simp only [State.windowRefusal, State.modPort_memory]
@[simp] theorem State.windowRefusal_segments (p : Port) (c : ErrorCause) (a : WindowAddr) : (s.windowRefusal p c a).segments = s.segments := by
  simp only [State.windowRefusal, State.modPort_segments]
@[simp] theorem State.windowRefusal_clearing (p : Port) (c : ErrorCause) (a : WindowAddr) : (s.windowRefusal p c a).clearing = s.clearing := by
  simp only [State.windowRefusal, State.modPort_clearing]
@[simp] theorem State.windowRefusal_period (p : Port) (c : ErrorCause) (a : WindowAddr) : (s.windowRefusal p c a).period = s.period := by
  simp only [State.windowRefusal, State.modPort_period]
@[simp] theorem State.windowRefusal_periodCode (p : Port) (c : ErrorCause) (a : WindowAddr) : (s.windowRefusal p c a).periodCode = s.periodCode := by
  simp only [State.windowRefusal, State.modPort_periodCode]
@[simp] theorem State.windowRefusal_epoch (p : Port) (c : ErrorCause) (a : WindowAddr) : (s.windowRefusal p c a).epoch = s.epoch := by
  simp only [State.windowRefusal, State.modPort_epoch]
@[simp] theorem State.windowRefusal_phase (p : Port) (c : ErrorCause) (a : WindowAddr) : (s.windowRefusal p c a).phase = s.phase := by
  simp only [State.windowRefusal, State.modPort_phase]
@[simp] theorem State.windowRefusal_clearReport (p : Port) (c : ErrorCause) (a : WindowAddr) : (s.windowRefusal p c a).clearReport = s.clearReport := by
  simp only [State.windowRefusal, State.modPort_clearReport]
@[simp] theorem State.windowRefusal_managerPort (p : Port) (c : ErrorCause) (a : WindowAddr) : (s.windowRefusal p c a).managerPort = s.managerPort := by
  simp only [State.windowRefusal, State.modPort_managerPort]
@[simp] theorem State.windowRefusal_keys (p : Port) (c : ErrorCause) (a : WindowAddr) : (s.windowRefusal p c a).keys = s.keys := by
  simp only [State.windowRefusal, State.modPort_keys]
@[simp] theorem State.windowRefusal_resetHeld (p : Port) (c : ErrorCause) (a : WindowAddr) : (s.windowRefusal p c a).resetHeld = s.resetHeld := by
  simp only [State.windowRefusal, State.modPort_resetHeld]
@[simp] theorem State.windowRefusal_straps (p : Port) (c : ErrorCause) (a : WindowAddr) : (s.windowRefusal p c a).straps = s.straps := by
  simp only [State.windowRefusal, State.modPort_straps]
@[simp] theorem State.windowRefusal_pending (p : Port) (c : ErrorCause) (a : WindowAddr) : (s.windowRefusal p c a).pending = s.pending := by
  simp only [State.windowRefusal, State.modPort_pending]
@[simp] theorem State.windowRefusal_ctx (p : Port) (c : ErrorCause) (a : WindowAddr) (j : CtxNum) : (s.windowRefusal p c a).ctx j = s.ctx j := by
  simp [State.ctx]
@[simp] theorem State.windowRefusal_link (p : Port) (c : ErrorCause) (a : WindowAddr) (j : Port) : (s.windowRefusal p c a).link j = s.link j := by
  simp [State.link]
@[simp] theorem State.windowRefusal_lock (p : Port) (c : ErrorCause) (a : WindowAddr) (j : LockNum) : (s.windowRefusal p c a).lock j = s.lock j := by
  simp [State.lock]
@[simp] theorem State.windowRefusal_chan (p : Port) (c : ErrorCause) (a : WindowAddr) (j : ChanNum) : (s.windowRefusal p c a).chan j = s.chan j := by
  simp [State.chan]
@[simp] theorem State.windowRefusal_seg (p : Port) (c : ErrorCause) (a : WindowAddr) (j : SegNum) : (s.windowRefusal p c a).seg j = s.seg j := by
  simp [State.seg]
@[simp] theorem State.windowRefusal_keyPair (p : Port) (c : ErrorCause) (a : WindowAddr) (j : Port) : (s.windowRefusal p c a).keyPair j = s.keyPair j := by
  simp [State.keyPair]
/-! ### Updates that leave the port interfaces make no completion due -/

@[simp] theorem State.modCtx_settled (i : CtxNum) (f : Context → Context) : (s.modCtx i f).settled ↔ s.settled :=
  State.settled_congr (by simp)
@[simp] theorem State.modLink_settled (i : Port) (f : Links → Links) : (s.modLink i f).settled ↔ s.settled :=
  State.settled_congr (by simp)
@[simp] theorem State.modLock_settled (i : LockNum) (f : Lock → Lock) : (s.modLock i f).settled ↔ s.settled :=
  State.settled_congr (by simp)
@[simp] theorem State.modChan_settled (i : ChanNum) (f : Channel → Channel) : (s.modChan i f).settled ↔ s.settled :=
  State.settled_congr (by simp)
@[simp] theorem State.setSeg_settled (i : SegNum) (e : Option Segment) : (s.setSeg i e).settled ↔ s.settled :=
  State.settled_congr (by simp)
@[simp] theorem State.setKeyPair_settled (i : Port) (k : KeyPair) : (s.setKeyPair i k).settled ↔ s.settled :=
  State.settled_congr (by simp)
@[simp] theorem State.mapCtxs_settled (f : CtxNum → Context → Context) : (s.mapCtxs f).settled ↔ s.settled :=
  State.settled_congr (by simp)
@[simp] theorem State.mapLocks_settled (f : Lock → Lock) : (s.mapLocks f).settled ↔ s.settled :=
  State.settled_congr (by simp)
@[simp] theorem State.mapChans_settled (f : Channel → Channel) : (s.mapChans f).settled ↔ s.settled :=
  State.settled_congr (by simp)
@[simp] theorem State.setMemory_settled (m : Memory) : (s.setMemory m).settled ↔ s.settled :=
  State.settled_congr (by simp)
@[simp] theorem State.setLuTicks_settled (ts : List LuTick) : (s.setLuTicks ts).settled ↔ s.settled :=
  State.settled_congr (by simp)
@[simp] theorem State.setCuTicks_settled (k : Nat) (b : Bool) : (s.setCuTicks k b).settled ↔ s.settled :=
  State.settled_congr (by simp)
@[simp] theorem State.modPortCtxs_settled (p : Port) (f : Context → Context) : (s.modPortCtxs p f).settled ↔ s.settled :=
  State.settled_congr (by simp)
@[simp] theorem State.sendLu_settled (p : Port) (m : LuMessage) : (s.sendLu p m).settled ↔ s.settled :=
  State.settled_congr (by simp)
@[simp] theorem State.sendCu_settled (p : Port) (m : CuMessage) : (s.sendCu p m).settled ↔ s.settled :=
  State.settled_congr (by simp)
@[simp] theorem State.sendCuAll_settled (b : BitVec 4) (m : CuMessage) : (s.sendCuAll b m).settled ↔ s.settled :=
  State.settled_congr (by simp)
@[simp] theorem State.muSettle_settled (p : Port) : (s.muSettle p).settled ↔ s.settled :=
  State.settled_congr (by simp)

end Sys2Proof.Machine
end

