-- ==== Sys2Proof/Laws/Checks.lean ====
section
/-! SUPPORT. What the checks made at a take can do (R21, R22, R88, R111), and what a completion writes (R18). -/

namespace Sys2Proof.Machine

/-! ### Keys (R111) -/

/-- The key comparison is the table of R111. -/
theorem State.keyOpens_iff (s : State) (cx : CtxNum) (key : Key) :
    s.keyOpens cx key = true ↔ s.presentsKeyFor cx key := by
  unfold State.keyOpens State.presentsKeyFor keyMatches State.isManager
  cases (s.ctx cx).command.selector <;> simp

/-- A grant changes no key comparison. -/
@[simp] theorem State.granted_keyOpens (s : State) (u : UnitId) (cx c : CtxNum) (key : Key) :
    (s.granted u cx).keyOpens c key = s.keyOpens c key := by
  simp [State.keyOpens, State.isManager]

/-- A grant changes no manager. -/
@[simp] theorem State.granted_isManager (s : State) (u : UnitId) (cx c : CtxNum) :
    (s.granted u cx).isManager c = s.isManager c := by
  simp [State.isManager]

/-! ### Privilege and range -/

/-- A command of the manager port goes on. -/
theorem State.asManager_of_manager {s : State} {cx : CtxNum} {k : Out} (h : portOf cx = s.managerPort) :
    s.asManager cx k = k := by
  simp [State.asManager, State.isManager, h]

/-- A manager command of another port fails with PRIVILEGE. -/
theorem State.asManager_of_other {s : State} {cx : CtxNum} {k : Out} (h : portOf cx ≠ s.managerPort) :
    s.asManager cx k = s.failed cx .privilege := by
  simp [State.asManager, State.isManager, h]

/-- The count's range check. -/
theorem CommandRecord.countWithin_iff (r : CommandRecord) (max : Nat) : r.countWithin max = true ↔ r.counts max := by
  simp [CommandRecord.countWithin, CommandRecord.counts]

@[simp] theorem State.onTarget_some {α : Type} (s : State) (cx : CtxNum) (x : α) (k : α → Out) :
    s.onTarget cx (some x) k = k x := rfl

@[simp] theorem State.onTarget_none {α : Type} (s : State) (cx : CtxNum) (k : α → Out) :
    s.onTarget cx none k = s.failed cx .range := rfl

/-! ### Data commands (R88) -/

/-- A data command that passes every check goes on with its segment and its word's address. -/
theorem State.onSegment_of_reaches {s : State} {cx : CtxNum} {right : Right} {need : Nat} {n : SegNum} {g : Segment}
    (h : s.reachesSegment cx right need n g) (k : SegNum → Segment → Nat → Out) :
    s.onSegment cx true need right k = k n g (s.wordNamed cx g) := by
  obtain ⟨hs, ho, hg, hr, hk, hright, hm⟩ := h
  have ho' : (s.ctx cx).command.segNum = some n := CommandRecord.objectBelow_eq_some.2 ho
  simp only [Segment.reaches, decide_eq_true_eq] at hr
  simp [State.onSegment, CommandRecord.selectorValid, hs, ho', hg, hr, (s.keyOpens_iff cx g.key).2 hk, hright,
    Segment.inMemory, hm, State.wordNamed]

/-- A grant changes nothing that the checks of a data command look at. -/
@[simp] theorem State.granted_reachesSegment (s : State) (u : UnitId) (c cx : CtxNum) (right : Right) (need : Nat)
    (n : SegNum) (g : Segment) :
    (s.granted u c).reachesSegment cx right need n g ↔ s.reachesSegment cx right need n g := by
  simp [State.reachesSegment, State.presentsKeyFor]

@[simp] theorem State.granted_wordNamed (s : State) (u : UnitId) (c cx : CtxNum) (g : Segment) :
    (s.granted u c).wordNamed cx g = s.wordNamed cx g := by
  simp [State.wordNamed]

/-! ### Completion (R18) -/

@[simp] theorem bringsData_iff (code : BitVec 8) : bringsData code = true ↔ code = 0x12#8 ∨ code = 0x03#8 := by
  simp [bringsData, Command.code]

/-- A completion ends its context. -/
theorem Context.ended_completed (c : Context) (r : Answer) : c.ended (c.completed r) r [] := by
  simp [Context.ended, Context.completed, Answer.record, Context.marker]

/-- How a context ends is not seen in the model's count of grants. -/
@[simp] theorem Context.countGrant_ended (u : UnitId) (c d : Context) (r : Answer) (ws : List Word) :
    (c.countGrant u).ended d r ws ↔ c.ended d r ws := by
  have : (c.countGrant u).abort.isSome = c.abort.isSome := c.countGrant_marker u
  simp [Context.ended, this]

end Sys2Proof.Machine
end

