-- ==== Sys2Proof/Laws/PerInstr.lean ====
section
/-! SUPPORT. A family of lemmas, one for each command: where a command is the step in which a unit takes a request, the
code of that request is dispatched back to the same command (R12, R164). -/

namespace Sys2Proof.Laws.UnitOwnsCode

/-- If `i` is the step in which a unit takes a request of command `c`, then the code of `c` is a known one, from 01h to
1Ah, and names `c`. -/
def Statement (i : Instr) : Prop :=
  ∀ (c : Machine.Command) (cx : CtxNum) (straps : Straps), i = c.taking cx straps →
    Machine.commandOf c.code = some c ∧ 1 ≤ c.code.toNat ∧ c.code.toNat ≤ 26

/-- Each command's code names it. -/
theorem commandOf_code (c : Machine.Command) :
    Machine.commandOf c.code = some c ∧ 1 ≤ c.code.toNat ∧ c.code.toNat ≤ 26 := by
  cases c <;> decide

theorem go (cx : CtxNum) : Statement (.go cx) := fun c _ _ _ => commandOf_code c
theorem ack (cx : CtxNum) : Statement (.ack cx) := fun c _ _ _ => commandOf_code c
theorem abort (cx : CtxNum) : Statement (.abort cx) := fun c _ _ _ => commandOf_code c
theorem attach (p : Port) : Statement (.attach p) := fun c _ _ _ => commandOf_code c
theorem detach (p : Port) : Statement (.detach p) := fun c _ _ _ => commandOf_code c
theorem portReset (p : Port) : Statement (.portReset p) := fun c _ _ _ => commandOf_code c
theorem evictionOrder (p : Port) : Statement (.evictionOrder p) := fun c _ _ _ => commandOf_code c
theorem withdrawalAck (p : Port) (u : UnitId) : Statement (.withdrawalAck p u) := fun c _ _ _ => commandOf_code c
theorem dataRead (place : ReadPlace) (part : ReadPart) : Statement (.dataRead place part) := fun c _ _ _ => commandOf_code c
theorem dataWrite (cx : CtxNum) (w : Word) : Statement (.dataWrite cx w) := fun c _ _ _ => commandOf_code c
theorem logRead (p : Port) (part : ReadPart) : Statement (.logRead p part) := fun c _ _ _ => commandOf_code c
theorem overflowClear (p : Port) : Statement (.overflowClear p) := fun c _ _ _ => commandOf_code c
theorem leaseLostClear (p : Port) : Statement (.leaseLostClear p) := fun c _ _ _ => commandOf_code c
theorem windowErrorClear (p : Port) : Statement (.windowErrorClear p) := fun c _ _ _ => commandOf_code c
theorem dataFlagClear (p : Port) (mask : BitVec 16) : Statement (.dataFlagClear p mask) := fun c _ _ _ => commandOf_code c
theorem spaceFlagClear (p : Port) (mask : BitVec 16) : Statement (.spaceFlagClear p mask) := fun c _ _ _ => commandOf_code c
theorem eventEnablesWrite (p : Port) (k : Fin 3) (w : Word) : Statement (.eventEnablesWrite p k w) := fun c _ _ _ => commandOf_code c
theorem intConfigWrite (p : Port) (w : Word) : Statement (.intConfigWrite p w) := fun c _ _ _ => commandOf_code c
theorem registerWrite (p : Port) (place : WordPlace) (w : Word) : Statement (.registerWrite p place w) := fun c _ _ _ => commandOf_code c
theorem frameShort (p : Port) (bits : Fin 32) : Statement (.frameShort p bits) := fun c _ _ _ => commandOf_code c
theorem read (cx : CtxNum) : Statement (.read cx) := fun c _ _ _ => commandOf_code c
theorem write (cx : CtxNum) : Statement (.write cx) := fun c _ _ _ => commandOf_code c
theorem readGroup (cx : CtxNum) : Statement (.readGroup cx) := fun c _ _ _ => commandOf_code c
theorem writeGroup (cx : CtxNum) : Statement (.writeGroup cx) := fun c _ _ _ => commandOf_code c
theorem tally (cx : CtxNum) : Statement (.tally cx) := fun c _ _ _ => commandOf_code c
theorem setIfZero (cx : CtxNum) : Statement (.setIfZero cx) := fun c _ _ _ => commandOf_code c
theorem zeroFill (cx : CtxNum) : Statement (.zeroFill cx) := fun c _ _ _ => commandOf_code c
theorem fillBurst (cx : CtxNum) : Statement (.fillBurst cx) := fun c _ _ _ => commandOf_code c
theorem defineSegment (cx : CtxNum) : Statement (.defineSegment cx) := fun c _ _ _ => commandOf_code c
theorem clearSegment (cx : CtxNum) : Statement (.clearSegment cx) := fun c _ _ _ => commandOf_code c
theorem inspectSegment (cx : CtxNum) : Statement (.inspectSegment cx) := fun c _ _ _ => commandOf_code c
theorem acquire (cx : CtxNum) : Statement (.acquire cx) := fun c _ _ _ => commandOf_code c
theorem release (cx : CtxNum) : Statement (.release cx) := fun c _ _ _ => commandOf_code c
theorem renew (cx : CtxNum) : Statement (.renew cx) := fun c _ _ _ => commandOf_code c
theorem inspectLock (cx : CtxNum) : Statement (.inspectLock cx) := fun c _ _ _ => commandOf_code c
theorem setLock (cx : CtxNum) : Statement (.setLock cx) := fun c _ _ _ => commandOf_code c
theorem forceRelease (part : ForcedStep) : Statement (.forceRelease part) := fun c _ _ _ => commandOf_code c
theorem send (cx : CtxNum) : Statement (.send cx) := fun c _ _ _ => commandOf_code c
theorem receive (cx : CtxNum) : Statement (.receive cx) := fun c _ _ _ => commandOf_code c
theorem inspectChannel (cx : CtxNum) : Statement (.inspectChannel cx) := fun c _ _ _ => commandOf_code c
theorem bindChannel (cx : CtxNum) : Statement (.bindChannel cx) := fun c _ _ _ => commandOf_code c
theorem unbindChannel (cx : CtxNum) : Statement (.unbindChannel cx) := fun c _ _ _ => commandOf_code c
theorem setPortKeys (cx : CtxNum) : Statement (.setPortKeys cx) := fun c _ _ _ => commandOf_code c
theorem setTick (cx : CtxNum) : Statement (.setTick cx) := fun c _ _ _ => commandOf_code c
theorem evictPort (cx : CtxNum) : Statement (.evictPort cx) := fun c _ _ _ => commandOf_code c
theorem inspectPort (cx : CtxNum) (part : InspectPart) : Statement (.inspectPort cx part) := fun c _ _ _ => commandOf_code c
theorem chipReset (cx : CtxNum) (straps : Straps) : Statement (.chipReset cx straps) := fun c _ _ _ => commandOf_code c
theorem resetAssert : Statement .resetAssert := fun c _ _ _ => commandOf_code c
theorem resetRelease (straps : Straps) : Statement (.resetRelease straps) := fun c _ _ _ => commandOf_code c
theorem memoryClearDone : Statement .memoryClearDone := fun c _ _ _ => commandOf_code c
theorem chipReady : Statement .chipReady := fun c _ _ _ => commandOf_code c
theorem periodEnd : Statement .periodEnd := fun c _ _ _ => commandOf_code c
theorem luTick : Statement .luTick := fun c _ _ _ => commandOf_code c
theorem lockWaitTimeout (cx : CtxNum) : Statement (.lockWaitTimeout cx) := fun c _ _ _ => commandOf_code c
theorem leaseExpiry (l : LockNum) : Statement (.leaseExpiry l) := fun c _ _ _ => commandOf_code c
theorem cuTick : Statement .cuTick := fun c _ _ _ => commandOf_code c
theorem channelWaitTimeout (cx : CtxNum) : Statement (.channelWaitTimeout cx) := fun c _ _ _ => commandOf_code c
theorem abortNoticePending (cx : CtxNum) : Statement (.abortNoticePending cx) := fun c _ _ _ => commandOf_code c
theorem lockWaitAbort (cx : CtxNum) : Statement (.lockWaitAbort cx) := fun c _ _ _ => commandOf_code c
theorem channelWaitAbort (cx : CtxNum) : Statement (.channelWaitAbort cx) := fun c _ _ _ => commandOf_code c
theorem fillAbort (cx : CtxNum) : Statement (.fillAbort cx) := fun c _ _ _ => commandOf_code c
theorem muWithdrawalNotice (p : Port) (stage : NoticeStep) : Statement (.muWithdrawalNotice p stage) := fun c _ _ _ => commandOf_code c
theorem luWithdrawalNotice (p : Port) (stage : NoticeStep) : Statement (.luWithdrawalNotice p stage) := fun c _ _ _ => commandOf_code c
theorem cuWithdrawalNotice (p : Port) (stage : NoticeStep) : Statement (.cuWithdrawalNotice p stage) := fun c _ _ _ => commandOf_code c
theorem suWithdrawalNotice (p : Port) (stage : NoticeStep) : Statement (.suWithdrawalNotice p stage) := fun c _ _ _ => commandOf_code c
theorem revocationRecordArrival (p : Port) : Statement (.revocationRecordArrival p) := fun c _ _ _ => commandOf_code c
theorem flagSettingArrival (p : Port) (n : ChanNum) : Statement (.flagSettingArrival p n) := fun c _ _ _ => commandOf_code c
theorem flagClearingArrival (p : Port) (n : ChanNum) : Statement (.flagClearingArrival p n) := fun c _ _ _ => commandOf_code c
theorem headerByte (p : Port) (part : HeaderPart) : Statement (.headerByte p part) := fun c _ _ _ => commandOf_code c

end Sys2Proof.Laws.UnitOwnsCode
end

