-- ==== Sys2Proof/Laws/Units.lean ====
section
/-! SUPPORT. What the shared operations of the units and of the window can do, one lemma each: queues, grants,
revocation, deliveries, notices, buffers and flags. -/

namespace Sys2Proof.Machine

/-! ### Buffers (R4) -/

theorem at_overlayFrom (ws : List Word) (i : Nat) (b : Table Word 16) (j : Fin 16) :
    (overlayFrom i ws b).at j = if i ≤ j.val then ws.getD (j.val - i) (b.at j) else b.at j := by
  induction ws generalizing i b with
  | nil => simp [overlayFrom]
  | cons w ws ih =>
    rw [overlayFrom, ih]
    by_cases h : i < 16
    · simp only [h, dif_pos]
      by_cases hj : j.val = i
      · have hj' : (⟨i, h⟩ : Fin 16) = j := Fin.ext hj.symm
        simp [hj', hj]
      · have hj' : j ≠ ⟨i, h⟩ := fun e => hj (by rw [e])
        by_cases hlt : i ≤ j.val
        · have h1 : i + 1 ≤ j.val := by omega
          have h2 : j.val - i = (j.val - (i + 1)) + 1 := by omega
          simp [Table.at_put_ne hj', hlt, h1, h2]
        · have h1 : ¬ (i + 1 ≤ j.val) := by omega
          simp [Table.at_put_ne hj', hlt, h1]
    · have h1 : ¬ (i + 1 ≤ j.val) := by omega
      have h2 : ¬ (i ≤ j.val) := by omega
      simp [h, h1, h2]

/-- The buffer after words have come into it from its start. -/
@[simp] theorem Context.at_withWords (c : Context) (ws : List Word) (j : Fin 16) :
    (c.withWords ws).buffer.at j = ws.getD j.val (c.buffer.at j) := by
  simp [Context.withWords, at_overlayFrom]

@[simp] theorem Context.withWords_state (c : Context) (ws : List Word) : (c.withWords ws).state = c.state := rfl
@[simp] theorem Context.withWords_abort (c : Context) (ws : List Word) : (c.withWords ws).abort = c.abort := rfl
@[simp] theorem Context.withWords_command (c : Context) (ws : List Word) : (c.withWords ws).command = c.command := rfl
@[simp] theorem Context.withWords_index (c : Context) (ws : List Word) : (c.withWords ws).index = c.index := rfl
@[simp] theorem Context.withWords_goRefused (c : Context) (ws : List Word) :
    (c.withWords ws).goRefused = c.goRefused := rfl

/-- A completion of a context that has been given words ends it with them. -/
theorem Context.ended_withWords (c : Context) (r : Answer) (ws : List Word) :
    c.ended ((c.withWords ws).completed r) r ws := by
  have h := at_overlayFrom ws 0 c.buffer
  simp [Context.ended, Context.completed, Answer.record, Context.marker, Context.withWords, h]

/-! ### Queues of waiters (R26, R27) -/

/-- A NORMAL entry joins at the tail. -/
theorem joinQueue_normal {w : Waiter} (h : w.priority = .normal) (q : List Waiter) : joinQueue q w = q ++ [w] := by
  simp [joinQueue, h]

/-- An URGENT entry joins behind the URGENT ones. -/
theorem joinQueue_urgent {w : Waiter} {us ns : List Waiter} (h : w.priority = .urgent)
    (hu : ∀ x ∈ us, x.priority = .urgent) (hn : ∀ x ∈ ns, x.priority = .normal) :
    joinQueue (us ++ ns) w = us ++ w :: ns := by
  have key : (us ++ ns).takeWhile (fun x => x.priority == .urgent) = us ∧
      (us ++ ns).dropWhile (fun x => x.priority == .urgent) = ns := by
    clear h
    induction us with
    | nil =>
      cases ns with
      | nil => simp
      | cons y ys =>
        have hy : y.priority = .normal := hn y (by simp)
        simp [hy]
    | cons y ys ih =>
      have hy : y.priority = .urgent := hu y (by simp)
      obtain ⟨h1, h2⟩ := ih fun x hx => hu x (by simp [hx])
      exact ⟨by simp [hy, h1], by simp [hy, h2]⟩
  simp [joinQueue, h, key.1, key.2]

/-! ### Grant and revocation (R30, R38, R50) -/

variable (s : State)

/-- With no waiter nothing is granted. -/
theorem State.grantHead_of_nil {s : State} {l : LockNum} (h : (s.lock l).queue = []) : s.grantHead l = s := by
  simp [State.grantHead, h]

/-- The head waiter leaves the queue and is granted the lock. -/
theorem State.grantHead_of_cons {s : State} {l : LockNum} {w : Waiter} {rest : List Waiter}
    (h : (s.lock l).queue = w :: rest) :
    s.grantHead l = (s.modLock l fun x => { x with queue := rest }).grantLock l w.ctx := by
  simp [State.grantHead, h]

/-- A FREE lock is not revoked. -/
theorem State.revoke_of_free {s : State} {l : LockNum} (h : (s.lock l).holder = none) (cause : RevocationCause)
    (epoch : BitVec 16) : s.revoke l cause epoch = s := by
  simp [State.revoke, h]

/-- A HELD lock is revoked: the record goes to the holder's port, and the lock to its head waiter. -/
theorem State.revoke_of_held {s : State} {l : LockNum} {h : CtxNum} (hh : (s.lock l).holder = some h)
    (cause : RevocationCause) (epoch : BitVec 16) :
    s.revoke l cause epoch = ((s.modLock l fun x => { x.freed with revoked := true }).sendLu (portOf h)
      (.record ((s.lock l).lossRecord l cause epoch))).grantHead l := by
  simp [State.revoke, hh, Lock.lossRecord]

/-- All that the tests of RELEASE and RENEW can answer. -/
theorem State.judgeHolder_cases (l : LockNum) (cx : CtxNum) (named : Word) (ok : Out) :
    ((s.lock l).isCurrent named = true ∧ (s.lock l).holder = some cx ∧ s.judgeHolder l cx named ok = ok) ∨
      ((s.lock l).isCurrent named = true ∧ (s.lock l).holder ≠ some cx ∧ s.judgeHolder l cx named ok =
        .next (s.complete cx { code := .notHolder, value := (s.lock l).generationWord, aux := (s.lock l).waiterCount })) ∨
      ((s.lock l).isCurrent named = false ∧ s.judgeHolder l cx named ok =
        .next (s.complete cx { code := .late, value := (s.lock l).generationWord, aux := (s.lock l).waiterCount })) := by
  by_cases h1 : (s.lock l).isCurrent named = true
  · by_cases h2 : (s.lock l).holder = some cx
    · exact .inl ⟨h1, h2, by simp [State.judgeHolder, h1, h2]⟩
    · exact .inr (.inl ⟨h1, h2, by simp [State.judgeHolder, h1, h2]⟩)
  · exact .inr (.inr ⟨by simpa using h1, by simp [State.judgeHolder, h1]⟩)

/-- The named generation is the current one (R36, R52). -/
theorem Lock.isCurrent_iff (k : Lock) (named : Word) :
    k.isCurrent named = true ↔ named = k.generation.setWidth 32 ∧ ¬ (k.holder = none ∧ k.revoked = true) := by
  cases h : k.holder <;> simp [Lock.isCurrent, Lock.generationWord, h] <;> intros <;>
    exact decide_eq_true_iff

/-! ### Channels (R68, R71) -/

/-- All that the checks of SEND and RECEIVE can answer. -/
theorem State.onChannel_cases (cx : CtxNum) (n : ChanNum) (role : Binding → Port → Bool) (k : Binding → Out) :
    ((s.chan n).binding = none ∧ s.onChannel cx n role k = s.failed cx .missing) ∨
      ∃ b, (s.chan n).binding = some b ∧
        ((role b (portOf cx) = false ∧ s.onChannel cx n role k = s.failed cx .wrongPort) ∨
          (role b (portOf cx) = true ∧ s.keyOpens cx b.key = false ∧ s.onChannel cx n role k = s.failed cx .protected_) ∨
          (role b (portOf cx) = true ∧ s.keyOpens cx b.key = true ∧ s.onChannel cx n role k = k b)) := by
  unfold State.onChannel
  cases h : (s.chan n).binding with
  | none => exact .inl ⟨rfl, rfl⟩
  | some b =>
    refine .inr ⟨b, rfl, ?_⟩
    cases h1 : role b (portOf cx)
    · exact .inl ⟨rfl, by simp [h1]⟩
    · cases h2 : s.keyOpens cx b.key
      · exact .inr (.inl ⟨rfl, rfl, by simp [h1, h2]⟩)
      · exact .inr (.inr ⟨rfl, rfl, by simp [h1, h2]⟩)

/-! ### Notices (R17) -/

/-- All that a withdrawal notice can do: it arrives, it is taken, or nothing changes. -/
theorem State.withdrawalNotice_cases (p : Port) (u : UnitId) (stage : NoticeStep) (act : State → State) :
    (stage = .arrive ∧ s.resetHeld = false ∧ (s.link p).notices.get u = .inTransit ∧
        s.withdrawalNotice p u stage act =
          .next (s.modLink p fun k => { k with notices := k.notices.set u (.standing 0) })) ∨
      (stage = .take ∧ s.takesNotice p u ∧
        s.withdrawalNotice p u stage act =
          .next (act (s.modLink p fun k => { k with notices := k.notices.set u .none }))) ∨
      s.withdrawalNotice p u stage act = .next s := by
  unfold State.withdrawalNotice State.live State.takesNotice
  cases hr : s.resetHeld <;> cases stage <;> cases hn : (s.link p).notices.get u <;> cases hm : s.midStep u <;> simp

/-! ### Folds of completions (R17) -/

/-- A completion in a state where no withdrawal can complete leaves the ports. -/
theorem State.complete_settled {s : State} (h : s.settled) (cx : CtxNum) (r : Answer) : (s.complete cx r).settled := by
  rw [State.complete_of_settled h]
  exact (State.settled_congr (by simp)).2 h

/-- Cancelling, one after the other, the contexts of a port that are in a state. -/
theorem State.ctx_cancelAll {s : State} (h : s.settled) (p : Port) {t : CtxState} (ht : t ≠ .done) (cx : CtxNum) :
    (s.cancelAll p t).ctx cx =
      if portOf cx = p ∧ (s.ctx cx).state = t then (s.ctx cx).completed { code := .cancelled } else s.ctx cx := by
  have step : ∀ (cs : List (Fin 4)) (u : State), u.settled →
      (cs.foldl (fun s c => if (s.ctx (ctxOf p c)).state = t then s.complete (ctxOf p c) { code := .cancelled } else s)
        u).ctx cx =
      if portOf cx = p ∧ slotOf cx ∈ cs ∧ (u.ctx cx).state = t then (u.ctx cx).completed { code := .cancelled }
      else u.ctx cx := by
    intro cs
    induction cs with
    | nil => intro u _; simp
    | cons c cs ih =>
      intro u hu
      rw [List.foldl_cons]
      by_cases hc : (u.ctx (ctxOf p c)).state = t
      · rw [if_pos hc, ih _ (State.complete_settled hu _ _), State.complete_of_settled hu]
        by_cases e : cx = ctxOf p c
        · subst e
          have : ¬ (CtxState.done = t) := fun e => ht e.symm
          simp [hc, Context.completed, this]
        · have : ¬ (portOf cx = p ∧ slotOf cx = c) := fun ⟨h1, h2⟩ => e (by rw [← h1, ← h2, ctxOf_portOf_slotOf])
          rw [State.modCtx_ctx_ne _ _ _ e]
          by_cases hp : portOf cx = p
          · have hs : ¬ slotOf cx = c := fun h2 => this ⟨hp, h2⟩
            simp [hp, hs]
          · simp [hp]
      · rw [if_neg hc, ih _ hu]
        by_cases e : cx = ctxOf p c
        · subst e; simp [hc]
        · by_cases hp : portOf cx = p
          · have hs : ¬ slotOf cx = c := fun h2 => e (by rw [← hp, ← h2, ctxOf_portOf_slotOf])
            simp [hp, hs]
          · simp [hp]
  have := step allSlots s h
  simpa [State.cancelAll] using this

/-! ### The window (R11, R157) -/

/-- A locked register takes a write while its context is not busy, and refuses it with CONTEXT_LOCKED otherwise. -/
theorem State.lockedWrite_cases (p : Port) (c : Fin 4) (a : WindowAddr) (f : Context → Context) :
    ((s.ctx (ctxOf p c)).state.busy = false ∧ s.lockedWrite p c a f = s.modCtx (ctxOf p c) f) ∨
      ((s.ctx (ctxOf p c)).state.busy = true ∧ s.lockedWrite p c a f = s.windowRefusal p .contextLocked a) := by
  cases h : (s.ctx (ctxOf p c)).state.busy
  · exact .inl ⟨rfl, by simp [State.lockedWrite, h]⟩
  · exact .inr ⟨rfl, by simp [State.lockedWrite, h]⟩

/-- A context is busy unless it is IDLE or DONE. -/
theorem CtxState.busy_iff (t : CtxState) : t.busy = true ↔ t ≠ .idle ∧ t ≠ .done := by
  cases t <;> simp [CtxState.busy, CtxState.owner]

/-! ### Flags (R135, R147) -/

/-- Each bit of a word made bit by bit. -/
@[simp] theorem getLsbD_bitsOf (f : ChanNum → Bool) (n : ChanNum) : (bitsOf f).getLsbD n.val = f n := by
  have step : ∀ (l : List ChanNum) (b : BitVec 16),
      (l.foldl (fun b n => if f n then b ||| BitVec.twoPow 16 n.val else b) b).getLsbD n.val =
        (b.getLsbD n.val || (decide (n ∈ l) && f n)) := by
    intro l
    induction l with
    | nil => intro b; simp
    | cons m l ih =>
      intro b
      rw [List.foldl_cons, ih]
      by_cases e : n = m
      · subst e
        cases hf : f n <;> simp
      · have e' : ¬ (n.val = m.val) := fun h => e (Fin.ext h)
        cases hf : f m <;> simp [e, e']
  rw [bitsOf, step]
  simp

/-- The DATA test of a channel (R135). -/
theorem Channel.hasDataFor_iff (s : State) (n : ChanNum) (p : Port) :
    (s.chan n).hasDataFor p = true ↔ s.dataDue p n := by
  unfold Channel.hasDataFor State.dataDue
  cases (s.chan n).binding <;> simp

/-- The SPACE test of a channel (R135). -/
theorem Channel.hasSpaceFor_iff (s : State) (n : ChanNum) (p : Port) :
    (s.chan n).hasSpaceFor p = true ↔ s.spaceDue p n := by
  unfold Channel.hasSpaceFor State.spaceDue
  cases (s.chan n).binding <;> simp [Config.channelSlots]

/-! ### INSPECT PORT (R127) -/

/-- SU takes a request only while it is not within the step of an INSPECT PORT. -/
theorem State.inspection_of_takes {s : State} {c : Command} {cx : CtxNum} (h : s.takes c cx) (hc : c.owner = .su) :
    s.inspection = none := by
  obtain ⟨_, _, _, hg⟩ := h
  rw [hc] at hg
  cases hi : s.inspection with
  | none => rfl
  | some g => simp [State.grants, State.midStep, hi] at hg

/-- With an item still to be read the step goes on. -/
theorem State.inspectionStands_of_lacks {g : Inspection} {i : InspectItem} (h : g.lacks i) :
    s.inspectionStands g = { s with inspection := some g } := by
  unfold State.inspectionStands
  cases i <;> simp only [Inspection.lacks] at h <;> simp [h]

/-- With all three items read it ends. -/
theorem State.inspectionStands_of_read {g : Inspection} {a : BitVec 2} {b : Table (BitVec 3) 4} {n : Nat}
    (ha : g.portState = some a) (hb : g.contexts = some b) (hn : g.locks = some n) :
    s.inspectionStands g = { s with inspection := none }.complete g.ctx (inspectPortAnswer a b n) := by
  simp [State.inspectionStands, ha, hb, hn]

/-- An item that has not been read is read as its block holds it, and the others stay. -/
theorem Inspection.read_of_lacks {g : Inspection} {i : InspectItem} (h : g.lacks i) :
    s.readsItem g (g.read i s) i := by
  have hl : s.locksHeld g.port = (s.locksOf g.port).length := by
    unfold State.locksHeld State.locksOf
    congr 1
    apply List.filter_congr
    intro l _
    cases (s.lock l).holder <;> simp [Bool.beq_eq_decide_eq]
  cases i <;> simp only [Inspection.lacks] at h <;>
    simp [State.readsItem, Inspection.read, h, hl, State.portContexts, Table.at, Vector.get]

/-! ### The steps of LU (R15, R46, R124) -/

/-- All that a command of a tick event at LU can do: it is served, RESETn high and LU within no other step, or nothing
changes. -/
theorem State.onLuTick_cases (k : LuTick → List LuTick → Out) :
    (∃ t rest, s.resetHeld = false ∧ s.forcing = none ∧ s.luTicks = t :: rest ∧ s.onLuTick k = k t rest) ∨
      s.onLuTick k = .next s := by
  unfold State.onLuTick State.live
  cases s.resetHeld <;> cases s.luTicks <;> cases s.forcing <;> simp

/-- A command of a tick event that stands at LU is served. -/
theorem State.onLuTick_of_stands {s : State} {t : LuTick} {rest : List LuTick} (hr : s.resetHeld = false)
    (hf : s.forcing = none) (ht : s.luTicks = t :: rest) (k : LuTick → List LuTick → Out) :
    s.onLuTick k = k t rest := by
  simp [State.onLuTick, State.live, hr, hf, ht]

/-- LU takes a request only while it is within no step and no tick event stands there. -/
theorem State.free_of_takes {s : State} {c : Command} {cx : CtxNum} (h : s.takes c cx) (hc : c.owner = .lu) :
    s.luTicks = [] ∧ s.forcing = none := by
  obtain ⟨_, _, _, hg⟩ := h
  rw [hc] at hg
  cases ht : s.luTicks with
  | cons t rest => simp [State.grants, State.tickStands, ht] at hg
  | nil =>
    cases hf : s.forcing with
    | none => exact ⟨rfl, rfl⟩
    | some c => simp [State.grants, State.midStep, hf] at hg

/-- The visit of a lock whose lease does not run leaves the state; of one that runs, it counts the lease, and revokes the
lock where that was its last tick (R48). -/
theorem State.visitLease_cases (epoch : BitVec 16) (l : LockNum) :
    ((s.lock l).running = false ∧ s.visitLease epoch l = s) ∨
      ((s.lock l).running = true ∧ (s.lock l).lease ≠ 1 ∧
        s.visitLease epoch l = s.modLock l fun x => { x with lease := x.lease - 1 }) ∨
      ((s.lock l).runsOut = true ∧
        s.visitLease epoch l = (s.modLock l fun x => { x with lease := x.lease - 1 }).revoke l .expired epoch) := by
  have hr : (s.lock l).leaseRuns = (s.lock l).running := rfl
  unfold State.visitLease Lock.runsOut
  dsimp only
  rw [hr]
  cases (s.lock l).running with
  | false => exact .inl ⟨rfl, rfl⟩
  | true =>
    by_cases h : (s.lock l).lease = 1
    · exact .inr (.inr ⟨by simp [h], by simp [h]⟩)
    · exact .inr (.inl ⟨rfl, h, by simpa using fun e => absurd e h⟩)

/-! ### Addresses of the window (R158, R161) -/

/-- The registers of a context block. -/
theorem registerAt_ctxAddr (c : Fin 4) (k : Fin 16) : registerAt (ctxAddr c k.val) = .context c (ctxRegisterAt k.val) := by
  revert c k; decide

/-- A read word at a register other than LOG and DATA has no side effect. -/
theorem State.readSource_of_plain {p : Port} {a : WindowAddr} (h : ¬ isLogAddr a) (h' : ¬ isDataAddr a) :
    s.readSource p a = .register a := by
  have key : ∀ a : WindowAddr, ¬ isLogAddr a → ¬ isDataAddr a →
      registerAt a ≠ .log ∧ ∀ c, registerAt a ≠ .context c .data := by
    unfold isLogAddr isDataAddr; decide
  obtain ⟨h1, h2⟩ := key a h h'
  unfold State.readSource
  split
  · exact absurd ‹_› h1
  · exact absurd ‹_› (h2 _)
  · rfl

/-- A read word at LOG takes the oldest record with it, if there is one. -/
theorem State.readSource_log (p : Port) : s.readSource p 0x0C = .log (!(s.port p).log.isEmpty) := rfl

/-- A read word at a context's DATA. -/
theorem State.readSource_data (cx : CtxNum) :
    s.readSource (portOf cx) (ctxAddr (slotOf cx) dataOffset) = .data cx := by
  have h := registerAt_ctxAddr (slotOf cx) 9
  unfold State.readSource dataOffset
  rw [show registerAt (ctxAddr (slotOf cx) 9) = .context (slotOf cx) .data from h]
  simp

/-! ### The data output (R168) -/

/-- The level held before the first word of a read frame. -/
theorem PortInterface.heldLevel_none {i : PortInterface} (h : i.sent = none) : i.heldLevel = false := by
  simp [PortInterface.heldLevel, h]

/-- The level held after a word: its last bit. -/
theorem PortInterface.heldLevel_some {i : PortInterface} {w : Word} (h : i.sent = some w) :
    i.heldLevel = w.getLsbD 0 := by
  simp [PortInterface.heldLevel, h]

/-- In a read frame the data output sends the latched word, or holds its level while there is none. -/
theorem State.dataOutput_of_readFrame {p : Port} {a : WindowAddr} (hr : s.resetHeld = false)
    (hf : (s.port p).frame = .inFrame .read a) :
    (∀ l, (s.port p).latch = some l → s.dataOutput p = .sending l.value) ∧
      ((s.port p).latch = none → s.dataOutput p = .level (s.port p).heldLevel) := by
  unfold State.dataOutput
  rw [hr, hf]
  exact ⟨fun l h => by simp [h], fun h => by simp [h]⟩

end Sys2Proof.Machine
end

