-- ==== Sys2Proof/WellFormed.lean ====
section
/-! DEFINITION. Which commands are the ones their rows describe. The numbers of ports, contexts and objects are in
range by their types; what is left are the operands that a row's words exclude. `exec` has a meaning for the others
too. -/

namespace Sys2Proof

/-- The address belongs to a register whose write word is wholly a row of its own: EVENT FLAGS 1 and 2, EVENT ENABLES
0 to 2, INT CONFIG, and the DATA registers (R161). -/
def hasOwnRow (a : WindowAddr) : Bool :=
  decide (5 ≤ a.toNat ∧ a.toNat ≤ 10) || decide (0x20 ≤ a.toNat ∧ a.toNat < 0x60 ∧ a.toNat % 16 = 9)

/-- LOG, or a DATA register: its read word has a spelling of its own (R59, R156, R161). -/
def readsWithSideEffect (a : WindowAddr) : Bool :=
  decide (a.toNat = 0x0C) || decide (0x20 ≤ a.toNat ∧ a.toNat < 0x60 ∧ a.toNat % 16 = 9)

/-- A read word is a DATA_READ of the table: it is at a DATA register, named by its context, or at a register whose read
has no side effect. -/
def ReadPlace.wellFormed : ReadPlace → Bool
  | .data _ => true
  | .register _ a => !readsWithSideEffect a

/-- A write word is a REGISTER_WRITE of the table: it is aimed at an address with no row of its own, or at the frame's
current address. CONTROL, PORT CONTROL, EVENT FLAGS 0 and LOG STATUS count as such, since one word there can fire
several strobes or none (R6, R133, R146). -/
def WordPlace.wellFormed : WordPlace → Bool
  | .current => true
  | .address a => !hasOwnRow a

/-- The command is one its row describes. -/
def Instr.wellFormed : Instr → Bool
  | .registerWrite _ place _ => place.wellFormed
  | .dataRead place _ => place.wellFormed
  | .frameShort _ bits => decide (bits ≠ 0)
  | .dataFlagClear _ mask => decide (mask ≠ 0)
  | .spaceFlagClear _ mask => decide (mask ≠ 0)
  | .go _ | .ack _ | .abort _ | .attach _ | .detach _ | .portReset _ | .evictionOrder _ | .withdrawalAck _ _
  | .dataWrite _ _ | .logRead _ _ | .overflowClear _ | .leaseLostClear _ | .windowErrorClear _
  | .eventEnablesWrite _ _ _ | .intConfigWrite _ _ | .read _ | .write _ | .readGroup _ | .writeGroup _ | .tally _
  | .setIfZero _ | .zeroFill _ | .fillBurst _ | .defineSegment _ | .clearSegment _ | .inspectSegment _ | .acquire _
  | .release _ | .renew _ | .inspectLock _ | .setLock _ | .forceRelease _ | .send _ | .receive _ | .inspectChannel _
  | .bindChannel _ | .unbindChannel _ | .setPortKeys _ | .setTick _ | .evictPort _ | .inspectPort _ _ | .chipReset _ _
  | .resetAssert | .resetRelease _ | .memoryClearDone | .chipReady | .periodEnd | .luTick | .lockWaitTimeout _
  | .leaseExpiry _ | .cuTick | .channelWaitTimeout _ | .abortNoticePending _ | .lockWaitAbort _ | .channelWaitAbort _
  | .fillAbort _ | .muWithdrawalNotice _ _ | .luWithdrawalNotice _ _ | .cuWithdrawalNotice _ _
  | .suWithdrawalNotice _ _ | .revocationRecordArrival _ | .flagSettingArrival _ _ | .flagClearingArrival _ _
  | .headerByte _ _ => true

end Sys2Proof
end

