-- ==== Sys2Proof/Tests/Slice0.lean ====
section
/-! SUPPORT. Tests: the refusals of WellFormed; one small step of each command, with its outcome taken from the spec
(the rules named, or the sequences of spec/11); and for each obligation a state and operands that meet its hypotheses. -/

namespace Sys2Proof.Tests

set_option Elab.async false

open Sys2Proof Sys2Proof.Machine

/-! ## The states of the tests -/

/-- A board after 11.1 and at the start of 11.2: READY, P0 the manager, every port ONLINE, S0 of 256 words, L0 held by
context 4 with generation 1 and lease 40, C0 bound from P1 to P0, the tick RUNNING at 1 ms. -/
def board : State :=
  { State.reset with
    phase := .ready, clearing := false, period := some 1
    ports := Table.all 4 { PortInterface.reset with state := .online }
    keys := ((Table.all 4 ⟨0, 0⟩).put 1 ⟨0x5C1, 0⟩).put 3 ⟨0x5C1, 0⟩
    locks := (Table.all 64 Lock.reset).put 0
      { key := 0x5C1, period := 50, holder := some 4, generation := 1, lease := 40, revoked := false, queue := [] }
    channels := (Table.all 16 Channel.reset).put 0
      { binding := some ⟨0b0010, 0, 0⟩, counter := 0, slots := [], senders := [], receivers := [] }
    segments := (Table.all 64 none).put 0 (some ⟨0, 256, 0x5C1, ⟨true, true, true⟩⟩)
    memory := [(10, 7), (255, 0xFFFFFFFF)] }

/-- A command record with a target and an operand, and 0 elsewhere. -/
def record (object : BitVec 8) (operand : Word := 0) : CommandRecord :=
  { CommandRecord.zero with object := object, operand := operand }

/-- A command record of a data command. -/
def data (offset : BitVec 12) (operand : Word := 0) (count : BitVec 13 := 0) : CommandRecord :=
  { CommandRecord.zero with offset := offset, operand := operand, count := count }

/-- The state with a request of `c` pending for context `cx`, at its unit. -/
def asking (s : State) (cx : CtxNum) (c : Command) (r : CommandRecord) : State :=
  s.modCtx cx fun x => { x with state := .pending c.owner, command := { r with code := c.code } }

/-- The state with context `cx` in a state. -/
def standing (s : State) (cx : CtxNum) (t : CtxState) : State := s.modCtx cx fun x => { x with state := t }

/-- The state with the abort marker of context `cx` set. -/
def marked (s : State) (cx : CtxNum) : State := s.modCtx cx fun x => { x with abort := some ⟨0, false⟩ }

/-- What a step leaves, as `f` sees it. -/
def after {α : Type} (o : Out) (f : State → α) : Option α :=
  match o with
  | .next t => some (f t)
  | _ => none

/-- The result of context `cx`: code, VALUE and AUX. -/
def ended (cx : CtxNum) (t : State) : Option CompletionCode × Word × BitVec 16 :=
  ((t.ctx cx).result.code, (t.ctx cx).result.value, (t.ctx cx).result.aux)

/-! ## WellFormed refuses the ill-formed -/

theorem test_wf_own_row : (Instr.registerWrite 0 (.address 0x07) 0).wellFormed = false := by decide
theorem test_wf_data_row : (Instr.registerWrite 0 (.address 0x59) 0).wellFormed = false := by decide
theorem test_wf_control : (Instr.registerWrite 0 (.address 0x24) 3).wellFormed = true := by decide
theorem test_wf_no_bits : (Instr.frameShort 0 0).wellFormed = false := by decide
theorem test_wf_no_data_flag : (Instr.dataFlagClear 0 0).wellFormed = false := by decide
theorem test_wf_no_space_flag : (Instr.spaceFlagClear 0 0).wellFormed = false := by decide
theorem test_wf_log_read : (Instr.dataRead (.register 1 0x0C) .whole).wellFormed = false := by decide
theorem test_wf_data_read : (Instr.dataRead (.register 1 0x39) .firstBit).wellFormed = false := by decide
theorem test_wf_plain_read : (Instr.dataRead (.register 1 0x7F) .whole).wellFormed = true := by decide

/-! ## The machine as a whole -/

/-- R13: the step takes the command at the front. -/
theorem test_step_front : after (step { board with pending := [.ack 3, .periodEnd] }) State.pending =
    some [.periodEnd] := by decide +kernel

theorem witness_StepRunsTheFrontCommand : board.pending = [] := rfl

theorem witness_EveryCommandAnswersANextState : board.segmentsInMemory ∧ board.fillsInMemory := by
  dsimp only [State.segmentsInMemory, State.fillsInMemory]; decide +kernel

theorem witness_StepKeepsMemoryUnitSound : let s := { board with pending := [.periodEnd] }
    s.memoryCanonical ∧ s.segmentsInMemory ∧ s.fillsInMemory ∧ ∃ t, step s = .next t := by
  refine ⟨?_, ?_, ?_, ⟨_, rfl⟩⟩
  · dsimp only [State.memoryCanonical]; decide +kernel
  · dsimp only [State.segmentsInMemory]; decide +kernel
  · dsimp only [State.fillsInMemory]; decide +kernel

theorem witness_locks : board.locksConsistent ∧ board.channelsConsistent := by
  dsimp only [State.locksConsistent, State.waitersCoherent, State.inspectionSound, State.forcingSound,
    State.channelsConsistent]; decide +kernel

theorem witness_StepKeepsLocksConsistent : let s := { board with pending := [.periodEnd] }
    s.locksConsistent ∧ s.channelsConsistent ∧ ∃ t, step s = .next t :=
  ⟨witness_locks.1, witness_locks.2, _, rfl⟩

theorem witness_StepKeepsChannelsAndLogs : let s := { board with pending := [.periodEnd] }
    s.channelsConsistent ∧ s.channelsBounded ∧ s.locksConsistent ∧ s.logsBounded ∧ ∃ t, step s = .next t := by
  refine ⟨witness_locks.2, ?_, witness_locks.1, ?_, _, rfl⟩
  · dsimp only [State.channelsBounded, CommandRecord.counts]; decide +kernel
  · dsimp only [State.logsBounded]; decide +kernel

theorem witness_StepKeepsWithdrawalsCoherent : let s := { board with pending := [.periodEnd] }
    s.withdrawalsCoherent ∧ s.owesForFills ∧ s.locksConsistent ∧ s.channelsConsistent ∧ ∃ t, step s = .next t := by
  refine ⟨?_, ?_, witness_locks.1, witness_locks.2, _, rfl⟩
  · dsimp only [State.withdrawalsCoherent]; decide +kernel
  · dsimp only [State.owesForFills]; decide +kernel

theorem settled_board : board.settled := by dsimp only [State.settled]; decide +kernel

/-! ## Chip reset -/

/-- R115: MSEL1 high names P2. -/
theorem test_resetRelease : after (exec (.resetRelease ⟨true, false⟩) board) (fun t => (t.managerPort, t.phase)) =
    some (2, .init) := by decide +kernel

/-- R129, R119: the period code is 1 ms again and the generator STOPPED. -/
theorem test_chipReset : after (exec (.chipReset 0 ⟨false, true⟩) (asking board 0 .chipReset (record 0)))
    (fun t => (t.managerPort, t.period, t.periodCode, t.clearing)) = some (1, none, 1, true) := by decide +kernel

/-- R130: a port is OFFLINE while RESETn is low. -/
theorem test_resetAssert : after (exec .resetAssert board) (fun t => ((t.port 1).state, t.resetHeld)) =
    some (.offline, true) := by decide +kernel

/-- 11.1: MU ends the clear. -/
theorem test_memoryClearDone : after (exec .memoryClearDone { board with clearing := true })
    (fun t => (t.memory.read 10, t.clearReport, t.phase)) = some (0, true, .ready) := by decide +kernel

/-- 11.1: SU takes the report. -/
theorem test_chipReady : after (exec .chipReady { State.reset with clearReport := true })
    (fun t => (t.phase, t.clearReport)) = some (.ready, false) := by decide +kernel

theorem witness_ChipResetEvent : (asking board 0 .chipReset (record 0)).takes .chipReset 0 ∧
    portOf 0 = (asking board 0 .chipReset (record 0)).managerPort := by
  dsimp only [State.takes]; decide +kernel

theorem witness_ResetHeldLow : ({ board with resetHeld := true } : State).resetHeld = true ∧ Instr.go 5 ≠ .resetAssert ∧
    (∀ u, Instr.go 5 ≠ .resetRelease u) ∧ (∀ p b, Instr.go 5 ≠ .headerByte p b) ∧
    (∀ p b, Instr.go 5 ≠ .frameShort p b) := by
  simp

theorem witness_ClearEndsInReady : (State.reset.resetHeld = false ∧ State.reset.clearing = true) ∧
    board.resetHeld = false ∧ ({ board with clearReport := true } : State).clearReport = true ∧
      board.midStep .su = false := by decide

/-! ## Taking a request -/

/-- Requests of contexts 3 and 9 stand at LU, whose arbiter last granted 8. -/
def twoAsk : State :=
  { asking (asking board 3 .inspectLock (record 0)) 9 .inspectLock (record 0) with arbiters := ⟨15, 8, 15, 15⟩ }

/-- R14: the arbiter goes round. -/
theorem test_turn : (twoAsk.grants .lu, { twoAsk with arbiters := ⟨15, 9, 15, 15⟩ }.grants .lu) =
    (some 9, some 3) := by decide +kernel

theorem witness_RequestsAreTakenInTurn : twoAsk.grants .lu = some 9 ∧
    ((twoAsk.ctx 3).state.standsAt .lu = true ∧ twoAsk.tickStands .lu = false ∧ twoAsk.midStep .lu = false ∧
      twoAsk.noNoticeDue .lu = true) ∧
    ¬ twoAsk.takes .inspectLock 3 ∧ ¬ board.takes .forceRelease 0 := by
  dsimp only [State.takes]; decide +kernel

/-- A SET LOCK asked by P1. -/
def notManager : State := asking board 4 .setLock (record 0)

theorem witness_ManagerCommandsNeedTheManagerPort : notManager.settled ∧ notManager.takes .setLock 4 ∧
    portOf 4 ≠ notManager.managerPort := by
  dsimp only [State.settled, State.takes]; decide +kernel

/-- The request of `c` with the record `r` by the manager's context 0 is taken and out of range. -/
abbrev refusedRange (c : Command) (r : CommandRecord) : Prop :=
  let s := asking board 0 c r
  s.settled ∧ s.takes c 0 ∧ portOf 0 = s.managerPort ∧ s.outOfRange c (s.ctx 0).command

theorem witness_range_object : refusedRange .read (record 64) := by
  dsimp only [refusedRange, State.settled, State.takes, State.outOfRange]; decide +kernel
theorem witness_range_count : refusedRange .send { record 0 with count := 17 } := by
  dsimp only [refusedRange, State.settled, State.takes, State.outOfRange, CommandRecord.counts]; decide +kernel
theorem witness_range_fill : refusedRange .zeroFill { record 0 with count := 4097 } := by
  dsimp only [refusedRange, State.settled, State.takes, State.outOfRange, CommandRecord.counts]; decide +kernel
theorem witness_range_selector : refusedRange .acquire { record 63 with selector := .unused } := by
  dsimp only [refusedRange, State.settled, State.takes, State.outOfRange]; decide +kernel
theorem witness_range_generation : refusedRange .release (record 0 256) := by
  dsimp only [refusedRange, State.settled, State.takes, State.outOfRange]; decide +kernel
theorem witness_range_segment : refusedRange .defineSegment { record 0 16383 with count := 2 } := by
  dsimp only [refusedRange, State.settled, State.takes, State.outOfRange, CommandRecord.counts]; decide +kernel
theorem witness_range_channel : refusedRange .bindChannel (record 1 0b010010) := by
  dsimp only [refusedRange, State.settled, State.takes, State.outOfRange]; decide +kernel
theorem witness_range_port : refusedRange .evictPort (record 0) := by
  dsimp only [refusedRange, State.settled, State.takes, State.outOfRange]; decide +kernel

/-- A READ of S0 by context `cx`, with the key selector `k`, at an offset. -/
def reading (cx : CtxNum) (k : Selector) (offset : BitVec 12) : State :=
  asking board cx .read { data offset with selector := k }

theorem witness_DataCommandsAreChecked_missing : let s := reading 12 .primary 256
    s.settled ∧ s.takes .read 12 ∧ ¬ s.outOfRange .read (s.ctx 12).command ∧ (s.ctx 12).command.object.toNat = 0 ∧
    (s.seg 0).all (fun g => !g.reaches (s.ctx 12).command.offset.toNat 1) = true := by
  dsimp only [State.settled, State.takes, State.outOfRange]; decide +kernel

theorem witness_DataCommandsAreChecked_protected : let s := reading 12 .alternate 255
    s.settled ∧ s.takes .read 12 ∧ ¬ s.outOfRange .read (s.ctx 12).command ∧ (s.ctx 12).command.object.toNat = 0 ∧
    ∃ g, s.seg 0 = some g ∧ g.reaches (s.ctx 12).command.offset.toNat 1 = true ∧
      ¬ (s.presentsKeyFor 12 g.key ∧ g.rights.grants .read = true) := by
  dsimp only [State.settled, State.takes, State.outOfRange, State.presentsKeyFor]
  refine ⟨by decide +kernel, by decide +kernel, by decide +kernel, by decide +kernel, ⟨0, 256, 0x5C1, ⟨true, true, true⟩⟩, ?_⟩
  decide +kernel

/-! ## MU -/

/-- R89: the word at S0 + 10. -/
theorem test_read : after (exec (.read 12) (reading 12 .primary 10)) (ended 12) = some (some .ok, 7, 0) := by
  decide +kernel

/-- R89: the store at S0 + 255, the last word of the segment. -/
theorem test_write : after (exec (.write 12) (asking board 12 .write (data 255 5)))
    (fun t => (t.memory.read 255, t.memory.read 254, ended 12 t)) = some (5, 0, some .ok, 0, 0) := by decide +kernel

/-- R90: sixteen words at S0 + 250, of which six lie in the segment; the sixth holds FFFFFFFFh. -/
theorem test_readGroup : after (exec (.readGroup 12) (asking board 12 .readGroup (data 250 0 16)))
    (fun t => (ended 12 t, (t.ctx 12).buffer.at 5)) = some ((some .missing, 0, 6), 0xFFFFFFFF) := by decide +kernel

/-- R91: two words of the buffer at S0 + 9. -/
theorem test_writeGroup : after (exec (.writeGroup 12)
    ((asking board 12 .writeGroup (data 9 0 2)).modCtx 12 fun c => { c with buffer := (c.buffer.put 0 3).put 2 9 }))
    (fun t => (ended 12 t, t.memory)) = some ((some .ok, 0, 2), [(9, 3), (255, 0xFFFFFFFF)]) := by decide +kernel

/-- R92: 7 becomes 8. -/
theorem test_tally : after (exec (.tally 12) (asking board 12 .tally (data 10)))
    (fun t => (ended 12 t, t.memory.read 10)) = some ((some .ok, 7, 0), 8) := by decide +kernel

/-- R92: FFFFFFFFh stays, with SATURATED. -/
theorem test_tally_saturates : after (exec (.tally 12) (asking board 12 .tally (data 255)))
    (fun t => (ended 12 t, t.memory.read 255, (t.ctx 12).result.saturated)) =
    some ((some .ok, 0xFFFFFFFF, 0), 0xFFFFFFFF, true) := by decide +kernel

/-- R93: a word that holds 0 takes the operand. -/
theorem test_setIfZero : after (exec (.setIfZero 12) (asking board 12 .setIfZero (data 11 6)))
    (fun t => (ended 12 t, t.memory.read 11)) = some ((some .ok, 0, 1), 6) := by decide +kernel

/-- R93: a word that does not hold 0 keeps its value. -/
theorem test_setIfZero_held : after (exec (.setIfZero 12) (asking board 12 .setIfZero (data 10 6)))
    (fun t => (ended 12 t, t.memory.read 10)) = some ((some .ok, 7, 0), 7) := by decide +kernel

/-- 11.5: the fill of 200 words is taken, and no word is cleared. -/
theorem test_zeroFill : after (exec (.zeroFill 12) (asking board 12 .zeroFill (data 0 0 200)))
    (fun t => ((t.ctx 12).state, t.memory.read 10)) = some (.active ⟨0, 0, 200, 0, none⟩, 7) := by decide +kernel

/-- The fill of 11.5 with 128 words zeroed. -/
def filling (zeroed : Nat) (stop : Option StopReason) : State := standing board 12 (.active ⟨0, 0, 200, zeroed, stop⟩)

/-- R96: the last burst clears eight words and completes with AUX 200. -/
theorem test_fillBurst : after (exec (.fillBurst 12) (filling 192 none)) (ended 12) = some (some .ok, 0, 200) := by
  decide +kernel

/-- 11.5: the boundary after the redefinition. -/
theorem test_fillBurst_stopped : after (exec (.fillBurst 12) (filling 128 (some .segmentChanged)))
    (fun t => (ended 12 t, t.memory.read 10)) = some ((some .segmentChanged, 0, 128), 7) := by decide +kernel

/-- 11.5: S0 defined again, over its running fill: OK with AUX 1. -/
theorem test_defineSegment : after (exec (.defineSegment 0)
    (asking (filling 128 none) 0 .defineSegment { record 0 0x7E270000 with count := 256 }))
    (fun t => (ended 0 t, t.seg 0, (t.ctx 12).state)) =
    some ((some .ok, 0, 1), some ⟨0, 256, 0x7E2, ⟨true, true, true⟩⟩, .active ⟨0, 0, 200, 128, some .segmentChanged⟩) := by
  decide +kernel

/-- R101: VALUE 1 for an entry that was valid. -/
theorem test_clearSegment : after (exec (.clearSegment 0) (asking board 0 .clearSegment (record 0)))
    (fun t => (ended 0 t, t.seg 0)) = some ((some .ok, 1, 0), none) := by decide +kernel

/-- R102, R167: rights, length and key of S0, for the manager. -/
theorem test_inspectSegment : after (exec (.inspectSegment 0) (asking board 0 .inspectSegment (record 0))) (ended 0) =
    some (some .ok, 0x5C10100F, 0) := by decide +kernel

/-- R102: the key is not shown to another port. -/
theorem test_inspectSegment_other : after (exec (.inspectSegment 4) (asking board 4 .inspectSegment (record 0)))
    (ended 4) = some (some .ok, 0x100F, 0) := by decide +kernel

/-- R103: the reason is given, and the notice goes on standing until the fill ends. -/
theorem test_fillAbort : after (exec (.fillAbort 12) (marked (filling 64 none) 12))
    (fun t => ((t.ctx 12).state, (t.ctx 12).abort)) =
    some (.active ⟨0, 0, 200, 64, some .aborted⟩, some ⟨0, true⟩) := by decide +kernel

/-- The request of `c` by context 12 passes the checks on S0 with the given right and number of words. -/
abbrev reaches (c : Command) (right : Right) (need : Nat) (r : CommandRecord) : Prop :=
  let s := asking board 12 c r
  s.settled ∧ s.memoryCanonical ∧ s.takes c 12 ∧ s.reachesSegment 12 right need 0 ⟨0, 256, 0x5C1, ⟨true, true, true⟩⟩

theorem witness_read : reaches .read .read 1 (data 255) := by
  dsimp only [reaches, State.settled, State.memoryCanonical, State.takes, State.reachesSegment, State.presentsKeyFor]
  decide +kernel
theorem witness_write : reaches .write .write 1 (data 0) := by
  dsimp only [reaches, State.settled, State.memoryCanonical, State.takes, State.reachesSegment, State.presentsKeyFor]
  decide +kernel
theorem witness_readGroup : reaches .readGroup .read 1 (data 240 0 16) ∧ reaches .readGroup .read 1 (data 241 0 16) ∧
    (data 240 0 16).counts 16 := by
  dsimp only [reaches, State.settled, State.memoryCanonical, State.takes, State.reachesSegment, State.presentsKeyFor,
    CommandRecord.counts]
  decide +kernel
theorem witness_writeGroup : reaches .writeGroup .write 1 (data 255 0 1) ∧
    reaches .writeGroup .write 1 (data 255 0 2) ∧ (data 255 0 1).counts 16 := by
  dsimp only [reaches, State.settled, State.memoryCanonical, State.takes, State.reachesSegment, State.presentsKeyFor,
    CommandRecord.counts]
  decide +kernel
theorem witness_tally : reaches .tally .atomic 1 (data 255) ∧ reaches .setIfZero .atomic 1 (data 255) := by
  dsimp only [reaches, State.settled, State.memoryCanonical, State.takes, State.reachesSegment, State.presentsKeyFor]
  decide +kernel
theorem witness_zeroFill : reaches .zeroFill .write 256 (data 0 0 256) ∧ (data 0 0 256).counts 4096 := by
  dsimp only [reaches, State.settled, State.memoryCanonical, State.takes, State.reachesSegment, State.presentsKeyFor,
    CommandRecord.counts]
  decide +kernel

/-- The hypotheses of FillBurstClearsOrEnds, in a state where context 12 runs the fill `f`. -/
abbrev burst (s : State) (f : Fill) : Prop :=
  s.settled ∧ s.memoryCanonical ∧ s.resetHeld = false ∧ (s.ctx 12).state = .active f ∧ s.grants .mu = some 12 ∧
    f.start + f.count ≤ 16384 ∧ f.zeroed ≤ f.count

theorem witness_fillBurst : burst (filling 64 none) ⟨0, 0, 200, 64, none⟩ ∧ 64 + 64 < 200 ∧
    burst (filling 136 none) ⟨0, 0, 200, 136, none⟩ ∧ 200 ≤ 136 + 64 ∧
    burst (filling 0 (some .cancelled)) ⟨0, 0, 200, 0, some .cancelled⟩ := by
  dsimp only [burst, State.settled, State.memoryCanonical]; decide +kernel

/-- The fill of 11.5 is the last of a port whose withdrawal MU has still to acknowledge. -/
def lastFilling : State := (filling 128 (some .cancelled)).modLink 3 fun k => { k with muOwesAck := true }

theorem witness_fillBurst_last : burst lastFilling ⟨0, 0, 200, 128, some .cancelled⟩ ∧ lastFilling.lastFill 12 := by
  dsimp only [burst, State.settled, State.memoryCanonical, State.lastFill]; decide +kernel

/-- R104: MU sends the acknowledgement it owes with the last fill. -/
theorem test_fillBurst_last : after (exec (.fillBurst 12) lastFilling)
    (fun t => (ended 12 t, (t.link 3).muAck, (t.link 3).muOwesAck)) =
    some ((some .cancelled, 0, 128), true, false) := by decide +kernel

theorem witness_SegmentCommandsReplaceTheEntry :
    (let s := asking (filling 128 none) 0 .defineSegment { record 0 0x3FFF with count := 1 };
      s.settled ∧ s.takes .defineSegment 0 ∧ portOf 0 = s.managerPort ∧ (s.ctx 0).command.object.toNat = 0 ∧
        (s.ctx 0).command.counts 4096 ∧
        ((s.ctx 0).command.operand.extractLsb' 0 14).toNat + (s.ctx 0).command.count.toNat ≤ 16384) ∧
      (let s := asking board 0 .clearSegment (record 63);
        s.settled ∧ s.takes .clearSegment 0 ∧ portOf 0 = s.managerPort ∧ (s.ctx 0).command.object.toNat = 63) := by
  dsimp only [State.settled, State.takes, CommandRecord.counts]; decide +kernel

/-- The request of `c` by context 4 that names object `n` is taken. -/
abbrev inspects (c : Command) (n : BitVec 8) : Prop :=
  let s := asking board 4 c (record n)
  s.settled ∧ s.takes c 4 ∧ (s.ctx 4).command.object.toNat = n.toNat

theorem witness_InspectCommandsReport : inspects .inspectLock 63 ∧ inspects .inspectSegment 63 ∧
    inspects .inspectPort 3 ∧ inspects .inspectChannel 0 ∧
    (∃ b, (board.chan 0).binding = some b ∧ (b.senders.getLsbD (portOf 4).val = true ∨ b.receiver = portOf 4)) := by
  refine ⟨?_, ?_, ?_, ?_, ⟨⟨0b0010, 0, 0⟩, by decide +kernel⟩⟩ <;>
    dsimp only [inspects, State.settled, State.takes] <;> decide +kernel

/-! ## LU -/

/-- R40, R167: held by context 4, generation 1, lease 40. -/
theorem test_inspectLock : after (exec (.inspectLock 8) (asking board 8 .inspectLock (record 0))) (ended 8) =
    some (some .ok, 0x00280141, 0) := by decide +kernel

/-- A waiting ACQUIRE. -/
def waitRecord (object : BitVec 8) (p : Priority) (timeout : BitVec 16) : CommandRecord :=
  { record object with mode := .wait, priority := p, timeout := timeout }

/-- L0 of 11.2 with 13 waiting, NORMAL, without limit. -/
def oneWaits : State :=
  (standing board 13 (.waiting .lu)).modLock 0 fun k => { k with queue := [⟨13, .normal, 0⟩] }

/-- L0 of 11.2 with 6, URGENT and with one tick left, before 13. -/
def twoWait : State :=
  (standing (standing board 6 (.waiting .lu)) 13 (.waiting .lu)).modLock 0 fun k =>
    { k with queue := [⟨6, .urgent, 1⟩, ⟨13, .normal, 0⟩] }

/-- 11.2: the URGENT entry of 6 joins ahead of 13. -/
theorem test_acquire_parks : after (exec (.acquire 6) (asking oneWaits 6 .acquire (waitRecord 0 .urgent 2)))
    (fun t => ((t.lock 0).queue, (t.ctx 6).state)) =
    some ([⟨6, .urgent, 2⟩, ⟨13, .normal, 0⟩], .waiting .lu) := by decide +kernel

/-- R30, R34: the grant of a FREE lock with its mark set. -/
theorem test_acquire_free : after (exec (.acquire 8)
    ((asking board 8 .acquire (record 7)).modLock 7 fun k => { k with generation := 255, revoked := true, period := 2 }))
    (fun t => (ended 8 t, (t.ctx 8).result.priorRevoked, t.lock 7)) =
    some ((some .ok, 0, 0), true, ⟨0, 2, some 8, 0, 2, false, []⟩) := by decide +kernel

/-- 11.2: the RELEASE by 4 hands L0 to 6. -/
theorem test_release : after (exec (.release 4) (asking twoWait 4 .release (record 0 1)))
    (fun t => (ended 4 t, ended 6 t, (t.lock 0).queue, (t.lock 0).lease)) =
    some ((some .ok, 1, 1), (some .ok, 2, 1), [⟨13, .normal, 0⟩], 50) := by decide +kernel

/-- R36: generation 0 is not the current one. -/
theorem test_release_late : after (exec (.release 4) (asking twoWait 4 .release (record 0 0))) (ended 4) =
    some (some .late, 1, 2) := by decide +kernel

/-- R39: the lease is 50 again. -/
theorem test_renew : after (exec (.renew 4) (asking board 4 .renew (record 0 1)))
    (fun t => (ended 4 t, (t.lock 0).lease)) = some ((some .ok, 50, 0), 50) := by decide +kernel

/-- R41: SET LOCK of a held lock leaves its holder and lease. -/
theorem test_setLock : after (exec (.setLock 0) (asking board 0 .setLock (record 0 0x00070123)))
    (fun t => (ended 0 t, t.lock 0)) = some ((some .ok, 0, 0), ⟨0x123, 7, some 4, 1, 40, false, []⟩) := by decide +kernel

/-- R42, R50: L0 goes to 6 with PRIOR_REVOKED, and the record to P1. -/
theorem test_forceRelease : after (exec (.forceRelease (.whole 0)) (asking twoWait 0 .forceRelease (record 0)))
    (fun t => (ended 0 t, ended 6 t, (t.ctx 6).result.priorRevoked, (t.link 1).fromLu)) =
    some ((some .ok, 1, 1), (some .ok, 2, 1), true, [.record ⟨0, 1, .forced, 0⟩]) := by decide +kernel

/-- LU is within the step of a FORCE RELEASE of L0, and SU has meanwhile ended a period with epoch 9. -/
def forcing : State :=
  { asking twoWait 0 .forceRelease (record 0) with forcing := some 0, epoch := 9, luTicks := [⟨9, .start⟩] }

/-- R124: the record carries the epoch of the tick that still stands at LU. -/
theorem test_forceRelease_epoch : after (exec (.forceRelease (.ends 0)) forcing)
    (fun t => (ended 0 t, (t.link 1).fromLu, t.luTicks, t.forcing)) =
    some ((some .ok, 1, 1), [.record ⟨0, 1, .forced, 9⟩], [⟨9, .start⟩], none) := by decide +kernel

/-- A tick event with epoch 0A00h stands at LU, at a point of its step. -/
def ticking (s : State) (point : TickPoint) : State := { s with luTicks := [⟨0x0A00, point⟩] }

/-- R47: the tick ends the wait of 6. R48: it counts the lease of L0. -/
theorem test_luTick : after (exec .luTick (ticking twoWait .start))
    (fun t => (ended 6 t, (t.lock 0).queue, (t.lock 0).lease, t.luTicks)) =
    some ((some .timeout, 0, 0), [⟨13, .normal, 0⟩], 39, []) := by decide +kernel

/-- R47, and the tick event goes on standing (log 5). -/
theorem test_lockWaitTimeout : after (exec (.lockWaitTimeout 6) (ticking twoWait .start))
    (fun t => (ended 6 t, (t.lock 0).queue, (t.lock 0).lease, t.luTicks)) =
    some ((some .timeout, 0, 0), [⟨13, .normal, 0⟩], 40, [⟨0x0A00, .waits⟩]) := by decide +kernel

/-- L3 and L5 with lease 1, held by contexts of P2 and P0, and L4 with lease 9; 6 with one tick left before 13 at L5. -/
def manyDue : State :=
  (((twoWait.modLock 0 fun _ => Lock.reset).modLock 3 fun _ => ⟨0, 2, some 8, 20, 1, false, []⟩).modLock 4 fun _ =>
    ⟨0, 9, some 9, 1, 9, false, []⟩).modLock 5 fun _ =>
      ⟨0, 4, some 0, 7, 1, false, [⟨6, .urgent, 1⟩, ⟨13, .normal, 0⟩]⟩

/-- R46 to R48: the wait of 6 ends first, so that L5 goes to 13; L3 expires before L5. -/
theorem test_luTick_due : after (exec .luTick (ticking manyDue .start))
    (fun t => ([ended 6 t, ended 13 t], (t.lock 3).revoked, (t.lock 4).lease, (t.link 2).fromLu)) =
    some ([(some .timeout, 0, 0), (some .ok, 8, 0)], true, 8, [.record ⟨3, 20, .expired, 0x0A00⟩]) := by decide +kernel

/-- 11.3: L7 with lease 1 and 10 waiting, L0 FREE. -/
def expiring : State :=
  ((standing board 10 (.waiting .lu)).modLock 0 fun _ => Lock.reset).modLock 7 fun _ => ⟨0, 2, some 1, 20, 1, false, [⟨10, .normal, 0⟩]⟩

/-- 11.3, tick taken first: the record, and the grant to 10. -/
theorem test_leaseExpiry : after (exec (.leaseExpiry 7) (ticking expiring .start))
    (fun t => ((t.link 0).fromLu, ended 10 t, (t.ctx 10).result.priorRevoked, (t.lock 7).lease)) =
    some ([.record ⟨7, 20, .expired, 0x0A00⟩], (some .ok, 21, 0), true, 2) := by decide +kernel

/-- R43: the waiter is gone, and nothing is granted. -/
theorem test_lockWaitAbort : after (exec (.lockWaitAbort 6) (marked twoWait 6))
    (fun t => (ended 6 t, (t.lock 0).queue, (t.lock 0).holder, (t.ctx 6).result.abortLate)) =
    some ((some .aborted, 0, 0), [⟨13, .normal, 0⟩], some 4, false) := by decide +kernel

/-- The hypotheses that the statements about ACQUIRE share. -/
abbrev acquires (s : State) (cx : CtxNum) (l : LockNum) : Prop :=
  s.settled ∧ s.takes .acquire cx ∧ (s.ctx cx).command.selector ≠ .unused ∧ (s.ctx cx).command.object.toNat = l.val

theorem witness_AcquireOfAFreeLock : let s := asking board 8 .acquire (record 63)
    acquires s 8 63 ∧ (s.lock 63).consistent = true ∧ s.presentsKeyFor 8 (s.lock 63).key ∧
      (s.lock 63).holder = none := by
  dsimp only [acquires, State.settled, State.takes, State.presentsKeyFor]; decide +kernel

theorem witness_AcquireOfAHeldLock_protected : let s := asking board 8 .acquire (record 0)
    acquires s 8 0 ∧ ¬ s.presentsKeyFor 8 (s.lock 0).key := by
  dsimp only [acquires, State.settled, State.takes, State.presentsKeyFor]; decide +kernel

theorem witness_AcquireOfAHeldLock_self : let s := asking board 4 .acquire (record 0)
    acquires s 4 0 ∧ s.presentsKeyFor 4 (s.lock 0).key ∧ (s.lock 0).holder = some 4 := by
  dsimp only [acquires, State.settled, State.takes, State.presentsKeyFor]; decide +kernel

theorem witness_AcquireOfAHeldLock_busy : let s := asking board 6 .acquire (record 0)
    acquires s 6 0 ∧ s.presentsKeyFor 6 (s.lock 0).key ∧ (s.lock 0).holder = some 4 ∧ (4 : CtxNum) ≠ 6 ∧
      (s.ctx 6).command.mode = .nowait := by
  dsimp only [acquires, State.settled, State.takes, State.presentsKeyFor]; decide +kernel

theorem witness_AcquireOfAHeldLock_waits : let s := asking twoWait 15 .acquire (waitRecord 0 .urgent 0)
    acquires s 15 0 ∧ s.presentsKeyFor 15 (s.lock 0).key ∧ (s.lock 0).holder = some 4 ∧ (4 : CtxNum) ≠ 15 ∧
      (s.ctx 15).command.mode = .wait ∧ (s.lock 0).queue = [⟨6, .urgent, 1⟩] ++ [⟨13, .normal, 0⟩] ∧
      (∀ w ∈ [(⟨6, .urgent, 1⟩ : Waiter)], w.priority = .urgent) ∧
      (∀ w ∈ [(⟨13, .normal, 0⟩ : Waiter)], w.priority = .normal) := by
  dsimp only [acquires, State.settled, State.takes, State.presentsKeyFor]; decide +kernel

/-- The hypotheses of HolderReleasesAndRenews for L0, held by context 4. -/
abbrev holds (s : State) (c : Command) : Prop :=
  s.settled ∧ s.lockSound 0 ∧ (s.ctx 4).command.object.toNat = 0 ∧ (s.lock 0).holder = some 4 ∧
    (s.ctx 4).command.operand = (s.lock 0).generation.setWidth 32 ∧ s.takes c 4

theorem witness_HolderReleasesAndRenews :
    (holds (asking board 4 .release (record 0 1)) .release ∧ (board.lock 0).queue = []) ∧
      (holds (asking twoWait 4 .release (record 0 1)) .release ∧
        (twoWait.lock 0).queue = ⟨6, .urgent, 1⟩ :: [⟨13, .normal, 0⟩]) ∧
      holds (asking twoWait 4 .renew (record 0 1)) .renew := by
  dsimp only [holds, State.settled, State.lockSound, State.takes]; decide +kernel

/-- The hypotheses of LateAndNotHolder for L0, named by context `cx`. -/
abbrev names (s : State) (c : Command) (cx : CtxNum) : Prop :=
  (c = .release ∨ c = .renew) ∧ s.settled ∧ s.takes c cx ∧ (s.ctx cx).command.object.toNat = 0 ∧
    (s.ctx cx).command.operand.toNat ≤ 255

theorem witness_LateAndNotHolder :
    (names (asking board 4 .release (record 0 255)) .release 4 ∧ (255 : Word) ≠ (board.lock 0).generation.setWidth 32) ∧
      (names (asking board 5 .renew (record 0 1)) .renew 5 ∧ (1 : Word) = (board.lock 0).generation.setWidth 32 ∧
        ¬ ((board.lock 0).holder = none ∧ (board.lock 0).revoked = true) ∧ (board.lock 0).holder ≠ some 5) := by
  dsimp only [names, State.settled, State.takes]; decide +kernel

/-- The hypotheses of ManagerLockCommands. -/
abbrev manages (s : State) (c : Command) (l : LockNum) : Prop :=
  s.settled ∧ s.lockSound l ∧ portOf 0 = s.managerPort ∧ (s.ctx 0).command.object.toNat = l.val ∧ s.takes c 0

theorem witness_ManagerLockCommands : manages (asking board 0 .setLock (record 63)) .setLock 63 ∧
    (manages (asking board 0 .forceRelease (record 63)) .forceRelease 63 ∧ (board.lock 63).holder = none) ∧
    (manages (asking twoWait 0 .forceRelease (record 0)) .forceRelease 0 ∧ (twoWait.lock 0).holder = some 4) := by
  dsimp only [manages, State.settled, State.lockSound, State.takes]; decide +kernel

/-- The hypotheses of ManagerLockCommands for the end of the step, for lock `l`. -/
abbrev forces (s : State) (l : LockNum) : Prop :=
  s.settled ∧ s.lockSound l ∧ portOf 0 = s.managerPort ∧ (s.ctx 0).command.object.toNat = l.val ∧
    s.resetHeld = false ∧ s.forcing = some 0 ∧ (s.ctx 0).state = .pending .lu ∧ (s.ctx 0).command.code = 0x10

theorem witness_ManagerLockCommands_parts : (forces forcing 0 ∧ (forcing.lock 0).holder = some 4) ∧
    (let s : State := { asking board 0 .forceRelease (record 63) with forcing := some 0 };
      forces s 63 ∧ (s.lock 63).holder = none) ∧
    (let s := asking twoWait 0 .forceRelease (record 0);
      s.takes .forceRelease 0 ∧ ∃ t, exec (.forceRelease (.starts 0)) s = .next t) := by
  refine ⟨?_, ?_, ?_, _, rfl⟩ <;> dsimp only [forces, State.settled, State.lockSound, State.takes] <;> decide +kernel

theorem witness_TicksCountWaitsAndLeases :
    (let s := ticking oneWaits .start;
      s.resetHeld = false ∧ s.forcing = none ∧ s.luTicks = ⟨0x0A00, .start⟩ :: [] ∧ (∀ l, ∀ w ∈ (s.lock l).queue, w.ticks ≠ 1) ∧
        ∀ l, (s.lock l).holder ≠ none → (s.lock l).period ≠ 0 → (s.lock l).lease ≠ 1) ∧
      (let s : State := { board with cuTicks := 1 };
        s.resetHeld = false ∧ s.cuTicks = 0 + 1 ∧
          ∀ n, ∀ e ∈ (s.chan n).senders ++ (s.chan n).receivers, e.ticks ≠ 1) := by
  decide +kernel

/-- The hypotheses that the statements about a tick event share. -/
abbrev ticks (s : State) (point : TickPoint) : Prop :=
  s.settled ∧ s.locksConsistent ∧ s.resetHeld = false ∧ s.forcing = none ∧ s.luTicks = ⟨0x0A00, point⟩ :: []

theorem manyDue_ticks : ∀ point ∈ [TickPoint.start, .waits, .leases 4, .leases 5], ticks (ticking manyDue point) point := by
  intro point h
  simp only [List.mem_cons, List.not_mem_nil, or_false] at h
  obtain rfl | rfl | rfl | rfl := h <;> refine ⟨?_, ⟨?_, ?_, ?_, ?_⟩, ?_, ?_, ?_⟩ <;>
    try dsimp only [State.settled, State.waitersCoherent, State.inspectionSound, State.forcingSound]
  all_goals decide +kernel

/-- A timeout and two expiries are due, from every point of the step. -/
theorem witness_TicksCountWaitsAndLeases_due : (∀ point ∈ [TickPoint.start, .waits, .leases 4],
    ticks (ticking manyDue point) point) ∧ (manyDue.lock 3).runsOut = true ∧ (manyDue.lock 5).runsOut = true ∧
      (⟨6, .urgent, 1⟩ : Waiter) ∈ (manyDue.lock 5).queue :=
  ⟨fun p h => manyDue_ticks p (by simp at h ⊢; tauto), by decide +kernel, by decide +kernel, by decide +kernel⟩

theorem witness_LeaseExpires_due : (∀ point ∈ [TickPoint.start, .waits, .leases 4, .leases 5],
    ticks (ticking manyDue point) point ∧ point.visits 64 5 = true) ∧ (manyDue.lock 5).runsOut = true :=
  ⟨fun p h => ⟨manyDue_ticks p h, by revert p; decide +kernel⟩, by decide +kernel⟩

theorem witness_LeaseExpires : let s := ticking expiring .start
    s.settled ∧ s.resetHeld = false ∧ s.forcing = none ∧ s.lockSound 7 ∧ s.luTicks = ⟨0x0A00, .start⟩ :: [] ∧
      ((∀ k, ∀ w ∈ (s.lock k).queue, w.ticks = 0) ∧
        ∀ k, k < 7 → (s.lock k).holder = none ∨ (s.lock k).period = 0 ∨ (s.lock k).lease = 0) ∧
      (s.lock 7).holder = some 1 ∧ (s.lock 7).period ≠ 0 ∧ (s.lock 7).lease = 1 := by
  dsimp only [State.settled, State.lockSound]; decide +kernel

theorem witness_WaitsTimeOut_lock : let s := ticking twoWait .start
    s.settled ∧ s.resetHeld = false ∧ s.forcing = none ∧ s.luTicks = ⟨0x0A00, .start⟩ :: [] ∧
      (⟨6, .urgent, 1⟩ : Waiter) ∈ (s.lock 0).queue := by
  dsimp only [State.settled]; decide +kernel

/-! ## The tick generator -/

/-- R122, R167: the generator found is RUNNING at 1 ms; it then runs at 16 ms. -/
theorem test_setTick : after (exec (.setTick 0) (asking board 0 .setTick (record 0 0x13)))
    (fun t => (ended 0 t, t.period, t.periodCode)) = some ((some .ok, 0x11, 0), some 3, 3) := by decide +kernel

/-- R120: the epoch wraps, and both units are delivered the tick. -/
theorem test_periodEnd : after (exec .periodEnd { board with epoch := 0xFFFF })
    (fun t => (t.epoch, t.luTicks, t.cuTicks)) = some (0, [⟨0, .start⟩], 1) := by decide +kernel

theorem witness_TickGenerator :
    (let s := asking board 0 .setTick (record 0 0x13);
      s.settled ∧ s.takes .setTick 0 ∧ portOf 0 = s.managerPort) ∧ board.resetHeld = false ∧ board.period = some 1 ∧
      board.midStep .su = false := by
  dsimp only [State.settled, State.takes]; decide +kernel

/-! ## CU -/

/-- The record of a SEND or RECEIVE on C0. -/
def message (count : BitVec 13) (mode : Mode := .wait) (timeout : BitVec 16 := 0) : CommandRecord :=
  { CommandRecord.zero with mode := mode, count := count, timeout := timeout }

/-- The two messages of 11.4. -/
def first : Message := ⟨[1, 2, 3], 4, 1⟩
def second : Message := ⟨[8, 8, 8, 8, 8, 8, 8, 8], 6, 2⟩

/-- C0 of 11.4 with both slots FULL. -/
def bothFull : State := board.modChan 0 fun c => { c with counter := 2, slots := [first, second] }

/-- C0 of 11.4 with both slots FULL and contexts 5, with one tick left, and 4 waiting to send. -/
def sendersWait : State :=
  ((standing (standing bothFull 5 (.waiting .cu)) 4 (.waiting .cu)).modChan 0 fun c =>
    { c with senders := [⟨5, 1⟩, ⟨4, 0⟩] }).modCtx 4 fun x => { x with command := { message 1 with code := 0x11 } }

/-- C0 of 11.4, empty, with context 2 waiting to receive. -/
def receiverWaits : State :=
  (standing board 2 (.waiting .cu)).modChan 0 fun c => { c with receivers := [⟨2, 0⟩] }

/-- 11.4: the first SEND. -/
theorem test_send : after (exec (.send 4)
    ((asking board 4 .send (message 3)).modCtx 4 fun c => { c with buffer := ((c.buffer.put 0 1).put 1 2).put 2 3 }))
    (fun t => (ended 4 t, (t.chan 0).slots, (t.link 0).fromCu)) =
    some ((some .ok, 1, 3), [first], [⟨0, .data, true⟩]) := by decide +kernel

/-- R69: handed over to the waiting receiver. -/
theorem test_send_handover : after (exec (.send 4)
    ((asking receiverWaits 4 .send (message 1)).modCtx 4 fun c => { c with buffer := c.buffer.put 0 9 }))
    (fun t => (ended 2 t, (t.ctx 2).buffer.at 0, (t.chan 0).slots, (t.chan 0).receivers)) =
    some ((some .ok, 1, 0x0401), 9, [], []) := by decide +kernel

/-- 11.4: context 5 parks, with two ticks. -/
theorem test_send_parks : after (exec (.send 5) (asking bothFull 5 .send (message 2 .wait 2)))
    (fun t => ((t.ctx 5).state, (t.chan 0).senders)) = some (.waiting .cu, [⟨5, 2⟩]) := by decide +kernel

/-- 11.4: the RECEIVE with 4 waiting to send: slots (2, 6, 8) and (3, 4, 1). -/
theorem test_receive : after (exec (.receive 2) (asking
      ((standing sendersWait 5 .done).modChan 0 fun c => { c with senders := [⟨4, 0⟩] }) 2 .receive (message 0 .nowait)))
    (fun t => ([ended 2 t, ended 4 t], (t.ctx 2).buffer.at 2, (t.chan 0).slots)) =
    some ([(some .ok, 1, 0x0403), (some .ok, 3, 1)], 3, [second, ⟨[0], 4, 3⟩]) := by decide +kernel

/-- R74: EMPTY reports the counter. -/
theorem test_receive_empty : after (exec (.receive 2) (asking board 2 .receive (message 0 .nowait))) (ended 2) =
    some (some .empty, 0, 0) := by decide +kernel

/-- R79, R167: bound, two FULL slots, two senders waiting; AUX the counter. -/
theorem test_inspectChannel : after (exec (.inspectChannel 6) (asking sendersWait 6 .inspectChannel (record 0)))
    (ended 6) = some (some .ok, 0x00000209, 2) := by decide +kernel

/-- R80: SPACE to both sender ports. -/
theorem test_bindChannel : after (exec (.bindChannel 0) (asking board 0 .bindChannel (record 3 0x012300A3)))
    (fun t => (ended 0 t, (t.chan 3).binding, (t.link 0).fromCu, (t.link 1).fromCu)) =
    some ((some .ok, 0, 0), some ⟨0b0011, 2, 0x123⟩, [⟨3, .space, true⟩], [⟨3, .space, true⟩]) := by decide +kernel

/-- R82: two messages discarded, both waiters cancelled. -/
theorem test_unbindChannel : after (exec (.unbindChannel 0) (asking sendersWait 0 .unbindChannel (record 0 1)))
    (fun t => ([ended 0 t, ended 4 t, ended 5 t], t.chan 0)) =
    some ([(some .ok, 0, 2), (some .cancelled, 0, 0), (some .cancelled, 0, 0)], ⟨none, 2, [], [], []⟩) := by decide +kernel

/-- 11.4: the tick at which 5 times out. -/
theorem test_cuTick : after (exec .cuTick { sendersWait with cuTicks := 2 })
    (fun t => (ended 5 t, (t.chan 0).senders, t.cuTicks)) = some ((some .timeout, 0, 0), [⟨4, 0⟩], 1) := by
  decide +kernel

/-- R76, and the tick event goes on standing (log 5). -/
theorem test_channelWaitTimeout : after (exec (.channelWaitTimeout 5) { sendersWait with cuTicks := 2 })
    (fun t => (ended 5 t, (t.chan 0).senders, t.cuTicks)) = some ((some .timeout, 0, 0), [⟨4, 0⟩], 2) := by
  decide +kernel

/-- R78: the entry leaves, and no message moves. -/
theorem test_channelWaitAbort : after (exec (.channelWaitAbort 4) (marked sendersWait 4))
    (fun t => (ended 4 t, (t.chan 0).senders, (t.chan 0).slots)) =
    some ((some .aborted, 0, 0), [⟨5, 1⟩], [first, second]) := by decide +kernel

theorem witness_TicksCountWaitsAndLeases_channel : let s : State := { sendersWait with cuTicks := 1 }
    s.settled ∧ s.locksConsistent ∧ s.resetHeld = false ∧ s.cuTicks = 0 + 1 ∧
      (⟨5, 1⟩ : WaitEntry) ∈ (s.chan 0).senders ++ (s.chan 0).receivers := by
  dsimp only [State.settled, State.locksConsistent, State.waitersCoherent, State.inspectionSound, State.forcingSound]
  decide +kernel

/-- A tick at LU and one at CU, with timeouts and expiries due at both: each part changes its table. -/
def partsDue : State :=
  let s := (standing (standing manyDue 5 (.waiting .cu)) 4 (.waiting .cu)).modChan 0 fun c =>
    { c with counter := 2, slots := [first, second], senders := [⟨5, 1⟩, ⟨4, 0⟩] }
  { ticking s .start with cuTicks := 1 }

theorem witness_TickStepTakenInParts : partsDue.settled ∧ partsDue.locksConsistent ∧
    (partsDue.luTicks ≠ [] ∧ ∃ t, exec (.lockWaitTimeout 6) partsDue = .next t ∧ t.locks ≠ partsDue.locks) ∧
      (partsDue.luTicks ≠ [] ∧ ∃ t, exec (.leaseExpiry 5) partsDue = .next t ∧ t.locks ≠ partsDue.locks) ∧
      (partsDue.cuTicks ≠ 0 ∧ ∃ t, exec (.channelWaitTimeout 5) partsDue = .next t ∧ t.channels ≠ partsDue.channels) := by
  refine ⟨?_, ⟨?_, ?_, ?_, ?_⟩, ⟨?_, _, rfl, ?_⟩, ⟨?_, _, rfl, ?_⟩, ⟨?_, _, rfl, ?_⟩⟩ <;>
    try dsimp only [State.settled, State.waitersCoherent, State.inspectionSound, State.forcingSound]
  all_goals decide +kernel

theorem witness_WaitsTimeOut_channel : let s : State := { sendersWait with cuTicks := 1 }
    s.settled ∧ s.resetHeld = false ∧ s.cuTicks ≠ 0 ∧
      (⟨5, 1⟩ : WaitEntry) ∈ (s.chan 0).senders ++ (s.chan 0).receivers := by
  dsimp only [State.settled]; decide +kernel

/-- The hypotheses that the statements about SEND share, for C0. -/
abbrev sends (s : State) (cx : CtxNum) : Prop :=
  s.settled ∧ s.takes .send cx ∧ (s.ctx cx).command.object.toNat = 0 ∧ (s.ctx cx).command.counts 16 ∧
    (s.ctx cx).command.selector ≠ .unused ∧ (s.chan 0).binding = some ⟨0b0010, 0, 0⟩ ∧
    ((0b0010 : BitVec 4).getLsbD (portOf cx).val = true) ∧ s.presentsKeyFor cx 0

/-- The hypotheses that the statements about RECEIVE share, for C0. -/
abbrev receives (s : State) (cx : CtxNum) : Prop :=
  s.settled ∧ s.takes .receive cx ∧ (s.ctx cx).command.object.toNat = 0 ∧
    (s.ctx cx).command.selector ≠ .unused ∧ (s.chan 0).binding = some ⟨0b0010, 0, 0⟩ ∧ 0 = portOf cx ∧
    s.presentsKeyFor cx 0

theorem witness_SendIsAccepted :
    (let s := asking board 4 .send (message 16);
      sends s 4 ∧ s.channelSound 0 ∧ (s.chan 0).slots.length < 2 ∧ (s.chan 0).receivers = []) ∧
      (let s := asking receiverWaits 4 .send (message 1);
        sends s 4 ∧ s.channelSound 0 ∧ (s.chan 0).slots.length < 2 ∧ (s.chan 0).receivers = ⟨2, 0⟩ :: []) := by
  dsimp only [sends, State.settled, State.takes, State.channelSound, State.presentsKeyFor, CommandRecord.counts]
  decide +kernel

theorem witness_ChannelNotReady_send :
    (let s := asking bothFull 5 .send (message 1 .nowait);
      sends s 5 ∧ (s.chan 0).slots.length = 2 ∧ (s.ctx 5).command.mode = .nowait) ∧
      (let s := asking bothFull 5 .send (message 16 .wait);
        sends s 5 ∧ (s.chan 0).slots.length = 2 ∧ (s.ctx 5).command.mode = .wait) := by
  dsimp only [sends, State.settled, State.takes, State.presentsKeyFor, CommandRecord.counts]
  decide +kernel

theorem witness_ChannelNotReady_receive :
    (let s := asking board 2 .receive (message 0 .nowait);
      receives s 2 ∧ (s.chan 0).slots = [] ∧ (s.ctx 2).command.mode = .nowait) ∧
      (let s := asking board 2 .receive (message 0 .wait);
        receives s 2 ∧ (s.chan 0).slots = [] ∧ (s.ctx 2).command.mode = .wait) := by
  dsimp only [receives, State.settled, State.takes, State.presentsKeyFor]
  decide +kernel

theorem witness_ReceiveDeliversTheOldest :
    (let s := asking bothFull 2 .receive (message 0);
      receives s 2 ∧ s.channelSound 0 ∧ (s.chan 0).slots = first :: [second] ∧ (s.chan 0).senders = []) ∧
      (let s := asking sendersWait 2 .receive (message 0);
        receives s 2 ∧ s.channelSound 0 ∧ (s.chan 0).slots = first :: [second] ∧
          (s.chan 0).senders = ⟨5, 1⟩ :: [⟨4, 0⟩]) := by
  dsimp only [receives, State.settled, State.takes, State.channelSound, State.presentsKeyFor]; decide +kernel

/-- The hypotheses that the clauses of ChannelCommandsAreChecked share. -/
abbrev checks (s : State) (c : Command) (cx : CtxNum) (n : ChanNum) : Prop :=
  s.settled ∧ s.takes c cx ∧ ¬ s.outOfRange c (s.ctx cx).command ∧ (s.ctx cx).command.object.toNat = n.val

theorem witness_ChannelCommandsAreChecked :
    (checks (asking board 4 .receive (record 15)) .receive 4 15 ∧ (board.chan 15).binding = none) ∧
      (checks (asking board 8 .send (message 1)) .send 8 0 ∧ (0b0010 : BitVec 4).getLsbD (portOf 8).val ≠ true) ∧
      (let s := asking (board.modChan 0 fun c => { c with binding := some ⟨0b0010, 0, 7⟩ }) 4 .send (message 1);
        checks s .send 4 0 ∧ (s.chan 0).binding = some ⟨0b0010, 0, 7⟩ ∧
          (0b0010 : BitVec 4).getLsbD (portOf 4).val = true ∧ ¬ s.presentsKeyFor 4 7) ∧
      (let s := asking board 8 .inspectChannel (record 0);
        checks s .inspectChannel 8 0 ∧ portOf 8 ≠ s.managerPort ∧
          ((s.chan 0).binding.all fun b =>
            !b.senders.getLsbD (portOf 8).val && decide (b.receiver ≠ portOf 8)) = true) := by
  dsimp only [checks, State.settled, State.takes, State.outOfRange, State.presentsKeyFor, CommandRecord.counts]
  decide +kernel

/-- The hypotheses that the clauses of BindAndUnbind share. -/
abbrev binds (s : State) (c : Command) (n : ChanNum) : Prop :=
  s.settled ∧ portOf 0 = s.managerPort ∧ (s.ctx 0).command.object.toNat = n.val ∧ s.takes c 0

theorem witness_BindAndUnbind :
    (binds (asking board 0 .bindChannel (record 15 0x37)) .bindChannel 15 ∧
        (0x37 : Word).extractLsb' 0 4 ≠ 0 ∧ ((0x37 : Word).extractLsb' 0 4).getLsbD 3 = false ∧
        (0x37 : Word).extractLsb' 4 2 = 3 ∧ (board.chan 15).binding = none ∧
        binds (asking board 0 .bindChannel (record 0 0x37)) .bindChannel 0 ∧
        (board.chan 0).binding = some ⟨0b0010, 0, 0⟩ ∧
        binds (asking board 0 .unbindChannel (record 15)) .unbindChannel 15 ∧
        (binds (asking board 0 .unbindChannel (record 0)) .unbindChannel 0 ∧ (board.chan 0).slots = [] ∧
          (board.chan 0).senders = [] ∧ (board.chan 0).receivers = []) ∧
        binds (asking bothFull 0 .unbindChannel (record 0 2)) .unbindChannel 0 ∧ (bothFull.chan 0).slots ≠ [] ∧
        (2 : Word).getLsbD 0 = false) := by
  dsimp only [binds, State.settled, State.takes]; decide +kernel

theorem witness_ForcedUnbind : let s := asking sendersWait 0 .unbindChannel (record 0 1)
    binds s .unbindChannel 0 ∧ s.channelSound 0 ∧ (s.chan 0).binding = some ⟨0b0010, 0, 0⟩ ∧ (s.chan 0).slots ≠ [] ∧
      (s.ctx 0).command.operand.getLsbD 0 = true := by
  dsimp only [binds, State.settled, State.takes, State.channelSound]; decide +kernel

/-! ## SU -/

/-- 11.1: the keys of P1 set, the old pair returned. -/
theorem test_setPortKeys : after (exec (.setPortKeys 0) (asking board 0 .setPortKeys (record 1 0x02340111)))
    (fun t => (ended 0 t, t.keyPair 1)) = some ((some .ok, 0x5C1, 0), ⟨0x111, 0x234⟩) := by decide +kernel

/-- 11.6: an order is sent to P2. -/
theorem test_evictPort : after (exec (.evictPort 0) (asking board 0 .evictPort (record 2)))
    (fun t => (ended 0 t, (t.link 2).evictions, (t.port 2).state)) = some ((some .ok, 0, 0), 1, .online) := by
  decide +kernel

/-- R127, R167: P1 ONLINE, contexts 4 and 6 DONE and PENDING, one lock held. -/
theorem test_inspectPort : after (exec (.inspectPort 0 .whole)
    (asking (standing (standing board 4 .done) 6 (.pending .mu)) 0 .inspectPort (record 1))) (ended 0) =
    some (some .ok, 0x00001041, 1) := by decide +kernel

/-- P2 is about to be OFFLINE: all but one acknowledgement have come, and context 8 is DONE. SU has begun the INSPECT PORT
of context 0 and has read the contexts of P2. -/
def inspecting : State :=
  let s := asking (standing board 8 .done) 0 .inspectPort (record 2)
  { (s.modPort 2 fun i => { i with state := .withdrawing ⟨true, false, true, true⟩ false }).modLink 2 fun k =>
      { k with fromLu := [.acknowledge] } with
    inspection := some ⟨0, 2, none, some (s.portContexts 2), some 0⟩ }

/-- R127: the port is reported OFFLINE with a context in the state it held before the withdrawal completed. -/
theorem test_inspectPort_items : (after (exec (.withdrawalAck 2 .lu) inspecting) fun s =>
    ((s.ctx 8).state, after (exec (.inspectPort 0 (.item .portState)) s) (ended 0))) =
    some (.idle, some (some .ok, 0x00000040, 0)) := by decide +kernel

theorem witness_InspectPortItemByItem :
    inspects .inspectPort 3 ∧ (let s := { inspecting with ports := board.ports };
      s.settled ∧ (s.ctx 0).command.object.toNat = 2 ∧ s.resetHeld = false ∧
        s.inspection = some ⟨0, 2, none, some (inspecting.portContexts 2), some 0⟩ ∧ (s.ctx 0).state = .pending .su ∧
        (s.ctx 0).command.code = 0x19) ∧
      (let g : Inspection := ⟨0, 2, none, some (inspecting.portContexts 2), none⟩;
        g.lacks .portState ∧ g.lacks .locksHeld) ∧
      (let g : Inspection := ⟨0, 2, none, some (inspecting.portContexts 2), some 0⟩;
        g.lacks .portState ∧ ∀ j, j ≠ .portState → ¬ g.lacks j) := by
  refine ⟨?_, ?_, ?_, ?_⟩
  · dsimp only [inspects, State.settled, State.takes]; decide +kernel
  · dsimp only [State.settled]; decide +kernel
  · exact ⟨rfl, rfl⟩
  · exact ⟨rfl, fun j hj => by cases j <;> simp_all [Inspection.lacks]⟩

theorem witness_SetPortKeysAndEvictPort :
    (let s := asking board 0 .setPortKeys (record 3);
      s.settled ∧ portOf 0 = s.managerPort ∧ (s.ctx 0).command.object.toNat = 3 ∧ s.takes .setPortKeys 0) ∧
      (let s := asking board 0 .evictPort (record 3);
        s.settled ∧ portOf 0 = s.managerPort ∧ (s.ctx 0).command.object.toNat = 3 ∧ s.takes .evictPort 0 ∧
          (3 : Port) ≠ s.managerPort) := by
  dsimp only [State.settled, State.takes]; decide +kernel

/-! ## Notices -/

/-- R16: taken before the request. -/
theorem test_abortNoticePending : after (exec (.abortNoticePending 5) (marked (asking board 5 .send (message 1)) 5))
    (fun t => (ended 5 t, (t.ctx 5).state, (t.ctx 5).abort)) = some ((some .aborted, 0, 0), .done, none) := by
  decide +kernel

theorem witness_AbortOfPendingAndOfFill :
    (let s := marked (asking board 5 .send (message 1)) 5;
      s.settled ∧ s.resetHeld = false ∧ (s.ctx 5).state = .pending .cu ∧ (s.ctx 5).abort ≠ none ∧
        s.midStep .cu = false) ∧
      (let s := marked (filling 64 none) 12;
        s.resetHeld = false ∧ (s.ctx 12).state = .active ⟨0, 0, 200, 64, none⟩ ∧ (s.ctx 12).abort = some ⟨0, false⟩) := by
  dsimp only [State.settled]; decide +kernel

theorem witness_AbortOfAWait :
    (let s := marked twoWait 13;
      s.settled ∧ s.resetHeld = false ∧ (s.ctx 13).state = .waiting .lu ∧ (s.ctx 13).abort ≠ none ∧
        s.midStep .lu = false) ∧
      (let s := marked sendersWait 4;
        s.settled ∧ s.resetHeld = false ∧ (s.ctx 4).state = .waiting .cu ∧ (s.ctx 4).abort ≠ none ∧
          s.midStep .cu = false) := by
  dsimp only [State.settled]; decide +kernel

/-- A board on which the withdrawal of `p` has begun. -/
def withdrawing (s : State) (p : Port) (mark : Bool := false) : State := s.beginWithdrawal p mark

/-- R104: a pending request is cancelled, and the acknowledgement waits for the fill. -/
theorem test_muWithdrawalNotice : after (exec (.muWithdrawalNotice 3 .take)
    (withdrawing (asking (filling 64 none) 13 .read (data 0)) 3))
    (fun t => (ended 13 t, (t.ctx 12).state, (t.link 3).muAck, (t.link 3).muOwesAck)) =
    some ((some .cancelled, 0, 0), .active ⟨0, 0, 200, 64, some .cancelled⟩, false, true) := by decide +kernel

/-- 11.6: L4 held by 8 with 11, URGENT, and 5 waiting; L9 held by 10. -/
def evicted : State :=
  (((standing (standing board 11 (.waiting .lu)) 5 (.waiting .lu)).modLock 4 fun _ =>
    ⟨0, 0, some 8, 7, 0, false, [⟨11, .urgent, 0⟩, ⟨5, .normal, 0⟩]⟩).modLock 9 fun _ =>
      ⟨0, 0, some 10, 1, 0, false, []⟩).beginWithdrawal 2 false

/-- 11.6: LU takes its notice. -/
theorem test_luWithdrawalNotice : after (exec (.luWithdrawalNotice 2 .take) { evicted with epoch := 0x0150 })
    (fun t => ([ended 11 t, ended 5 t], (t.lock 9).revoked, (t.link 2).fromLu)) =
    some ([(some .cancelled, 0, 0), (some .ok, 8, 0)], true,
      [.record ⟨4, 7, .withdrawn, 0x0150⟩, .record ⟨9, 1, .withdrawn, 0x0150⟩, .acknowledge]) := by decide +kernel

/-- R84: both waiters of P1 go. -/
theorem test_cuWithdrawalNotice : after (exec (.cuWithdrawalNotice 1 .take) (withdrawing sendersWait 1))
    (fun t => (ended 4 t, ended 5 t, (t.chan 0).senders, (t.link 1).cuAck)) =
    some ((some .cancelled, 0, 0), (some .cancelled, 0, 0), [], true) := by decide +kernel

/-- R128: a pending request goes. -/
theorem test_suWithdrawalNotice : after (exec (.suWithdrawalNotice 1 .take)
    (withdrawing (asking board 4 .inspectPort (record 0)) 1)) (fun t => (ended 4 t, (t.link 1).suAck)) =
    some ((some .cancelled, 0, 0), true) := by decide +kernel

theorem witness_MuWithdrawalNotice :
    (let s := withdrawing board 3;
      s.resetHeld = false ∧ (s.link 3).notices.get .mu = .inTransit ∧ (s.link 3).notices.get .su = .inTransit) ∧
      (let s := withdrawing (filling 64 none) 3;
        s.settled ∧ s.takesNotice 3 .mu ∧ ∃ c : Fin 4, (s.ctx (ctxOf 3 c)).state.isActive = true) ∧
      (let s := withdrawing board 3;
        s.settled ∧ s.takesNotice 3 .mu ∧ ¬ ∃ c : Fin 4, (s.ctx (ctxOf 3 c)).state.isActive = true) := by
  dsimp only [State.settled, State.takesNotice]; decide +kernel

theorem witness_LuWithdrawalNotice : evicted.settled ∧ evicted.locksConsistent ∧ evicted.takesNotice 2 .lu := by
  dsimp only [State.settled, State.takesNotice, State.locksConsistent, State.waitersCoherent, State.inspectionSound,
    State.forcingSound]
  decide +kernel

theorem witness_CuAndSuWithdrawalNotice : let s := withdrawing sendersWait 1
    s.settled ∧ s.takesNotice 1 .cu ∧ s.takesNotice 1 .su := by
  dsimp only [State.settled, State.takesNotice]; decide +kernel

/-! ## Messages at a PI -/

/-- R126: an order that finds the port ONLINE. -/
theorem test_evictionOrder : after (exec (.evictionOrder 2) (board.modLink 2 fun k => { k with evictions := 1 }))
    (fun t => ((t.port 2).state, (t.link 2).notices.lu, (t.link 2).evictions)) =
    some (.withdrawing ⟨false, false, false, false⟩ false, .inTransit, 0) := by decide +kernel

/-- P2 with all but MU's acknowledgement, which is under way, and context 8 DONE. -/
def nearlyGone (mark : Bool) : State :=
  ((standing board 8 .done).modPort 2 fun i =>
    { i with state := .withdrawing ⟨false, true, true, true⟩ mark, dataFlags := 1, enables1 := 5 }).modLink 2 fun k =>
      { k with muAck := true }

/-- 11.6: the completion; the enables stay. -/
theorem test_withdrawalAck : after (exec (.withdrawalAck 2 .mu) (nearlyGone false))
    (fun t => ((t.port 2).state, (t.ctx 8).state, (t.port 2).dataFlags, (t.port 2).enables1)) =
    some (.offline, .idle, 0, 5) := by decide +kernel

/-- R142: with the mark, the enables clear too. -/
theorem test_withdrawalAck_mark : after (exec (.withdrawalAck 2 .mu) (nearlyGone true))
    (fun t => ((t.port 2).state, (t.port 2).enables1)) = some (.offline, 0) := by decide +kernel

theorem witness_WithdrawalAcknowledged :
    ((nearlyGone true).resetHeld = false ∧
      ((nearlyGone true).port 2).state = .withdrawing ⟨false, true, true, true⟩ true ∧
      ((nearlyGone true).link 2).ackNext .mu ∧
      (∀ c, ((nearlyGone true).ctx (ctxOf 2 c)).state = .idle ∨ ((nearlyGone true).ctx (ctxOf 2 c)).state = .done)) ∧
      ((nearlyGone false).port 2).state = .withdrawing ⟨false, true, true, true⟩ false ∧
      ((nearlyGone false).link 2).ackNext .mu ∧
      (let s := (withdrawing board 2).modLink 2 fun k => { k with fromLu := [.acknowledge] };
        s.resetHeld = false ∧ (s.port 2).state = .withdrawing ⟨false, false, false, false⟩ false ∧
          (s.link 2).ackNext .lu) := by
  dsimp only [Links.ackNext]; decide +kernel

/-- 11.3: the record of L7, and LEASE_LOST. -/
theorem test_revocationRecordArrival : after (exec (.revocationRecordArrival 0)
    (board.modLink 0 fun k => { k with fromLu := [.record ⟨7, 20, .expired, 0x0A00⟩] }))
    (fun t => ((t.port 0).log, (t.port 0).leaseLost, (t.port 0).overflow)) =
    some ([⟨7, 20, .expired, 0x0A00⟩], true, false) := by decide +kernel

/-- R58: the ninth record is dropped. -/
theorem test_revocationRecordArrival_full : after (exec (.revocationRecordArrival 0)
    ((board.modLink 0 fun k => { k with fromLu := [.record ⟨7, 20, .expired, 0⟩] }).modPort 0 fun i =>
      { i with log := List.replicate 8 ⟨1, 1, .forced, 0⟩ }))
    (fun t => ((t.port 0).log.length, (t.port 0).leaseLost, (t.port 0).overflow)) = some (8, true, true) := by
  decide +kernel

/-- R75: DATA of C3. -/
theorem test_flagSettingArrival : after (exec (.flagSettingArrival 0 3)
    (board.modLink 0 fun k => { k with fromCu := [⟨3, .data, true⟩] })) (fun t => (t.port 0).dataFlags) =
    some 0b1000 := by decide +kernel

/-- R82: SPACE of C15; the other flags stay. -/
theorem test_flagClearingArrival : after (exec (.flagClearingArrival 0 15)
    ((board.modLink 0 fun k => { k with fromCu := [⟨3, .data, true⟩, ⟨15, .space, false⟩] }).modPort 0 fun i =>
      { i with spaceFlags := 0xFFFF })) (fun t => ((t.port 0).spaceFlags, (t.link 0).fromCu)) =
    some (0x7FFF, [⟨3, .data, true⟩]) := by decide +kernel

theorem witness_RecordsAndFlagsArrive :
    ((board.modLink 0 fun k => { k with fromLu := [.record ⟨7, 20, .expired, 0⟩] }).link 0).fromLu =
      .record ⟨7, 20, .expired, 0⟩ :: [] ∧ board.resetHeld = false ∧
      (let s := board.modLink 0 fun k => { k with fromCu := [⟨3, .data, true⟩, ⟨15, .space, false⟩] };
        (s.link 0).fromCu = [⟨3, .data, true⟩] ++ ⟨15, .space, false⟩ :: [] ∧
          ∀ x ∈ [(⟨3, .data, true⟩ : CuMessage)], x.channel ≠ 15) := by
  decide +kernel

/-! ## The window -/

/-- R7, R12: ACQUIRE goes to LU. -/
theorem test_go : after (exec (.go 5) (board.modCtx 5 fun c => { c with command := { c.command with code := 0x0B } }))
    (fun t => (t.ctx 5).state) = some (.pending .lu) := by decide +kernel

/-- R12: an unknown code. -/
theorem test_go_unknown : after (exec (.go 5) board) (fun t => ((t.ctx 5).state, ended 5 t)) =
    some (.done, some .badCommand, 0, 0) := by decide +kernel

/-- R8: the result is cleared. -/
theorem test_ack : after (exec (.ack 5) ((standing board 5 .done).modCtx 5 fun c =>
    { c with result := ⟨some .ok, 3, 4, true, true, true⟩ })) (fun t => ((t.ctx 5).state, ended 5 t)) =
    some (.idle, none, 0, 0) := by decide +kernel

/-- R9: the marker of a waiter. -/
theorem test_abort : after (exec (.abort 6) twoWait) (fun t => ((t.ctx 6).state, (t.ctx 6).marker)) =
    some (.waiting .lu, true) := by decide +kernel

/-- R9: too late. -/
theorem test_abort_done : after (exec (.abort 6) (standing board 6 .done)) (fun t => (t.ctx 6).result.abortLate) =
    some true := by decide +kernel

/-- 11.1: SPACE of C0 is set at P1 by the attach computation. -/
theorem test_attach : after (exec (.attach 1) (board.modPort 1 fun i => { i with state := .offline }))
    (fun t => ((t.port 1).state, (t.port 1).spaceFlags, (t.port 1).dataFlags)) = some (.online, 1, 0) := by
  decide +kernel

/-- 11.1: P1's ATTACH in INIT. -/
theorem test_attach_refused : after (exec (.attach 1) State.reset)
    (fun t => ((t.port 1).state, (t.port 1).windowError, t.windowRead 1 0x0B)) =
    some (.offline, true, 0x0205) := by decide +kernel

/-- R138: a notice goes to every unit. -/
theorem test_detach : after (exec (.detach 1) board) (fun t => ((t.port 1).state, (t.link 1).notices)) =
    some (.withdrawing ⟨false, false, false, false⟩ false, ⟨.inTransit, .inTransit, .inTransit, .inTransit⟩) := by
  decide +kernel

/-- R142: of an OFFLINE port, at once. -/
theorem test_portReset : after (exec (.portReset 1) (board.modPort 1 fun i =>
    { i with state := .offline, enables0 := 5, leaseLost := true }))
    (fun t => ((t.port 1).enables0, (t.port 1).leaseLost)) = some (0, false) := by decide +kernel

/-- R4: the access after word 15 reaches word 0. -/
theorem test_dataRead : after (exec (.dataRead (.data 5) .whole)
    (board.modCtx 5 fun c => { c with buffer := c.buffer.put 15 0xAB, index := 15 }))
    (fun t => ((t.port 1).sent, (t.ctx 5).index)) = some (some 0xAB, 0) := by decide +kernel

/-- R158, R163: a read word at STATE of a context WAITING at LU, and the frame's next address. -/
theorem test_dataRead_register : after (exec (.dataRead (.register 1 0x35) .whole)
    ((standing board 5 (.waiting .lu)).modPort 1 fun i => { i with frame := .inFrame .read 0x35 }))
    (fun t => ((t.port 1).sent, (t.port 1).frame)) = some (some 0x23, .inFrame .read 0x36) := by decide +kernel

/-- R4: a written word, and the index. -/
theorem test_dataWrite : after (exec (.dataWrite 5 0xCD) board)
    (fun t => ((t.ctx 5).buffer.at 0, (t.ctx 5).index)) = some (0xCD, 1) := by decide +kernel

/-- R11: refused in a busy context, at DATA of context 1: 39h. -/
theorem test_dataWrite_locked : after (exec (.dataWrite 5 0xCD) (standing board 5 (.waiting .lu)))
    (fun t => ((t.ctx 5).buffer.at 0, (t.ctx 5).index, t.windowRead 1 0x0B)) = some (0, 0, 0x3903) := by decide +kernel

/-- R59, R162: lock 7, EXPIRED, generation 20, epoch 0A00h. -/
theorem test_logRead : after (exec (.logRead 0 .whole) (board.modPort 0 fun i => { i with log := [⟨7, 20, .expired, 0x0A00⟩] }))
    (fun t => ((t.port 0).sent, (t.port 0).log)) = some (some 0x0A001447, []) := by decide +kernel

/-- R59: a port reset between the bits of a LOG word; the word is still sent, and a record that comes after the clearing
stays. -/
theorem test_logRead_cleared : after (((board.modPort 0 fun i =>
    { i with state := .offline, frame := .inFrame .read 0x0C, log := [⟨7, 20, .expired, 0x0A00⟩] }).latchWord 0
      ⟨.log true, 0x0A001447⟩ |>.portResetClearing 0 |>.modPort 0 fun i =>
        { i with log := [⟨1, 2, .forced, 0⟩] }) |> exec (.logRead 0 .lastBit))
    (fun t => ((t.port 0).sent, (t.port 0).log)) = some (some 0x0A001447, [⟨1, 2, .forced, 0⟩]) := by decide +kernel

/-- R60. -/
theorem test_overflowClear : after (exec (.overflowClear 0) (board.modPort 0 fun i => { i with overflow := true }))
    (fun t => (t.port 0).overflow) = some false := by decide +kernel

/-- R61: set again while the log holds a record. -/
theorem test_leaseLostClear : after (exec (.leaseLostClear 0) (board.modPort 0 fun i =>
    { i with leaseLost := true, log := [⟨7, 20, .expired, 0⟩] })) (fun t => (t.port 0).leaseLost) = some true := by
  decide +kernel

/-- 11.1: the cause stays. -/
theorem test_windowErrorClear : after (exec (.windowErrorClear 1) (board.modPort 1 fun i =>
    { i with windowError := true, errorCause := .attachRefused, errorAddr := 2 }))
    (fun t => ((t.port 1).windowError, t.windowRead 1 0x0B)) = some (false, 0x0205) := by decide +kernel

/-- 11.4: a slot is FULL, so DATA is set again; the flag of C1 clears. -/
theorem test_dataFlagClear : after (exec (.dataFlagClear 0 3) (bothFull.modPort 0 fun i => { i with dataFlags := 7 }))
    (fun t => (t.port 0).dataFlags) = some 5 := by decide +kernel

/-- 11.4: no slot is EMPTY, so SPACE clears. -/
theorem test_spaceFlagClear : after (exec (.spaceFlagClear 1 1) (bothFull.modPort 1 fun i => { i with spaceFlags := 1 }))
    (fun t => (t.port 1).spaceFlags) = some 0 := by decide +kernel

/-- R150: six bits of EVENT ENABLES 0. -/
theorem test_eventEnablesWrite : after (exec (.eventEnablesWrite 0 0 0xFFFFFFFF) board)
    (fun t => (t.port 0).enables0) = some 0x3F := by decide +kernel

/-- R151, R152: active high, with no flag set. -/
theorem test_intConfigWrite : after (exec (.intConfigWrite 0 3) board)
    (fun t => ((t.port 0).masterEnable, (t.port 0).polarity, t.intLevel 0)) = some (true, .activeHigh, false) := by
  decide +kernel

/-- R163: COMMAND with WAIT, URGENT and OVERRIDE. -/
theorem test_registerWrite : after (exec (.registerWrite 1 (.address 0x30) 0xFFFFFB0B) board)
    (fun t => ((t.ctx 5).command, t.windowRead 1 0x30)) =
    some ({ CommandRecord.zero with code := 0x0B, mode := .wait, priority := .urgent, selector := .override }, 0xB0B) := by
  decide +kernel

/-- R158: the word of a frame goes to its current address, and the address moves on. -/
theorem test_registerWrite_frame : after (exec (.registerWrite 1 .current 0x77)
    (board.modPort 1 fun i => { i with frame := .inFrame .write 0x32 }))
    (fun t => ((t.ctx 5).command.operand, (t.port 1).frame)) = some (0x77, .inFrame .write 0x33) := by decide +kernel

/-- R155: data input is ignored in a read frame. -/
theorem test_registerWrite_readFrame : after (exec (.registerWrite 1 (.address 0x32) 0x77)
    (board.modPort 1 fun i => { i with frame := .inFrame .read 0x32 }))
    (fun t => ((t.ctx 5).command.operand, (t.port 1).frame)) = some (0, .inFrame .read 0x32) := by decide +kernel

/-- R168: 0 in the header byte period; then the word of LOG between its bits. -/
theorem test_dataOutput : (after (exec (.headerByte 1 .chipSelect) board) (fun t => t.dataOutput 1),
    after (exec (.logRead 1 .firstBit) (board.modPort 1 fun i =>
      { i with frame := .inFrame .read 0x0C, log := [⟨7, 20, .expired, 0x0A00⟩] })) (fun t => t.dataOutput 1),
    board.dataOutput 1) = (some (.level false), some (.sending 0x0A001447), .highImpedance) := by decide +kernel

/-- R168: 0 between the header byte of a read frame and its first word, then the last bit of the word sent: IDENT, then
CHIP STATUS. -/
theorem test_dataOutput_held : (after (exec (.headerByte 1 (.byte 0x80)) board) (fun t => t.dataOutput 1),
    [0x00, 0x01].map fun a => after (exec (.dataRead (.register 1 a) .whole)
      (board.modPort 1 fun i => { i with frame := .inFrame .read a })) (fun t => t.dataOutput 1)) =
    (some (.level false), [some (.level true), some (.level false)]) := by decide +kernel

/-- R155: a read frame from 7Fh. -/
theorem test_headerByte : after (exec (.headerByte 1 (.byte 0xFF)) board) (fun t => (t.port 1).frame) =
    some (.inFrame .read 0x7F) := by decide +kernel

/-- R159: FRAME_SHORT at the word's address. -/
theorem test_frameShort : after (exec (.frameShort 1 31) (board.modPort 1 fun i => { i with frame := .inFrame .write 0x32 }))
    (fun t => ((t.port 1).frame, t.windowRead 1 0x0B)) = some (.none, 0x3204) := by decide +kernel

/-- R161, R162: IDENT, CHIP STATUS and PORT STATUS of a WITHDRAWING port. -/
theorem test_windowRead : ((withdrawing board 1 true).windowRead 1 0x00, (withdrawing board 1 true).windowRead 1 0x01,
    (withdrawing board 1 true).windowRead 1 0x03) = (0x07140C21, 0x000D0000, 0x1102) := by decide +kernel

/-- P1 with its DATA flags enabled and one of them set. -/
def flagged : State := board.modPort 1 fun i => { i with masterEnable := true, dataFlags := 4, enables1 := 4 }

/-- R152: INTn is asserted, active low. -/
theorem test_intAsserted : (flagged.intAsserted 1, flagged.intLevel 1, board.intLevel 1) = (true, false, true) := by
  decide +kernel

/-- P1 in a frame. -/
def inFrame (s : State) (dir : Direction) (a : WindowAddr) : State := s.modPort 1 fun i => { i with frame := .inFrame dir a }

/-- The hypotheses of the statements about written words, in no frame and in one that has come to the address. -/
theorem witness_takesWord : ∀ a ∈ [0x02, 0x04, 0x05, 0x06, 0x07, 0x08, 0x09, 0x0A, 0x0D, 0x24, 0x7F],
    board.takesWord 1 .write a ∧ (inFrame board .write a).takesWord 1 .write a := by
  dsimp only [State.takesWord]; decide +kernel

/-- The hypotheses of the statements about read words: before, between and after the bits of a word. -/
theorem witness_readWords : ∀ a ∈ [0x00, 0x0C, 0x39, 0x7F], board.sendsWord 1 a ∧ (inFrame board .read a).sendsWord 1 a ∧
    (inFrame board .read a).beginsWord 1 a ∧
    ((inFrame board .read a).latchWord 1 ⟨.register a, 9⟩).endsWord 1 a ⟨.register a, 9⟩ := by
  dsimp only [State.sendsWord, State.beginsWord, State.endsWord, State.takesWord]; decide +kernel

theorem witness_WithdrawalBegins : (board.port 1).state = .online ∧ board.takesWord 1 .write 0x02 ∧ board.resetHeld = false ∧
    (let s := board.modLink 1 fun k => { k with evictions := 1 };
      (s.port 1).state = .online ∧ (s.link 1).evictions = 0 + 1) := by
  dsimp only [State.takesWord]; decide +kernel

theorem witness_PortActionsElsewhere :
    (let s := (board.modPort 1 fun i => { i with state := .offline }).modLink 1 fun k => { k with evictions := 1 };
      s.takesWord 1 .write 0x02 ∧ s.resetHeld = false ∧ (s.port 1).state = .offline ∧ (s.port 1).state ≠ .online ∧
        (s.link 1).evictions = 0 + 1) ∧
      (let s := withdrawing board 1;
        s.takesWord 1 .write 0x02 ∧ (s.port 1).state = .withdrawing ⟨false, false, false, false⟩ false) := by
  dsimp only [State.takesWord]; decide +kernel

theorem witness_GoIsTakenOrRefused :
    (let s := board.modCtx 5 fun c => { c with command := { c.command with code := 26 } };
      s.takesWord (portOf 5) .write 0x34 ∧ (s.port (portOf 5)).state = .online ∧ (s.ctx 5).state = .idle ∧
        1 ≤ (s.ctx 5).command.code.toNat ∧ (s.ctx 5).command.code.toNat ≤ 26) ∧
      (let s := (standing board 5 .done).modCtx 5 fun c => { c with command := { c.command with code := 27 } };
        s.takesWord (portOf 5) .write 0x34 ∧ (s.port (portOf 5)).state = .online ∧ (s.ctx 5).state = .done ∧
          26 < (s.ctx 5).command.code.toNat) ∧
      (twoWait.takesWord (portOf 6) .write 0x44 ∧ (twoWait.port (portOf 6)).state = .online ∧
        ¬ ((twoWait.ctx 6).state = .idle ∨ (twoWait.ctx 6).state = .done)) ∧
      (State.reset.takesWord (portOf 5) .write 0x34 ∧ (State.reset.port (portOf 5)).state ≠ .online) := by
  dsimp only [State.takesWord]; decide +kernel

theorem witness_AckStrobe : (standing board 5 .done).takesWord (portOf 5) .write 0x34 ∧
    ((standing board 5 .done).ctx 5).state = .done := by
  dsimp only [State.takesWord]; decide +kernel

theorem witness_AbortStrobe :
    (twoWait.takesWord (portOf 6) .write 0x44 ∧ (twoWait.ctx 6).state ≠ .idle ∧ (twoWait.ctx 6).state ≠ .done ∧
      (twoWait.ctx 6).abort = none) ∧
      ((marked twoWait 6).takesWord (portOf 6) .write 0x44 ∧ ((marked twoWait 6).ctx 6).state = .waiting .lu ∧
        ((marked twoWait 6).ctx 6).abort ≠ none) ∧
      ((standing board 6 .done).ctx 6).state = .done ∧ (board.ctx 6).state = .idle := by
  dsimp only [State.takesWord]; decide +kernel

theorem witness_AttachByStateAndPhase :
    (let s := board.modPort 1 fun i => { i with state := .offline };
      s.takesWord 1 .write 0x02 ∧ (s.port 1).state = .offline ∧ s.phase = .ready) ∧
      (State.reset.takesWord 1 .write 0x02 ∧ (State.reset.port 1).state = .offline ∧ State.reset.phase = .init) ∧
      ((withdrawing board 1).port 1).state = .withdrawing ⟨false, false, false, false⟩ false ∧
      (board.port 1).state = .online := by
  dsimp only [State.takesWord]; decide +kernel

theorem witness_DataRegisterAccess :
    (board.sendsWord (portOf 5) 0x39 ∧ (inFrame board .read 0x39).beginsWord (portOf 5) 0x39 ∧
      ((inFrame board .read 0x39).latchWord 1 ⟨.data 5, 9⟩).endsWord (portOf 5) 0x39 ⟨.data 5, 9⟩) ∧
      (board.takesWord (portOf 5) .write 0x39 ∧ (board.ctx 5).state = .idle) ∧
      (twoWait.takesWord (portOf 6) .write 0x49 ∧ (twoWait.ctx 6).state ≠ .idle ∧ (twoWait.ctx 6).state ≠ .done) ∧
      ¬ isLogAddr 0x7F ∧ ¬ isDataAddr 0x7F ∧ ¬ isDataAddr 0x69 := by
  dsimp only [State.sendsWord, State.beginsWord, State.endsWord, State.takesWord, isLogAddr, isDataAddr]
  decide +kernel

theorem witness_LogReadPopsTheOldest :
    (let s := (inFrame board .read 0x0C).modPort 1 fun i => { i with log := [⟨63, 255, .withdrawn, 0xFFFF⟩] };
      s.sendsWord 1 0x0C ∧ s.beginsWord 1 0x0C ∧ (s.port 1).log = ⟨63, 255, .withdrawn, 0xFFFF⟩ :: [] ∧
        (s.latchWord 1 ⟨.log true, 9⟩).endsWord 1 0x0C ⟨.log true, 9⟩ ∧
        (s.latchWord 1 ⟨.log false, 0⟩).endsWord 1 0x0C ⟨.log false, 0⟩) ∧ (board.port 1).log = [] := by
  dsimp only [State.sendsWord, State.beginsWord, State.endsWord, State.takesWord]; decide +kernel

theorem witness_RegisterWordsReplaceRegisters :
    (board.takesWord 1 .write 0x3A ∧ (board.ctx (ctxOf 1 1)).state = .idle) ∧
      (twoWait.takesWord 1 .write 0x40 ∧ ¬ ((twoWait.ctx (ctxOf 1 2)).state = .idle ∨ (twoWait.ctx (ctxOf 1 2)).state = .done)) ∧
      (isUnimplemented 0x60 ∧ board.takesWord 1 .write 0x60) ∧
      ((inFrame board .write 0x7F).port 1).frame = .inFrame .write 0x7F ∧
      ∀ a, (board.port 1).frame ≠ .inFrame .write a := by
  dsimp only [State.takesWord, isUnimplemented]
  refine ⟨by decide +kernel, by decide +kernel, by decide +kernel, by decide +kernel, ?_⟩
  have : (board.port 1).frame = .none := by decide +kernel
  simp [this]

theorem witness_FramesOpenAndEnd : board.resetHeld = false ∧ (31 : Fin 32) ≠ 0 ∧
    ((inFrame board .write 0x32).port 1).frame = .inFrame .write 0x32 ∧
    (wordOf (.go 5) = some (1, .write, 0x34) ∧ ((inFrame board .read 0x34).port 1).frame ≠ .none ∧
      ((inFrame board .read 0x34).port 1).frame ≠ .inFrame .write 0x34) ∧
    ((inFrame board .read 0x7F).latchWord 1 ⟨.register 0x7F, 0⟩).endsWord 1 0x7F ⟨.register 0x7F, 0⟩ ∧
    ((inFrame board .read 0x7F).beginsWord 1 0x7F ∧ ((inFrame board .read 0x7F).port 1).sent = none) ∧
    (let s := (inFrame board .read 0x00).modPort 1 fun i => { i with sent := some 0x07140C21 };
      s.beginsWord 1 0x00 ∧ (s.port 1).sent = some 0x07140C21) ∧
    ((board.setFrame 1 .header).port 1).frame = .header ∧ ({ board with resetHeld := true } : State).resetHeld = true := by
  dsimp only [State.endsWord, State.beginsWord]; decide +kernel

end Sys2Proof.Tests
end

namespace Sys2Proof.Machine

/-! ## States alike

Two states that differ only where no invariant about waits, withdrawals and fills looks. -/

/-- A context state without the record of its fill. -/
def CtxState.bare : CtxState → CtxState
  | .active _ => .active { segment := 0, start := 0, count := 0, zeroed := 0, stop := none }
  | t => t

theorem CtxState.eq_waiting_of_bare {a b : CtxState} (h : b.bare = a.bare) (u : UnitId) :
    b = .waiting u ↔ a = .waiting u := by
  cases a <;> cases b <;> simp_all [CtxState.bare]

theorem CtxState.eq_pending_of_bare {a b : CtxState} (h : b.bare = a.bare) (u : UnitId) :
    b = .pending u ↔ a = .pending u := by
  cases a <;> cases b <;> simp_all [CtxState.bare]

theorem CtxState.eq_idle_of_bare {a b : CtxState} (h : b.bare = a.bare) : b = .idle ↔ a = .idle := by
  cases a <;> cases b <;> simp_all [CtxState.bare]

theorem CtxState.owner_of_bare {a b : CtxState} (h : b.bare = a.bare) : b.owner = a.owner := by
  cases a <;> cases b <;> simp_all [CtxState.bare, CtxState.owner]

theorem CtxState.isActive_of_bare {a b : CtxState} (h : b.bare = a.bare) : b.isActive = a.isActive := by
  cases a <;> cases b <;> simp_all [CtxState.bare, CtxState.isActive]

/-- Two values of a port's messages with the same notices, acknowledgements and debts under way. -/
structure Links.Alike (k l : Links) : Prop where
  notices : ∀ u, l.notices.get u = .none ↔ k.notices.get u = .none
  muOwesAck : l.muOwesAck = k.muOwesAck
  muAck : l.muAck = k.muAck
  cuAck : l.cuAck = k.cuAck
  suAck : l.suAck = k.suAck
  fromLu : l.fromLu.count .acknowledge = k.fromLu.count .acknowledge

theorem Links.Alike.refl (k : Links) : k.Alike k := ⟨fun _ => Iff.rfl, rfl, rfl, rfl, rfl, rfl⟩

/-- Two values of a lock with the same holder, queue and mark, and the same lease if it is FREE. -/
structure Lock.Alike (k l : Lock) : Prop where
  queue : l.queue = k.queue
  holder : l.holder = k.holder
  revoked : l.revoked = k.revoked
  lease : k.holder = none → l.lease = k.lease

theorem Lock.Alike.refl (k : Lock) : k.Alike k := ⟨rfl, rfl, rfl, fun _ => rfl⟩

/-- Two values of a channel with the same waiters; one with waiters does not lose its binding. -/
structure Channel.Alike (c d : Channel) : Prop where
  senders : d.senders = c.senders
  receivers : d.receivers = c.receivers
  binding : d.binding = none → c.binding = none ∨ (c.senders = [] ∧ c.receivers = [])

theorem Channel.Alike.refl (c : Channel) : c.Alike c := ⟨rfl, rfl, .inl⟩

/-- `t` is `s` but for what no wait, no withdrawal and no step of a unit depends on: the contexts are in the same
states, with the command records of the busy ones; the ports too; no notice or acknowledgement has moved; locks and
channels have the same holders and waiters; SU and LU are within the same steps. -/
structure State.Alike (s t : State) : Prop where
  ctx : ∀ cx, (t.ctx cx).state.bare = (s.ctx cx).state.bare
  command : ∀ cx, (s.ctx cx).state.busy = true → (t.ctx cx).command = (s.ctx cx).command
  port : ∀ p, (t.port p).state = (s.port p).state
  link : ∀ p, (s.link p).Alike (t.link p)
  lock : ∀ l, (s.lock l).Alike (t.lock l)
  chan : ∀ n, (s.chan n).Alike (t.chan n)
  inspection : t.inspection = s.inspection
  forcing : t.forcing = s.forcing
  luTickOpen : s.forcing.isSome = true → t.luTickOpen = s.luTickOpen

/-- Updates of the parts that `Alike` does not look at. -/
theorem State.alike_of_eq {s t : State} (contexts : t.contexts = s.contexts) (ports : t.ports = s.ports)
    (links : t.links = s.links) (locks : t.locks = s.locks) (channels : t.channels = s.channels)
    (inspection : t.inspection = s.inspection) (forcing : t.forcing = s.forcing)
    (luTicks : s.forcing.isSome = true → t.luTickOpen = s.luTickOpen) : s.Alike t where
  ctx cx := by simp only [State.ctx, contexts]
  command cx _ := by simp only [State.ctx, contexts]
  port p := by simp only [State.port, ports]
  link p := by simp only [State.link, links]; exact .refl _
  lock l := by simp only [State.lock, locks]; exact .refl _
  chan n := by simp only [State.chan, channels]; exact .refl _
  inspection := inspection
  forcing := forcing
  luTickOpen := luTicks

/-- An update of contexts that keeps their states and, of the busy ones, the command records. -/
theorem State.alike_mapCtxs {s : State} {f : CtxNum → Context → Context}
    (hs : ∀ cx, (f cx (s.ctx cx)).state.bare = (s.ctx cx).state.bare)
    (hc : ∀ cx, (s.ctx cx).state.busy = true → (f cx (s.ctx cx)).command = (s.ctx cx).command) :
    s.Alike (s.mapCtxs f) where
  ctx cx := by simpa using hs cx
  command cx h := by simpa using hc cx h
  port p := by rw [State.mapCtxs_port]
  link p := by rw [State.mapCtxs_link]; exact .refl _
  lock l := by rw [State.mapCtxs_lock]; exact .refl _
  chan n := by rw [State.mapCtxs_chan]; exact .refl _
  inspection := s.mapCtxs_inspection f
  forcing := s.mapCtxs_forcing f
  luTickOpen _ := by simp [State.luTickOpen]

/-- An update of one context that keeps its state and, if it is busy, its command record. -/
theorem State.alike_modCtx {s : State} {cx : CtxNum} {f : Context → Context}
    (hs : (f (s.ctx cx)).state.bare = (s.ctx cx).state.bare)
    (hc : (s.ctx cx).state.busy = true → (f (s.ctx cx)).command = (s.ctx cx).command) :
    s.Alike (s.modCtx cx f) where
  ctx c := by
    by_cases h : c = cx
    · subst h; simpa using hs
    · simp [h]
  command c hb := by
    by_cases h : c = cx
    · subst h; simpa using hc hb
    · simp [h]
  port _ := rfl
  link _ := .refl _
  lock _ := .refl _
  chan _ := .refl _
  inspection := rfl
  forcing := rfl
  luTickOpen _ := rfl

/-- An update of a port interface that keeps the port state. -/
theorem State.alike_modPort {s : State} {p : Port} {f : PortInterface → PortInterface}
    (h : (f (s.port p)).state = (s.port p).state) : s.Alike (s.modPort p f) where
  ctx _ := rfl
  command _ _ := rfl
  port q := by
    by_cases e : q = p
    · subst e; simpa using h
    · simp [e]
  link _ := .refl _
  lock _ := .refl _
  chan _ := .refl _
  inspection := rfl
  forcing := rfl
  luTickOpen _ := rfl

/-- An update of a port's messages that moves no notice and no acknowledgement. -/
theorem State.alike_modLink {s : State} {p : Port} {f : Links → Links}
    (h : (s.link p).Alike (f (s.link p))) : s.Alike (s.modLink p f) where
  ctx _ := rfl
  command _ _ := rfl
  port _ := rfl
  link q := by
    by_cases e : q = p
    · subst e; simpa using h
    · simpa [e] using .refl _
  lock _ := .refl _
  chan _ := .refl _
  inspection := rfl
  forcing := rfl
  luTickOpen _ := rfl

/-- An update of a lock that keeps its holder, queue and mark. -/
theorem State.alike_modLock {s : State} {l : LockNum} {f : Lock → Lock}
    (h : (s.lock l).Alike (f (s.lock l))) : s.Alike (s.modLock l f) where
  ctx _ := rfl
  command _ _ := rfl
  port _ := rfl
  link _ := .refl _
  lock k := by
    by_cases e : k = l
    · subst e; simpa using h
    · simpa [e] using .refl _
  chan _ := .refl _
  inspection := rfl
  forcing := rfl
  luTickOpen _ := rfl

/-- An update of a channel that keeps its waiters. -/
theorem State.alike_modChan {s : State} {n : ChanNum} {f : Channel → Channel}
    (h : (s.chan n).Alike (f (s.chan n))) : s.Alike (s.modChan n f) where
  ctx _ := rfl
  command _ _ := rfl
  port _ := rfl
  link _ := .refl _
  lock _ := .refl _
  chan k := by
    by_cases e : k = n
    · subst e; simpa using h
    · simpa [e] using .refl _
  inspection := rfl
  forcing := rfl
  luTickOpen _ := rfl

/-- An arbiter's grant moves no request. -/
theorem State.alike_granted (s : State) (u : UnitId) (cx : CtxNum) : s.Alike (s.granted u cx) where
  ctx c := by simp
  command c _ := by simp
  port p := by simp
  link p := by
    rw [State.granted_link]
    refine ⟨fun v => ?_, rfl, rfl, rfl, rfl, rfl⟩
    by_cases h : v = u
    · subst h
      cases hn : (s.link p).notices.get v <;> simp [NoticeState.countGrant]
    · simp [h]
  lock l := by simpa using .refl _
  chan n := by simpa using .refl _
  inspection := by simp
  forcing := by simp
  luTickOpen _ := by simp [State.luTickOpen]

/-- Only a revocation record or a setting or clearing is sent. -/
theorem State.alike_sendLu_record (s : State) (p : Port) (r : RevocationRecord) : s.Alike (s.sendLu p (.record r)) :=
  State.alike_modLink ⟨fun _ => Iff.rfl, rfl, rfl, rfl, rfl, by simp⟩

theorem State.alike_sendCu (s : State) (p : Port) (m : CuMessage) : s.Alike (s.sendCu p m) :=
  State.alike_modLink ⟨fun _ => Iff.rfl, rfl, rfl, rfl, rfl, rfl⟩

/-- A stop reason leaves a fill running. -/
theorem Context.stopFill_bare (which : Fill → Bool) (r : StopReason) (c : Context) :
    (c.stopFill which r).state.bare = c.state.bare := by
  unfold Context.stopFill
  split
  · rename_i f h
    cases which f <;> simp [h, CtxState.bare]
  · rfl

@[simp] theorem Context.stopFill_command (which : Fill → Bool) (r : StopReason) (c : Context) :
    (c.stopFill which r).command = c.command := by
  unfold Context.stopFill
  split
  · rename_i f h
    cases which f <;> simp
  · rfl

end Sys2Proof.Machine

namespace Sys2Proof.Machine

/-! ## Elementary changes

What a step can do to the waits, withdrawals and fills, said once: every command is a chain of the changes of `Move`,
and an invariant that each of them keeps is kept by every step. -/

/-- Unit `u` may end the request of context `cx`: it is PENDING there, and the unit is not within the step of a request
(R15). -/
structure State.MayAnswer (s : State) (u : UnitId) (cx : CtxNum) : Prop where
  pending : (s.ctx cx).state = .pending u
  inspection : u = .su → s.inspection = none
  forcing : u = .lu → s.forcing = none

/-- The contexts of a channel's wait queues, entry by entry. -/
def Channel.waiters (c : Channel) : List CtxNum := (c.senders ++ c.receivers).map WaitEntry.ctx

/-- A withdrawal notice of port `p` has left unit `u` (R17). -/
def State.dropNotice (s : State) (p : Port) (u : UnitId) : State :=
  s.modLink p fun k => { k with notices := k.notices.set u .none }

/-- Unit `u`, which is not MU, answers the withdrawal notice of `p` with its acknowledgement (R44, R84, R128). -/
def State.answerNotice (s : State) (p : Port) (u : UnitId) : State :=
  match u with
  | .mu => s
  | .lu => (s.dropNotice p .lu).sendLu p .acknowledge
  | .cu => (s.dropNotice p .cu).modLink p fun k => { k with cuAck := true }
  | .su => (s.dropNotice p .su).modLink p fun k => { k with suAck := true }

/-- An elementary change of the part. -/
inductive Move : State → State → Prop
  /-- Nothing that matters here. -/
  | quiet {s t} (h : s.Alike t) : Move s t
  /-- A chip reset, or RESETn going low (R130). -/
  | reset {s t} (h : t.blocksAtReset) : Move s t
  /-- A PENDING request ends (R18). -/
  | answer {s u cx} (r : Answer) (h : s.MayAnswer u cx) : Move s (s.complete cx r)
  /-- A GO is taken (R7). -/
  | goes {s cx} (hp : (s.port (portOf cx)).state = .online) (hb : (s.ctx cx).state.busy = false) :
      Move s (s.modCtx cx Context.started)
  /-- An ACK (R8). -/
  | acks {s} (cx) : Move s (s.modCtx cx Context.acked)
  /-- MU begins a fill (R95). -/
  | fillBegins {s cx} (f : Fill) (h : s.MayAnswer .mu cx) : Move s (s.modCtx cx fun c => { c with state := .active f })
  /-- A fill ends (R98, R104). -/
  | fillEnds {s cx f} (r : Answer) (h : (s.ctx cx).state = .active f) : Move s (s.endFill cx r)
  /-- A FREE lock is granted (R30, R34). -/
  | lockGrants {s cx l} (h : s.MayAnswer .lu cx) (hl : (s.lock l).holder = none) : Move s (s.grantLock l cx)
  /-- A context parks in the queue of a HELD lock (R35). -/
  | lockParks {s cx l h} (hm : s.MayAnswer .lu cx) (hl : (s.lock l).holder = some h) (hne : h ≠ cx) :
      Move s (s.parkWaiter l cx)
  /-- A holder releases its lock (R38). -/
  | lockReleases {s cx l} (r : Answer) (h : s.MayAnswer .lu cx) (hl : (s.lock l).holder = some cx) :
      Move s ((s.handOff l).complete cx r)
  /-- A lock is revoked (R50). -/
  | lockRevoked {s} (l : LockNum) (cause : RevocationCause) (epoch : BitVec 16) : Move s (s.revoke l cause epoch)
  /-- A lock is revoked and the request that asked for it ends (R42). -/
  | lockForced {s cx} (l : LockNum) (cause : RevocationCause) (epoch : BitVec 16) (r : Answer) (h : s.MayAnswer .lu cx) :
      Move s ((s.revoke l cause epoch).complete cx r)
  /-- Every lock wait is counted at a tick (R47). -/
  | lockWaitsCount {s} : Move s s.countLockWaits
  /-- One lock wait ends (R43, R47). -/
  | lockWaitEnds {s cx} (r : Answer) (h : (s.ctx cx).state = .waiting .lu ∨ cx ∈ s.lockEntries) :
      Move s ((s.mapLocks fun k => { k with queue := leaveQueue cx k.queue }).complete cx r)
  /-- The lock waits of a port are cancelled (R44). -/
  | lockWaitsCancelled {s} (p : Port) :
      Move s ((s.mapLocks fun k => { k with queue := leaveQueueOfPort p k.queue }).cancelAll p (.waiting .lu))
  /-- A context parks in a queue of a bound channel (R70, R74). -/
  | chanParks {s cx n f} (h : s.MayAnswer .cu cx) (hq : (f (s.chan n)).waiters.Perm (cx :: (s.chan n).waiters))
      (hb : (f (s.chan n)).binding ≠ none) :
      Move s ((s.modChan n f).modCtx cx fun c => { c with state := .waiting .cu })
  /-- A channel's waiter is served (R69, R73). -/
  | chanServes {s cx n f} (r : Answer) (hq : (cx :: (f (s.chan n)).waiters).Perm (s.chan n).waiters)
      (hb : (f (s.chan n)).binding = (s.chan n).binding) : Move s ((s.modChan n f).complete cx r)
  /-- A channel's waiter is served, and the request that serves it ends (R69). -/
  | chanServesFor {s cx cx' n f} (r r' : Answer) (h : s.MayAnswer .cu cx')
      (hq : (cx :: (f (s.chan n)).waiters).Perm (s.chan n).waiters)
      (hb : (f (s.chan n)).binding = (s.chan n).binding) :
      Move s (((s.modChan n f).complete cx r).complete cx' r')
  /-- An unbound channel is bound, with no waiters (R80). -/
  | chanBinds {s n f} (h : (s.chan n).binding = none) (hq : (f (s.chan n)).waiters = []) : Move s (s.modChan n f)
  /-- A channel is unbound by force, its waiters cancelled, and the request that asked for it ends (R82). -/
  | chanUnbinds {s cx} (n : ChanNum) (b : Binding) (r : Answer) (h : s.MayAnswer .cu cx) :
      Move s ((s.forceUnbind n b).complete cx r)
  /-- Every channel wait is counted at a tick (R76). -/
  | chanWaitsCount {s} : Move s s.countChannelWaits
  /-- One channel wait ends (R76, R78). -/
  | chanWaitEnds {s cx} (r : Answer) (h : (s.ctx cx).state = .waiting .cu ∨ cx ∈ s.channelEntries) :
      Move s ((s.leaveChannels cx).complete cx r)
  /-- The channel waits of a port are cancelled (R84). -/
  | chanWaitsCancelled {s} (p : Port) :
      Move s ((s.mapChans fun c =>
        { c with senders := leaveEntriesOfPort p c.senders, receivers := leaveEntriesOfPort p c.receivers }).cancelAll p
          (.waiting .cu))
  /-- SU is within the step of an INSPECT PORT (R127). -/
  | inspects {s} (g : Inspection) (hp : (s.ctx g.ctx).state = .pending .su)
      (hc : (s.ctx g.ctx).command.code = Command.inspectPort.code)
      (ho : (s.ctx g.ctx).command.object.toNat = g.port.val ∨
        ∃ g' ∈ s.inspection, g'.ctx = g.ctx ∧ g'.port = g.port)
      (hl : g.portState = none ∨ g.contexts = none ∨ g.locks = none) : Move s { s with inspection := some g }
  /-- SU is no longer within the step of an INSPECT PORT. -/
  | inspected {s} : Move s { s with inspection := none }
  /-- LU is within the step of a FORCE RELEASE (R124). -/
  | forces {s cx} (hp : (s.ctx cx).state = .pending .lu)
      (hc : (s.ctx cx).command.code = Command.forceRelease.code) (ht : s.luTickOpen = false) :
      Move s (s.setForcing (some cx))
  /-- LU is no longer within the step of a FORCE RELEASE. -/
  | forced {s} : Move s (s.setForcing none)
  /-- A port comes ONLINE (R134). -/
  | attaches {s p} (h : (s.port p).state = .offline) : Move s (s.attached p)
  /-- A withdrawal begins (R138). -/
  | withdraws {s p} (mark : Bool) (h : (s.port p).state = .online) : Move s (s.beginWithdrawal p mark)
  /-- A withdrawal gets its mark (R142). -/
  | marks {s p acks mark} (h : (s.port p).state = .withdrawing acks mark) :
      Move s (s.modPort p fun i => { i with state := .withdrawing acks true })
  /-- The window of an OFFLINE port is cleared (R142). -/
  | clears {s p} (h : (s.port p).state = .offline) : Move s (s.portResetClearing p)
  /-- MU takes a withdrawal notice, its PENDING requests of the port having been cancelled (R104). -/
  | muTakesNotice {s p} (hn : (s.link p).notices.get .mu ≠ .none)
      (hq : ∀ cx, portOf cx = p → (s.ctx cx).state ≠ .pending .mu) :
      Move s (((s.dropNotice p .mu).modLink p fun k => { k with muOwesAck := true }).muSettle p)
  /-- Another unit takes a withdrawal notice, its requests of the port having been cancelled (R44, R84, R128). -/
  | answersNotice {s p u} (hu : u ≠ .mu) (hn : (s.link p).notices.get u ≠ .none)
      (hq : ∀ cx, portOf cx = p → (s.ctx cx).state ≠ .pending u ∧ (u ≠ .su → (s.ctx cx).state ≠ .waiting u)) :
      Move s (s.answerNotice p u)
  /-- The PI takes an acknowledgement (R139). -/
  | acknowledges {s p u} (h : (s.link p).ackNext u) : Move s ((s.modLink p fun k => k.withoutAck u).acknowledged p u)

/-- `t` comes from `s` by a chain of elementary changes. -/
abbrev State.Moves : State → State → Prop := Relation.ReflTransGen Move

/-- Whatever next state `o` is, it comes from `s` by elementary changes. -/
def State.LeadsTo (s : State) (o : Out) : Prop := ∀ t, o = .next t → s.Moves t

section Chains
variable {s t u : State}

theorem Move.moves (h : Move s t) : s.Moves t := .single h

theorem State.Alike.moves (h : s.Alike t) : s.Moves t := (Move.quiet h).moves

theorem State.Alike.mayAnswer (h : s.Alike t) {v : UnitId} {cx : CtxNum} (hm : s.MayAnswer v cx) : t.MayAnswer v cx where
  pending := (CtxState.eq_pending_of_bare (h.ctx cx) v).2 hm.pending
  inspection e := h.inspection.trans (hm.inspection e)
  forcing e := h.forcing.trans (hm.forcing e)

theorem State.leadsTo_next (h : s.Moves t) : s.LeadsTo (.next t) := by
  rintro _ ⟨⟩
  exact h

theorem State.leadsTo_self (s : State) : s.LeadsTo (.next s) := State.leadsTo_next .refl

theorem State.leadsTo_fault (s : State) (r : Fault) : s.LeadsTo (.fault r) := fun _ h => by cases h

theorem State.leadsTo_trans {o : Out} (h : s.Moves t) (ho : t.LeadsTo o) : s.LeadsTo o :=
  fun u hu => h.trans (ho u hu)

/-- After changes that do not matter, a request ends. -/
theorem State.leadsTo_answer {v : UnitId} {cx : CtxNum} (hm : s.MayAnswer v cx) (h : s.Alike t) (r : Answer) :
    s.LeadsTo (.next (t.complete cx r)) :=
  State.leadsTo_next (h.moves.tail (.answer r (h.mayAnswer hm)))

theorem State.leadsTo_failed {v : UnitId} {cx : CtxNum} (hm : s.MayAnswer v cx) (code : CompletionCode) :
    s.LeadsTo (s.failed cx code) :=
  State.leadsTo_next (Move.answer _ hm).moves

/-- A fold of functions that make elementary changes makes them. -/
theorem State.moves_foldl {α : Type} (f : State → α → State) (h : ∀ (s : State) a, s.Moves (f s a)) (l : List α) (s : State) :
    s.Moves (l.foldl f s) := by
  induction l generalizing s with
  | nil => exact .refl
  | cons a l ih => exact (h s a).trans (ih _)

end Chains

/-- Everything that all elementary changes keep is kept along a chain of them. -/
theorem State.Moves.keeps {P : State → Prop} (hP : ∀ {s t}, Move s t → P s → P t) {s t : State} (h : s.Moves t)
    (hs : P s) : P t := by
  induction h with
  | refl => exact hs
  | tail _ hm ih => exact hP hm ih

/-! ### The checks at a take -/

/-- The state in which a unit serves a request of command `c`: it stands there, and the unit is within no step. -/
structure State.Serves (s : State) (c : Command) (cx : CtxNum) : Prop where
  mayAnswer : s.MayAnswer c.owner cx
  code : (s.ctx cx).command.code = c.code
  luTicks : c.owner = .lu → s.luTicks = []

theorem State.takes.serves {s : State} {c : Command} {cx : CtxNum} (h : s.takes c cx) :
    (s.granted c.owner cx).Serves c cx := by
  obtain ⟨_, hp, hc, _⟩ := id h
  exact {
    mayAnswer := {
      pending := by simpa using hp
      inspection := fun e => by simpa using State.inspection_of_takes h e
      forcing := fun e => by simpa using (State.free_of_takes h e).2 }
    code := by simpa using hc
    luTicks := fun e => by simpa using (State.free_of_takes h e).1 }

theorem State.leadsTo_take {s : State} {c : Command} {cx : CtxNum} {k : State → Out}
    (h : ∀ s : State, s.Serves c cx → s.LeadsTo (k s)) : s.LeadsTo (s.take c cx k) := by
  rcases s.take_cases c cx k with ⟨ht, e⟩ | e <;> rw [e]
  · exact State.leadsTo_trans (s.alike_granted c.owner cx).moves (h _ ht.serves)
  · exact s.leadsTo_self

theorem State.leadsTo_live {s : State} {o : Out} (h : s.LeadsTo o) : s.LeadsTo (s.live o) := by
  unfold State.live
  split
  · exact s.leadsTo_self
  · exact h

section Checks
variable {s : State} {u : UnitId} {cx : CtxNum}

theorem State.leadsTo_asManager {k : Out} (hm : s.MayAnswer u cx) (h : s.LeadsTo k) :
    s.LeadsTo (s.asManager cx k) := by
  unfold State.asManager
  split
  · exact h
  · exact State.leadsTo_failed hm _

theorem State.leadsTo_onTarget {α : Type} {target : Option α} {k : α → Out} (hm : s.MayAnswer u cx)
    (h : ∀ x, target = some x → s.LeadsTo (k x)) : s.LeadsTo (s.onTarget cx target k) := by
  cases target with
  | none => exact State.leadsTo_failed hm _
  | some x => exact h x rfl

theorem State.leadsTo_onSegment {countOk : Bool} {need : Nat} {right : Right} {k : SegNum → Segment → Nat → Out}
    (hm : s.MayAnswer u cx) (h : ∀ n g a, s.LeadsTo (k n g a)) : s.LeadsTo (s.onSegment cx countOk need right k) := by
  unfold State.onSegment
  refine State.leadsTo_onTarget hm fun n _ => ?_
  split
  · exact State.leadsTo_failed hm _
  · split
    · split
      · split
        · exact h _ _ _
        · exact s.leadsTo_fault _
      · exact State.leadsTo_failed hm _
    · exact State.leadsTo_failed hm _

theorem State.leadsTo_onChannel {n : ChanNum} {role : Binding → Port → Bool} {k : Binding → Out}
    (hm : s.MayAnswer u cx) (h : ∀ b, (s.chan n).binding = some b → s.LeadsTo (k b)) :
    s.LeadsTo (s.onChannel cx n role k) := by
  rcases s.onChannel_cases cx n role k with ⟨_, e⟩ | ⟨b, hb, ⟨_, e⟩ | ⟨_, _, e⟩ | ⟨_, _, e⟩⟩ <;> rw [e]
  · exact State.leadsTo_failed hm _
  · exact State.leadsTo_failed hm _
  · exact State.leadsTo_failed hm _
  · exact h b hb

theorem State.leadsTo_judgeHolder {l : LockNum} {named : Word} {ok : Out} (hm : s.MayAnswer u cx)
    (h : (s.lock l).holder = some cx → s.LeadsTo ok) : s.LeadsTo (s.judgeHolder l cx named ok) := by
  rcases s.judgeHolder_cases l cx named ok with ⟨_, hh, e⟩ | ⟨_, _, e⟩ | ⟨_, e⟩ <;> rw [e]
  · exact h hh
  · exact State.leadsTo_next (Move.answer _ hm).moves
  · exact State.leadsTo_next (Move.answer _ hm).moves

end Checks

end Sys2Proof.Machine

namespace Sys2Proof.Machine

/-! ## Each command is a chain of elementary changes -/

section Frames
variable (s : State)

theorem State.leadsTo_complete {s : State} {u : UnitId} {cx : CtxNum} (hm : s.MayAnswer u cx) (r : Answer) :
    s.LeadsTo (.next (s.complete cx r)) :=
  State.leadsTo_next (Move.answer r hm).moves

theorem State.alike_setMemory (m : Memory) : s.Alike (s.setMemory m) :=
  State.alike_of_eq rfl rfl rfl rfl rfl rfl rfl fun _ => rfl

theorem State.alike_setKeyPair (p : Port) (k : KeyPair) : s.Alike (s.setKeyPair p k) :=
  State.alike_of_eq rfl rfl rfl rfl rfl rfl rfl fun _ => rfl

theorem State.alike_setSeg (n : SegNum) (e : Option Segment) : s.Alike (s.setSeg n e) :=
  State.alike_of_eq rfl rfl rfl rfl rfl rfl rfl fun _ => rfl

theorem State.alike_setTickGenerator (e : Bool) (c : PeriodCode) : s.Alike (s.setTickGenerator e c) :=
  State.alike_of_eq rfl rfl rfl rfl rfl rfl rfl fun _ => rfl

theorem State.alike_setCuTicks (k : Nat) (o : Bool) : s.Alike (s.setCuTicks k o) :=
  State.alike_of_eq rfl rfl rfl rfl rfl rfl rfl fun _ => rfl

/-- The tick events at LU matter only within the step of a FORCE RELEASE. -/
theorem State.alike_setLuTicks {s : State} (h : s.forcing = none) (ts : List LuTick) : s.Alike (s.setLuTicks ts) :=
  State.alike_of_eq rfl rfl rfl rfl rfl rfl rfl fun e => by simp [h] at e

/-- A frame is no matter. -/
theorem State.alike_setFrame (p : Port) (f : Frame) : s.Alike (s.setFrame p f) := State.alike_modPort rfl

/-- Settings and clearings to several ports. -/
theorem State.moves_sendCuAll (b : BitVec 4) (m : CuMessage) : s.Moves (s.sendCuAll b m) := by
  refine State.moves_foldl _ (fun s p => ?_) _ _
  split
  · exact (s.alike_sendCu p m).moves
  · exact .refl

/-- A stop reason for the fills of a port. -/
theorem State.alike_stopFills (p : Port) (which : Fill → Bool) (r : StopReason) :
    s.Alike (s.modPortCtxs p (Context.stopFill which r)) := by
  refine State.alike_mapCtxs (fun cx => ?_) fun cx _ => ?_
  · split
    · exact Context.stopFill_bare _ _ _
    · rfl
  · split
    · exact Context.stopFill_command _ _ _
    · rfl

end Frames

/-! ### MU -/

section MemoryUnit
variable (cx : CtxNum) (s : State)

theorem execRead_leadsTo : s.LeadsTo (execRead cx s) :=
  State.leadsTo_take fun _ h => State.leadsTo_onSegment h.mayAnswer fun _ _ _ => State.leadsTo_complete h.mayAnswer _

theorem execWrite_leadsTo : s.LeadsTo (execWrite cx s) :=
  State.leadsTo_take fun s h => State.leadsTo_onSegment h.mayAnswer fun _ _ _ =>
    State.leadsTo_answer h.mayAnswer (s.alike_setMemory _) _

theorem execReadGroup_leadsTo : s.LeadsTo (execReadGroup cx s) :=
  State.leadsTo_take fun _ h => State.leadsTo_onSegment h.mayAnswer fun _ _ _ =>
    State.leadsTo_answer h.mayAnswer (State.alike_modCtx rfl fun _ => rfl) _

theorem execWriteGroup_leadsTo : s.LeadsTo (execWriteGroup cx s) :=
  State.leadsTo_take fun s h => State.leadsTo_onSegment h.mayAnswer fun _ _ _ =>
    State.leadsTo_answer h.mayAnswer (s.alike_setMemory _) _

theorem execTally_leadsTo : s.LeadsTo (execTally cx s) := by
  refine State.leadsTo_take fun s h => State.leadsTo_onSegment h.mayAnswer fun _ _ _ => ?_
  dsimp only
  split
  · exact State.leadsTo_complete h.mayAnswer _
  · exact State.leadsTo_answer h.mayAnswer (s.alike_setMemory _) _

theorem execSetIfZero_leadsTo : s.LeadsTo (execSetIfZero cx s) := by
  refine State.leadsTo_take fun s h => State.leadsTo_onSegment h.mayAnswer fun _ _ _ => ?_
  dsimp only
  split
  · exact State.leadsTo_answer h.mayAnswer (s.alike_setMemory _) _
  · exact State.leadsTo_complete h.mayAnswer _

theorem execZeroFill_leadsTo : s.LeadsTo (execZeroFill cx s) :=
  State.leadsTo_take fun _ h => State.leadsTo_onSegment h.mayAnswer fun _ _ _ =>
    State.leadsTo_next (Move.fillBegins _ h.mayAnswer).moves

variable {s} {cx} in
theorem State.moves_fillStep {f : Fill} (h : (s.ctx cx).state = .active f) : s.Moves (s.fillStep cx f) := by
  unfold State.fillStep
  split
  · exact (Move.fillEnds _ h).moves
  · dsimp only
    split
    · exact (s.alike_setMemory _).moves.tail (.fillEnds _ h)
    · exact (s.alike_setMemory _).moves.trans (State.alike_modCtx (by simp [h, CtxState.bare]) fun _ => rfl).moves

theorem execFillBurst_leadsTo : s.LeadsTo (execFillBurst cx s) := by
  refine State.leadsTo_live ?_
  split
  · rename_i f h
    split
    · split
      · exact State.leadsTo_next ((s.alike_granted .mu cx).moves.trans (State.moves_fillStep (by simpa using h)))
      · exact s.leadsTo_fault _
    · exact s.leadsTo_self
  · exact s.leadsTo_self

/-- The segment table is no matter, nor is a stop reason. -/
theorem State.alike_changeSegment (n : SegNum) (e : Option Segment) : (s.setSeg n e).Alike (s.changeSegment n e) :=
  State.alike_mapCtxs (fun _ => Context.stopFill_bare _ _ _) fun _ _ => Context.stopFill_command _ _ _

theorem execDefineSegment_leadsTo : s.LeadsTo (execDefineSegment cx s) :=
  State.leadsTo_take fun s h => State.leadsTo_asManager h.mayAnswer <| State.leadsTo_onTarget h.mayAnswer fun _ _ =>
    State.leadsTo_trans (s.alike_setSeg _ _).moves
      (State.leadsTo_answer ((s.alike_setSeg _ _).mayAnswer h.mayAnswer) (s.alike_changeSegment _ _) _)

theorem execClearSegment_leadsTo : s.LeadsTo (execClearSegment cx s) :=
  State.leadsTo_take fun s h => State.leadsTo_asManager h.mayAnswer <| State.leadsTo_onTarget h.mayAnswer fun _ _ =>
    State.leadsTo_trans (s.alike_setSeg _ _).moves
      (State.leadsTo_answer ((s.alike_setSeg _ _).mayAnswer h.mayAnswer) (s.alike_changeSegment _ _) _)

theorem execInspectSegment_leadsTo : s.LeadsTo (execInspectSegment cx s) :=
  State.leadsTo_take fun _ h => State.leadsTo_onTarget h.mayAnswer fun _ _ => State.leadsTo_complete h.mayAnswer _

theorem execFillAbort_leadsTo : s.LeadsTo (execFillAbort cx s) := by
  refine State.leadsTo_live ?_
  split
  · split
    · exact s.leadsTo_self
    · refine State.leadsTo_next (State.alike_modCtx ?_ fun _ => ?_).moves
      · exact Context.stopFill_bare _ _ _
      · exact Context.stopFill_command _ _ _
  · exact s.leadsTo_self

theorem execMemoryClearDone_leadsTo : s.LeadsTo (execMemoryClearDone s) := by
  refine State.leadsTo_live ?_
  split
  · refine State.leadsTo_next (State.Alike.moves ?_)
    exact State.alike_of_eq rfl rfl rfl rfl rfl rfl rfl fun _ => rfl
  · exact s.leadsTo_self

end MemoryUnit

/-! ### LU -/

section LockUnit
variable (cx : CtxNum) (s : State)

variable {s} {cx} in
theorem State.moves_acquireLock (hm : s.MayAnswer .lu cx) (l : LockNum) : s.Moves (s.acquireLock l cx) := by
  unfold State.acquireLock
  dsimp only
  split
  · rename_i hl
    exact (Move.lockGrants hm hl).moves
  · rename_i h hl
    split
    · exact (Move.answer _ hm).moves
    · rename_i hne
      split
      · exact (Move.answer _ hm).moves
      · exact (Move.lockParks hm hl hne).moves

theorem execAcquire_leadsTo : s.LeadsTo (execAcquire cx s) := by
  refine State.leadsTo_take fun s h => State.leadsTo_onTarget h.mayAnswer fun l _ => ?_
  split
  · exact State.leadsTo_next (State.moves_acquireLock h.mayAnswer l)
  · exact State.leadsTo_failed h.mayAnswer _

theorem execRelease_leadsTo : s.LeadsTo (execRelease cx s) :=
  State.leadsTo_take fun _ h => State.leadsTo_onTarget h.mayAnswer fun _ _ =>
    State.leadsTo_judgeHolder h.mayAnswer fun hl => State.leadsTo_next (Move.lockReleases _ h.mayAnswer hl).moves

theorem execRenew_leadsTo : s.LeadsTo (execRenew cx s) :=
  State.leadsTo_take fun _ h => State.leadsTo_onTarget h.mayAnswer fun _ _ =>
    State.leadsTo_judgeHolder h.mayAnswer fun hl => State.leadsTo_answer h.mayAnswer
      (State.alike_modLock ⟨rfl, rfl, rfl, fun e => by simp [hl] at e⟩) _

theorem execInspectLock_leadsTo : s.LeadsTo (execInspectLock cx s) :=
  State.leadsTo_take fun _ h => State.leadsTo_onTarget h.mayAnswer fun _ _ => State.leadsTo_complete h.mayAnswer _

theorem execSetLock_leadsTo : s.LeadsTo (execSetLock cx s) :=
  State.leadsTo_take fun _ h => State.leadsTo_asManager h.mayAnswer <| State.leadsTo_onTarget h.mayAnswer fun _ _ =>
    State.leadsTo_answer h.mayAnswer (State.alike_modLock ⟨rfl, rfl, rfl, fun _ => rfl⟩) _

variable {s} {cx} in
theorem State.leadsTo_forceReleaseLock (hm : s.MayAnswer .lu cx) : s.LeadsTo (s.forceReleaseLock cx) := by
  refine State.leadsTo_asManager hm <| State.leadsTo_onTarget hm fun l _ => ?_
  dsimp only
  split
  · exact State.leadsTo_complete hm _
  · exact State.leadsTo_next (Move.lockForced l .forced s.epoch _ hm).moves

theorem execForceRelease_leadsTo (part : ForcedStep) : s.LeadsTo (execForceRelease part s) := by
  unfold execForceRelease
  cases part with
  | whole cx => exact State.leadsTo_take fun _ h => State.leadsTo_forceReleaseLock h.mayAnswer
  | starts cx =>
    refine State.leadsTo_take fun s h => State.leadsTo_next (Move.moves ?_)
    exact Move.forces h.mayAnswer.pending h.code (by simp [State.luTickOpen, h.luTicks rfl])
  | ends cx =>
    refine State.leadsTo_live ?_
    split
    · rename_i h
      exact State.leadsTo_trans Move.forced.moves (State.leadsTo_forceReleaseLock ⟨h.2.1, nofun, fun _ => rfl⟩)
    · exact s.leadsTo_self

theorem State.moves_visitLease (epoch : BitVec 16) (l : LockNum) : s.Moves (s.visitLease epoch l) := by
  have quiet (h : (s.lock l).running = true) : s.Alike (s.modLock l fun x => { x with lease := x.lease - 1 }) :=
    State.alike_modLock ⟨rfl, rfl, rfl, fun e => by simp [Lock.running, e] at h⟩
  rcases s.visitLease_cases epoch l with ⟨_, e⟩ | ⟨hr, _, e⟩ | ⟨hr, e⟩
  · rw [e]
  · rw [e]
    exact (quiet hr).moves
  · rw [e]
    simp only [Lock.runsOut, Bool.and_eq_true] at hr
    exact (quiet hr.1).moves.tail (.lockRevoked l _ _)

theorem State.moves_visitLeases (epoch : BitVec 16) (lo hi : Nat) : s.Moves (s.visitLeases epoch lo hi) :=
  State.moves_foldl _ (fun s l => s.moves_visitLease epoch l) _ _

theorem State.moves_luTickUpTo (t : LuTick) (hi : Nat) : s.Moves (s.luTickUpTo t hi) := by
  unfold State.luTickUpTo
  split
  · exact s.moves_visitLeases _ _ _
  · exact Move.lockWaitsCount.moves.trans (State.moves_visitLeases _ _ _ _)

/-! Within the step of a tick event LU stays out of any FORCE RELEASE. -/

@[simp] theorem State.grantLock_forcing (l : LockNum) : (s.grantLock l cx).forcing = s.forcing := by
  simp [State.grantLock]

@[simp] theorem State.grantHead_forcing (l : LockNum) : (s.grantHead l).forcing = s.forcing := by
  unfold State.grantHead
  split <;> simp

@[simp] theorem State.revoke_forcing (l : LockNum) (cause : RevocationCause) (epoch : BitVec 16) :
    (s.revoke l cause epoch).forcing = s.forcing := by
  unfold State.revoke
  split <;> simp

@[simp] theorem State.visitLease_forcing (epoch : BitVec 16) (l : LockNum) :
    (s.visitLease epoch l).forcing = s.forcing := by
  rcases s.visitLease_cases epoch l with ⟨_, e⟩ | ⟨_, _, e⟩ | ⟨_, e⟩ <;> simp [e]

@[simp] theorem State.visitLeases_forcing (epoch : BitVec 16) (lo hi : Nat) :
    (s.visitLeases epoch lo hi).forcing = s.forcing :=
  foldl_keeps State.forcing _ (fun s l => s.visitLease_forcing epoch l) _ s

@[simp] theorem State.luTickUpTo_forcing (t : LuTick) (hi : Nat) : (s.luTickUpTo t hi).forcing = s.forcing := by
  unfold State.luTickUpTo
  split <;> simp [State.countLockWaits]

variable {s} in
theorem State.leadsTo_onLuTick {k : LuTick → List LuTick → Out}
    (h : ∀ t rest, s.forcing = none → s.luTicks = t :: rest → s.LeadsTo (k t rest)) : s.LeadsTo (s.onLuTick k) := by
  rcases s.onLuTick_cases k with ⟨t, rest, _, hf, ht, e⟩ | e <;> rw [e]
  · exact h t rest hf ht
  · exact s.leadsTo_self

theorem execLuTick_leadsTo : s.LeadsTo (execLuTick s) :=
  State.leadsTo_onLuTick fun t rest hf _ => State.leadsTo_next
    ((s.moves_luTickUpTo t 64).trans (State.alike_setLuTicks (by simpa using hf) rest).moves)

theorem execLockWaitTimeout_leadsTo : s.LeadsTo (execLockWaitTimeout cx s) := by
  refine State.leadsTo_onLuTick fun t rest hf _ => ?_
  split
  · exact s.leadsTo_self
  · split
    · rename_i hd
      refine State.leadsTo_trans (State.alike_setLuTicks hf ({ t with point := .waits } :: rest)).moves
        (State.leadsTo_next (Move.lockWaitEnds { code := .timeout } (.inr ?_)).moves)
      simp only [State.lockTimeoutDue, State.lockTimeouts, List.contains_iff_mem, List.mem_flatMap, List.mem_map,
        List.mem_filter] at hd
      obtain ⟨l, hl, w, ⟨hw, _⟩, rfl⟩ := hd
      exact List.mem_flatMap.2 ⟨l, hl, List.mem_map_of_mem hw⟩
    · exact s.leadsTo_self

theorem execLeaseExpiry_leadsTo (l : LockNum) : s.LeadsTo (execLeaseExpiry l s) := by
  refine State.leadsTo_onLuTick fun t rest hf _ => ?_
  split
  · exact s.leadsTo_self
  · dsimp only
    split
    · exact State.leadsTo_next (((s.moves_luTickUpTo t l.val).trans (State.moves_visitLease _ t.epoch l)).trans
        (State.alike_setLuTicks (by simpa using hf) _).moves)
    · exact s.leadsTo_self

theorem execLockWaitAbort_leadsTo : s.LeadsTo (execLockWaitAbort cx s) := by
  refine State.leadsTo_live ?_
  split
  · rename_i h
    exact State.leadsTo_next (Move.lockWaitEnds _ (.inl h.1)).moves
  · exact s.leadsTo_self

end LockUnit

/-! ### CU -/

section ChannelUnit
variable (cx : CtxNum) (s : State)

/-- A message into a context's buffer. -/
theorem State.alike_withWords (ws : List Word) : s.Alike (s.modCtx cx fun c => c.withWords ws) :=
  State.alike_modCtx rfl fun _ => rfl

/-- Updates of a channel and of a context, in either order. -/
theorem State.modChan_modCtx (n : ChanNum) (f : Channel → Channel) (g : Context → Context) :
    (s.modChan n f).modCtx cx g = (s.modCtx cx g).modChan n f := rfl

theorem State.modChan_setFlagAt (n m : ChanNum) (f : Channel → Channel) (p : Port) (k : FlagKind) :
    (s.modChan n f).setFlagAt p m k = (s.setFlagAt p m k).modChan n f := rfl

/-- What a SEND does where its message is accepted, in the order of elementary changes. -/
theorem State.leadsTo_acceptSend {s : State} {cx : CtxNum} (hm : s.MayAnswer .cu cx) (n : ChanNum) (b : Binding) :
    s.LeadsTo (.next (s.acceptSend n b cx)) := by
  unfold State.acceptSend
  dsimp only
  split
  · have quiet : s.Alike (s.modChan n fun c => c.accepted (s.messageOf cx (s.chan n))) :=
      State.alike_modChan ⟨rfl, rfl, .inl⟩
    refine State.leadsTo_trans quiet.moves ?_
    exact State.leadsTo_answer (quiet.mayAnswer hm) (State.alike_sendCu _ _ _) _
  · rename_i r rest hr
    have quiet := s.alike_withWords r.ctx (s.messageOf cx (s.chan n)).words
    rw [State.deliver, State.modChan_modCtx]
    refine State.leadsTo_trans quiet.moves (State.leadsTo_next (Move.moves ?_))
    refine Move.chanServesFor (n := n) _ _ (quiet.mayAnswer hm) ?_ rfl
    simpa only [State.modCtx_chan, Channel.waiters, hr, List.map_append, List.map_cons] using List.perm_middle.symm

theorem State.leadsTo_parkAtChannel {s : State} {cx : CtxNum} (hm : s.MayAnswer .cu cx) (n : ChanNum)
    (join : WaitEntry → Channel → Channel)
    (hq : ∀ e, e.ctx = cx → (join e (s.chan n)).waiters.Perm (cx :: (s.chan n).waiters))
    (hb : ∀ e, (join e (s.chan n)).binding ≠ none) : s.LeadsTo (.next (s.parkAtChannel n cx join)) :=
  State.leadsTo_next (Move.chanParks hm (hq _ rfl) (hb _)).moves

theorem execSend_leadsTo : s.LeadsTo (execSend cx s) := by
  refine State.leadsTo_take fun s h => State.leadsTo_onTarget h.mayAnswer fun n _ =>
    State.leadsTo_onChannel h.mayAnswer fun b hb => ?_
  dsimp only
  split
  · exact State.leadsTo_acceptSend h.mayAnswer n b
  · split
    · exact State.leadsTo_complete h.mayAnswer _
    · refine State.leadsTo_parkAtChannel h.mayAnswer n _ (fun e he => ?_) fun e => by simp [hb]
      simp [Channel.waiters, he, List.perm_middle]

/-- What follows the freeing of a slot. -/
theorem State.leadsTo_refill {s : State} (n : ChanNum) (b : Binding) : s.LeadsTo (.next (s.refill n b)) := by
  unfold State.refill
  dsimp only
  split
  · exact State.leadsTo_next (s.moves_sendCuAll _ _)
  · rename_i e rest hr
    rw [State.modChan_setFlagAt]
    refine State.leadsTo_trans (s.alike_sendCu b.receiver { channel := n, kind := .data, set := true }).moves
      (State.leadsTo_next (Move.moves ?_))
    refine Move.chanServes (n := n) (cx := e.ctx) _ ?_ rfl
    simp [Channel.waiters, Channel.accepted, hr]

theorem execReceive_leadsTo : s.LeadsTo (execReceive cx s) := by
  refine State.leadsTo_take fun s h => State.leadsTo_onTarget h.mayAnswer fun n _ =>
    State.leadsTo_onChannel h.mayAnswer fun b hb => ?_
  dsimp only
  split
  · rename_i m rest _
    have freed : s.Alike (s.modChan n fun c => { c with slots := rest }) := State.alike_modChan ⟨rfl, rfl, .inl⟩
    have filled := (s.modChan n fun c => { c with slots := rest }).alike_withWords cx m.words
    have hm := filled.mayAnswer (freed.mayAnswer h.mayAnswer)
    exact State.leadsTo_trans (freed.moves.trans (filled.moves.tail (.answer (receiveAnswer m) hm)))
      (State.leadsTo_refill n b)
  · split
    · exact State.leadsTo_complete h.mayAnswer _
    · refine State.leadsTo_parkAtChannel h.mayAnswer n _ (fun e he => ?_) fun e => by simp [hb]
      simp only [Channel.waiters, List.map_append, List.map_cons, List.map_nil, he, ← List.append_assoc]
      exact List.perm_append_singleton _ _

theorem execInspectChannel_leadsTo : s.LeadsTo (execInspectChannel cx s) := by
  refine State.leadsTo_take fun s h => State.leadsTo_onTarget h.mayAnswer fun n _ => ?_
  split
  · exact State.leadsTo_complete h.mayAnswer _
  · exact State.leadsTo_failed h.mayAnswer _

/-- Settings and clearings to several ports before a request ends. -/
theorem State.mayAnswer_sendCuAll {s : State} {u : UnitId} {cx : CtxNum} (hm : s.MayAnswer u cx) (b : BitVec 4)
    (m : CuMessage) : (s.sendCuAll b m).MayAnswer u cx :=
  ⟨by simpa using hm.pending, fun e => by simpa using hm.inspection e, fun e => by simpa using hm.forcing e⟩

theorem execBindChannel_leadsTo : s.LeadsTo (execBindChannel cx s) := by
  refine State.leadsTo_take fun s h => State.leadsTo_asManager h.mayAnswer <|
    State.leadsTo_onTarget h.mayAnswer fun n _ => ?_
  split
  · exact State.leadsTo_failed h.mayAnswer _
  · rename_i hb
    dsimp only
    have bind : Move s (s.modChan n fun _ => ⟨some (bindingField (s.ctx cx).command.operand), 0, [], [], []⟩) :=
      .chanBinds hb rfl
    have hm : (s.modChan n fun _ => ⟨some (bindingField (s.ctx cx).command.operand), 0, [], [], []⟩).MayAnswer .cu cx :=
      ⟨h.mayAnswer.pending, nofun, nofun⟩
    exact State.leadsTo_trans bind.moves (State.leadsTo_trans (State.moves_sendCuAll _ _ _)
      (State.leadsTo_complete (State.mayAnswer_sendCuAll hm _ _) _))

theorem execUnbindChannel_leadsTo : s.LeadsTo (execUnbindChannel cx s) := by
  refine State.leadsTo_take fun s h => State.leadsTo_asManager h.mayAnswer <|
    State.leadsTo_onTarget h.mayAnswer fun n _ => ?_
  dsimp only
  split
  · exact State.leadsTo_failed h.mayAnswer _
  · rename_i b hb
    split
    · rename_i hq
      simp only [Channel.quiet, Bool.and_eq_true, List.isEmpty_iff] at hq
      obtain ⟨⟨_, hs⟩, hr⟩ := hq
      exact State.leadsTo_answer h.mayAnswer (State.alike_modChan ⟨hs.symm, hr.symm, fun _ => .inr ⟨hs, hr⟩⟩) _
    · split
      · exact State.leadsTo_next (Move.chanUnbinds n b _ h.mayAnswer).moves
      · exact State.leadsTo_complete h.mayAnswer _

theorem execCuTick_leadsTo : s.LeadsTo (execCuTick s) := by
  refine State.leadsTo_live ?_
  split
  · exact s.leadsTo_self
  · exact State.leadsTo_next (Move.chanWaitsCount.moves.trans (State.alike_setCuTicks _ _ _).moves)

theorem execChannelWaitTimeout_leadsTo : s.LeadsTo (execChannelWaitTimeout cx s) := by
  refine State.leadsTo_live ?_
  split
  · rename_i hd
    refine State.leadsTo_trans (s.alike_setCuTicks s.cuTicks true).moves
      (State.leadsTo_next (Move.chanWaitEnds { code := .timeout } (.inr ?_)).moves)
    have hd := hd.2
    simp only [State.channelTimeouts, List.contains_iff_mem, List.mem_flatMap, List.mem_map, List.mem_filter] at hd
    obtain ⟨n, hn, e, ⟨he, _⟩, rfl⟩ := hd
    exact List.mem_flatMap.2 ⟨n, hn, List.mem_map_of_mem he⟩
  · exact s.leadsTo_self

theorem execChannelWaitAbort_leadsTo : s.LeadsTo (execChannelWaitAbort cx s) := by
  refine State.leadsTo_live ?_
  split
  · rename_i h
    exact State.leadsTo_next (Move.chanWaitEnds _ (.inl h.1)).moves
  · exact s.leadsTo_self

end ChannelUnit

/-! ### SU and the pins -/

section SystemUnit
variable (cx : CtxNum) (s : State)

theorem execSetPortKeys_leadsTo : s.LeadsTo (execSetPortKeys cx s) :=
  State.leadsTo_take fun s h => State.leadsTo_asManager h.mayAnswer <| State.leadsTo_onTarget h.mayAnswer fun _ _ =>
    State.leadsTo_answer h.mayAnswer (s.alike_setKeyPair _ _) _

theorem execSetTick_leadsTo : s.LeadsTo (execSetTick cx s) :=
  State.leadsTo_take fun s h => State.leadsTo_asManager h.mayAnswer <|
    State.leadsTo_answer h.mayAnswer (s.alike_setTickGenerator _ _) _

theorem execEvictPort_leadsTo : s.LeadsTo (execEvictPort cx s) :=
  State.leadsTo_take fun _ h => State.leadsTo_asManager h.mayAnswer <| State.leadsTo_onTarget h.mayAnswer fun _ _ =>
    State.leadsTo_answer h.mayAnswer (State.alike_modLink ⟨fun _ => Iff.rfl, rfl, rfl, rfl, rfl, rfl⟩) _

/-- The reads of one INSPECT PORT: the step goes on, or the request ends. -/
theorem State.leadsTo_inspectionStands {s : State} {g : Inspection} (hp : (s.ctx g.ctx).state = .pending .su)
    (hc : (s.ctx g.ctx).command.code = Command.inspectPort.code)
    (ho : (s.ctx g.ctx).command.object.toNat = g.port.val ∨
      ∃ g' ∈ s.inspection, g'.ctx = g.ctx ∧ g'.port = g.port) : s.LeadsTo (.next (s.inspectionStands g)) := by
  unfold State.inspectionStands
  split
  · have hm : ({ s with inspection := none } : State).MayAnswer .su g.ctx := ⟨hp, fun _ => rfl, nofun⟩
    exact State.leadsTo_trans Move.inspected.moves (State.leadsTo_complete hm _)
  · rename_i hne
    refine State.leadsTo_next (Move.inspects g hp hc ho ?_).moves
    cases ha : g.portState <;> cases hb : g.contexts <;> cases hl : g.locks <;> simp
    exact hne _ _ _ ha hb hl

@[simp] theorem Inspection.read_ctx (g : Inspection) (i : InspectItem) : (g.read i s).ctx = g.ctx := by
  cases i <;> rfl

@[simp] theorem Inspection.read_port (g : Inspection) (i : InspectItem) : (g.read i s).port = g.port := by
  cases i <;> rfl

theorem execInspectPort_leadsTo (part : InspectPart) : s.LeadsTo (execInspectPort cx part s) := by
  unfold execInspectPort
  cases part with
  | whole =>
    exact State.leadsTo_take fun _ h => State.leadsTo_onTarget h.mayAnswer fun _ _ =>
      State.leadsTo_complete h.mayAnswer _
  | item i =>
    unfold State.inspectItem
    dsimp only
    split
    · rename_i g hg
      refine State.leadsTo_live ?_
      split
      · rename_i h
        obtain ⟨rfl, hp, hc⟩ := h
        exact State.leadsTo_inspectionStands (by simpa using hp) (by simpa using hc) (.inr ⟨g, hg, by simp⟩)
      · exact s.leadsTo_self
    · refine State.leadsTo_take fun s h => State.leadsTo_onTarget h.mayAnswer fun p hp => ?_
      have ho := CommandRecord.objectBelow_eq_some.1 hp
      refine State.leadsTo_inspectionStands ?_ ?_ (.inl ?_)
      · rw [Inspection.read_ctx]
        exact h.mayAnswer.pending
      · rw [Inspection.read_ctx]
        exact h.code
      · rw [Inspection.read_ctx, Inspection.read_port]
        exact ho

end SystemUnit

end Sys2Proof.Machine

namespace Sys2Proof.Machine

/-! ### Withdrawal notices -/

section OnlyEnds

/-- The state of each context in `t` is the one it has in `s`, unless its request has ended. -/
def State.OnlyEnds (s t : State) : Prop :=
  ∀ cx, (t.ctx cx).state = (s.ctx cx).state ∨ (t.ctx cx).state.busy = false

variable {s t u : State}

theorem State.OnlyEnds.of_contexts (h : t.contexts = s.contexts) : s.OnlyEnds t :=
  fun cx => .inl (by simp only [State.ctx, h])

theorem State.OnlyEnds.of_eq (h : t.OnlyEnds u) (e : t.contexts = s.contexts) : s.OnlyEnds u := fun cx => by
  simpa only [State.ctx, e] using h cx

theorem State.OnlyEnds.trans (h : s.OnlyEnds t) (h' : t.OnlyEnds u) : s.OnlyEnds u := fun cx =>
  (h' cx).elim (fun e => e ▸ h cx) .inr

theorem State.onlyEnds_foldl {α : Type} (f : State → α → State) (h : ∀ (s : State) a, s.OnlyEnds (f s a)) (l : List α)
    (s : State) : s.OnlyEnds (l.foldl f s) := by
  induction l generalizing s with
  | nil => exact .of_contexts rfl
  | cons a l ih => exact (h s a).trans (ih _)

/-- A state of a busy context that no context of a port is in comes back by no ending. -/
theorem State.OnlyEnds.ne (h : s.OnlyEnds t) {x : CtxState} (hx : x.busy = true) {cx : CtxNum}
    (hs : (s.ctx cx).state ≠ x) : (t.ctx cx).state ≠ x := by
  rcases h cx with e | e
  · rwa [e]
  · rintro rfl
    simp [hx] at e

/-- The contexts of a port are IDLE when its withdrawal completes (R141). -/
theorem State.completeWithdrawal_ctx_state (s : State) (p : Port) (m : Bool) (cx : CtxNum) :
    ((s.completeWithdrawal p m).ctx cx).state = if portOf cx = p then .idle else (s.ctx cx).state := by
  cases m <;> by_cases h : portOf cx = p <;>
    simp [State.completeWithdrawal, State.portResetClearing, Context.released, Context.reset, h]

theorem State.onlyEnds_testWithdrawal (s : State) (p : Port) : s.OnlyEnds (s.testWithdrawal p) := by
  rcases s.testWithdrawal_cases p with e | ⟨_, m, _, _, _, e⟩ <;> rw [e]
  · exact .of_contexts rfl
  · intro cx
    rw [State.completeWithdrawal_ctx_state]
    split
    · exact .inr rfl
    · exact .inl rfl

theorem State.onlyEnds_completed (s : State) (cx : CtxNum) (r : Answer) :
    s.OnlyEnds (s.modCtx cx fun c => c.completed r) := by
  intro c
  by_cases h : c = cx
  · subst h
    exact .inr (by simp [Context.completed, CtxState.busy, CtxState.owner])
  · exact .inl (by simp [h])

theorem State.onlyEnds_complete (s : State) (cx : CtxNum) (r : Answer) : s.OnlyEnds (s.complete cx r) :=
  (s.onlyEnds_completed cx r).trans (State.onlyEnds_testWithdrawal _ _)

/-- A completed context is not busy. -/
theorem State.complete_ctx_busy (s : State) (cx : CtxNum) (r : Answer) : ((s.complete cx r).ctx cx).state.busy = false := by
  rcases State.onlyEnds_testWithdrawal (s.modCtx cx fun c => c.completed r) (portOf cx) cx with h | h
  · rw [State.complete, h]
    simp [Context.completed, CtxState.busy, CtxState.owner]
  · exact h

theorem State.onlyEnds_cancelAll (s : State) (p : Port) (x : CtxState) : s.OnlyEnds (s.cancelAll p x) := by
  refine State.onlyEnds_foldl _ (fun s c => ?_) _ _
  split
  · exact s.onlyEnds_complete _ _
  · exact .of_contexts rfl

/-- Once the requests of a port in a state have been cancelled, none is in it. -/
theorem State.cancelAll_ne (s : State) {p : Port} {x : CtxState} (hx : x.busy = true) {cx : CtxNum}
    (hp : portOf cx = p) : ((s.cancelAll p x).ctx cx).state ≠ x := by
  have step : ∀ (cs : List (Fin 4)) (s : State), slotOf cx ∈ cs → ((cs.foldl (fun s c =>
      if (s.ctx (ctxOf p c)).state = x then s.complete (ctxOf p c) { code := .cancelled } else s) s).ctx cx).state ≠ x := by
    intro cs
    induction cs with
    | nil => simp
    | cons c cs ih =>
      intro s h
      rw [List.foldl_cons]
      by_cases hc : slotOf cx ∈ cs
      · exact ih _ hc
      · have e : ctxOf p c = cx := by
          rw [← hp, ← (List.mem_cons.1 h).resolve_right hc, ctxOf_portOf_slotOf]
        refine State.OnlyEnds.ne (State.onlyEnds_foldl _ (fun s c => ?_) _ _) hx ?_
        · split
          · exact s.onlyEnds_complete _ _
          · exact .of_contexts rfl
        · rw [e]
          split
          · intro h
            have := s.complete_ctx_busy cx { code := .cancelled }
            rw [h, hx] at this
            exact Bool.noConfusion this
          · assumption
  exact step allSlots s (mem_allSlots _)

theorem State.onlyEnds_grantLock (s : State) (l : LockNum) (cx : CtxNum) : s.OnlyEnds (s.grantLock l cx) :=
  (State.onlyEnds_complete _ _ _).of_eq (s.modLock_contexts _ _)

theorem State.onlyEnds_grantHead (s : State) (l : LockNum) : s.OnlyEnds (s.grantHead l) := by
  unfold State.grantHead
  split
  · exact .of_contexts rfl
  · exact (State.onlyEnds_grantLock _ _ _).of_eq (s.modLock_contexts _ _)

theorem State.onlyEnds_revoke (s : State) (l : LockNum) (cause : RevocationCause) (epoch : BitVec 16) :
    s.OnlyEnds (s.revoke l cause epoch) := by
  unfold State.revoke
  split
  · exact .of_contexts rfl
  · exact (State.onlyEnds_grantHead _ _).of_eq ((State.sendLu_contexts _ _ _).trans (s.modLock_contexts _ _))

theorem State.onlyEnds_revokePort (s : State) (p : Port) : s.OnlyEnds (s.revokePort p) := by
  refine State.onlyEnds_foldl _ (fun s l => ?_) _ _
  split
  · exact s.onlyEnds_revoke _ _ _
  · exact .of_contexts rfl

end OnlyEnds

/-! A unit drops its notice before it does its part or after: the part does not look at it. -/

section DropNotice
variable (s : State) (p : Port) (f : Links → Links)

theorem State.testWithdrawal_modLink (q : Port) : (s.modLink p f).testWithdrawal q = (s.testWithdrawal q).modLink p f := by
  unfold State.testWithdrawal
  rw [State.modLink_port]
  split
  · rename_i acks mark h
    have e : (s.modLink p f).portAtRest q = s.portAtRest q := rfl
    rw [e]
    split
    · cases mark <;> rfl
    · rfl
  · rfl

theorem State.complete_modLink (cx : CtxNum) (r : Answer) : (s.modLink p f).complete cx r = (s.complete cx r).modLink p f :=
  State.testWithdrawal_modLink (s.modCtx cx fun c => c.completed r) p f (portOf cx)

variable {p f} in
theorem State.foldl_modLink {α : Type} (g : State → α → State)
    (h : ∀ (s : State) a, g (s.modLink p f) a = (g s a).modLink p f) (l : List α) (s : State) :
    l.foldl g (s.modLink p f) = (l.foldl g s).modLink p f := by
  induction l generalizing s with
  | nil => rfl
  | cons a l ih => rw [List.foldl_cons, h, ih, List.foldl_cons]

theorem State.cancelAll_modLink (q : Port) (x : CtxState) :
    (s.modLink p f).cancelAll q x = (s.cancelAll q x).modLink p f := by
  refine State.foldl_modLink _ (fun s c => ?_) _ _
  rw [State.modLink_ctx]
  split
  · exact s.complete_modLink _ _ _ _
  · rfl

variable (u : UnitId)

theorem State.sendLu_dropNotice (q : Port) (m : LuMessage) :
    (s.dropNotice p u).sendLu q m = (s.sendLu q m).dropNotice p u := by
  unfold State.dropNotice State.sendLu State.modLink
  congr 1
  apply Table.ext_at
  intro r
  by_cases hp : r = p <;> by_cases hq : r = q <;> simp_all [State.link, Table.at_put]

theorem State.modLock_modLink (l : LockNum) (g : Lock → Lock) :
    (s.modLink p f).modLock l g = (s.modLock l g).modLink p f := rfl

theorem State.mapLocks_modLink (g : Lock → Lock) : (s.modLink p f).mapLocks g = (s.mapLocks g).modLink p f := by
  simp only [State.modLink, State.mapLocks, State.link]

theorem State.mapChans_modLink (g : Channel → Channel) : (s.modLink p f).mapChans g = (s.mapChans g).modLink p f := by
  simp only [State.modLink, State.mapChans, State.link]

theorem State.modPortCtxs_modLink (q : Port) (g : Context → Context) :
    (s.modLink p f).modPortCtxs q g = (s.modPortCtxs q g).modLink p f := by
  simp only [State.modLink, State.modPortCtxs, State.mapCtxs, State.link]

theorem State.grantLock_modLink (l : LockNum) (cx : CtxNum) :
    (s.modLink p f).grantLock l cx = (s.grantLock l cx).modLink p f := by
  unfold State.grantLock
  dsimp only
  rw [State.modLink_lock, State.modLock_modLink, State.complete_modLink]

theorem State.grantHead_dropNotice (l : LockNum) : (s.dropNotice p u).grantHead l = (s.grantHead l).dropNotice p u := by
  unfold State.grantHead State.dropNotice
  rw [State.modLink_lock]
  split
  · rfl
  · rw [State.modLock_modLink, State.grantLock_modLink]

theorem State.revoke_dropNotice (l : LockNum) (cause : RevocationCause) (epoch : BitVec 16) :
    (s.dropNotice p u).revoke l cause epoch = (s.revoke l cause epoch).dropNotice p u := by
  have e : (s.dropNotice p u).lock l = s.lock l := rfl
  unfold State.revoke
  rw [e]
  split
  · rfl
  · dsimp only
    rw [← State.grantHead_dropNotice, ← State.sendLu_dropNotice]
    rfl

theorem State.revokePort_dropNotice (q : Port) : (s.dropNotice p u).revokePort q = (s.revokePort q).dropNotice p u := by
  refine State.foldl_modLink _ (fun s l => ?_) _ _
  rw [State.modLink_lock]
  split
  · exact s.revoke_dropNotice p u l _ _
  · rfl

end DropNotice

section Notices
variable {s : State} {p : Port}

/-- The PENDING requests of a port at a unit that is within no step are cancelled, one by one. -/
theorem State.moves_cancelPending {u : UnitId} (hi : u = .su → s.inspection = none) (hf : u = .lu → s.forcing = none)
    (p : Port) : s.Moves (s.cancelAll p (.pending u)) := by
  have step : ∀ (cs : List (Fin 4)) (s : State), (u = .su → s.inspection = none) → (u = .lu → s.forcing = none) →
      s.Moves (cs.foldl (fun s c => if (s.ctx (ctxOf p c)).state = .pending u then
        s.complete (ctxOf p c) { code := .cancelled } else s) s) := by
    intro cs
    induction cs with
    | nil => exact fun _ _ _ => .refl
    | cons c cs ih =>
      intro s hi hf
      rw [List.foldl_cons]
      split
      · rename_i h
        exact (Move.answer { code := .cancelled } ⟨h, hi, hf⟩).moves.trans (ih _ (by simpa using hi) (by simpa using hf))
      · exact ih s hi hf
  exact step allSlots s hi hf

theorem State.moves_muWithdraw (hn : (s.link p).notices.get .mu ≠ .none) : s.Moves ((s.dropNotice p .mu).muWithdraw p) := by
  have cancelled := State.moves_cancelPending (s := s) (u := .mu) nofun nofun p
  have stopped := (s.cancelAll p (.pending .mu)).alike_stopFills p (fun _ => true) .cancelled
  rw [State.muWithdraw, State.dropNotice, State.cancelAll_modLink, State.modPortCtxs_modLink]
  refine (cancelled.trans stopped.moves).tail (.muTakesNotice (by simpa using hn) fun cx hp => ?_)
  rw [Ne, CtxState.eq_pending_of_bare (stopped.ctx cx)]
  exact s.cancelAll_ne rfl hp

@[simp] theorem State.revoke_notices (s : State) (l : LockNum) (cause : RevocationCause) (epoch : BitVec 16) (q : Port) :
    ((s.revoke l cause epoch).link q).notices = (s.link q).notices := by
  have grant (s : State) : (s.grantHead l).link q = s.link q := by
    unfold State.grantHead
    split <;> simp [State.grantLock]
  unfold State.revoke
  split
  · rfl
  · dsimp only
    rw [grant, State.sendLu, State.modLink_link]
    split
    · rename_i e
      subst e
      rfl
    · rfl

@[simp] theorem State.revokePort_notices (s : State) (p q : Port) :
    ((s.revokePort p).link q).notices = (s.link q).notices := by
  unfold State.revokePort
  refine foldl_keeps (fun s : State => (s.link q).notices) _ (fun s l => ?_) allLocks s
  split
  · exact s.revoke_notices l _ _ q
  · rfl

theorem State.moves_revokePort (s : State) (p : Port) : s.Moves (s.revokePort p) := by
  refine State.moves_foldl _ (fun s l => ?_) _ _
  split
  · exact (Move.lockRevoked l _ _).moves
  · exact .refl

theorem State.moves_luWithdraw (hn : (s.link p).notices.get .lu ≠ .none) (hf : s.forcing = none) :
    s.Moves ((s.dropNotice p .lu).luWithdraw p) := by
  set s₁ := s.cancelAll p (.pending .lu) with h₁
  set s₂ := (s₁.mapLocks fun k => { k with queue := leaveQueueOfPort p k.queue }).cancelAll p (.waiting .lu) with h₂
  have e : (s.dropNotice p .lu).luWithdraw p = (s₂.revokePort p).answerNotice p .lu := by
    rw [State.luWithdraw, State.dropNotice, State.cancelAll_modLink]
    rw [State.mapLocks_modLink, State.cancelAll_modLink]
    exact congrArg (State.sendLu · p .acknowledge) (s₂.revokePort_dropNotice p .lu p)
  have m₁ : s.Moves s₁ := State.moves_cancelPending (u := .lu) nofun (fun _ => hf) p
  have m₂ : s₁.Moves s₂ := (Move.lockWaitsCancelled p).moves
  rw [e]
  refine ((m₁.trans m₂).trans (s₂.moves_revokePort p)).tail (.answersNotice nofun ?_ fun cx hp => ⟨?_, ?_⟩)
  · simpa [h₁, h₂] using hn
  · have ends : s₁.OnlyEnds s₂ := (State.onlyEnds_cancelAll _ p _).of_eq (s₁.mapLocks_contexts _)
    exact (ends.trans (s₂.onlyEnds_revokePort p)).ne rfl (s.cancelAll_ne rfl hp)
  · exact fun _ => (s₂.onlyEnds_revokePort p).ne rfl (State.cancelAll_ne _ rfl hp)

theorem State.moves_cuWithdraw (hn : (s.link p).notices.get .cu ≠ .none) : s.Moves ((s.dropNotice p .cu).cuWithdraw p) := by
  set s₁ := s.cancelAll p (.pending .cu) with h₁
  set s₂ := (s₁.mapChans fun c =>
    { c with senders := leaveEntriesOfPort p c.senders, receivers := leaveEntriesOfPort p c.receivers }).cancelAll p
      (.waiting .cu) with h₂
  have e : (s.dropNotice p .cu).cuWithdraw p = s₂.answerNotice p .cu := by
    rw [State.cuWithdraw, State.dropNotice, State.cancelAll_modLink]
    rw [State.mapChans_modLink, State.cancelAll_modLink]
    rfl
  have m₁ : s.Moves s₁ := State.moves_cancelPending (u := .cu) nofun nofun p
  rw [e]
  refine (m₁.tail (.chanWaitsCancelled p)).tail (.answersNotice nofun ?_ fun cx hp => ⟨?_, ?_⟩)
  · simpa [h₁] using hn
  · have ends : s₁.OnlyEnds s₂ := (State.onlyEnds_cancelAll _ p _).of_eq (s₁.mapChans_contexts _)
    exact ends.ne rfl (s.cancelAll_ne rfl hp)
  · exact fun _ => State.cancelAll_ne _ rfl hp

end Notices

end Sys2Proof.Machine

namespace Sys2Proof.Machine

section NoticesTaken
variable (s : State) (p : Port) (stage : NoticeStep)

/-- The arrival of a notice is no matter: it is under way before and after. -/
theorem State.alike_noticeArrives {s : State} {p : Port} {u : UnitId} (h : (s.link p).notices.get u = .inTransit) :
    s.Alike (s.modLink p fun k => { k with notices := k.notices.set u (.standing 0) }) := by
  refine State.alike_modLink ⟨fun v => ?_, rfl, rfl, rfl, rfl, rfl⟩
  by_cases e : v = u
  · subst e
    simp [h]
  · simp [e]

/-- A notice that the unit takes is one that stands or is on its way, the unit within no step. -/
theorem State.leadsTo_withdrawalNotice {s : State} {p : Port} {u : UnitId} {stage : NoticeStep} {act : State → State}
    (h : s.takesNotice p u → s.Moves (act (s.dropNotice p u))) : s.LeadsTo (s.withdrawalNotice p u stage act) := by
  rcases s.withdrawalNotice_cases p u stage act with ⟨_, _, hn, e⟩ | ⟨_, ht, e⟩ | e <;> rw [e]
  · exact State.leadsTo_next (State.alike_noticeArrives hn).moves
  · exact State.leadsTo_next (h ht)
  · exact s.leadsTo_self

theorem execMuWithdrawalNotice_leadsTo : s.LeadsTo (execMuWithdrawalNotice p stage s) :=
  State.leadsTo_withdrawalNotice fun h => State.moves_muWithdraw h.2.1

theorem execLuWithdrawalNotice_leadsTo : s.LeadsTo (execLuWithdrawalNotice p stage s) := by
  refine State.leadsTo_withdrawalNotice fun h => State.moves_luWithdraw h.2.1 ?_
  have hm := h.2.2
  simp only [State.midStep_lu, Bool.or_eq_false_iff, Option.isSome_eq_false_iff, Option.isNone_iff_eq_none] at hm
  exact hm.2

theorem execCuWithdrawalNotice_leadsTo : s.LeadsTo (execCuWithdrawalNotice p stage s) :=
  State.leadsTo_withdrawalNotice fun h => State.moves_cuWithdraw h.2.1

/-- SU is within a step exactly while it reads the items of an INSPECT PORT. -/
@[simp] theorem State.midStep_su : s.midStep .su = s.inspection.isSome := rfl

theorem execSuWithdrawalNotice_leadsTo : s.LeadsTo (execSuWithdrawalNotice p stage s) := by
  refine State.leadsTo_withdrawalNotice fun ⟨_, hn, hm⟩ => ?_
  have hi : s.inspection = none := by simpa using hm
  have e : (s.dropNotice p .su).suWithdraw p = (s.cancelAll p (.pending .su)).answerNotice p .su := by
    rw [State.suWithdraw, State.dropNotice, State.cancelAll_modLink]
    rfl
  rw [e]
  have m : s.Moves (s.cancelAll p (.pending .su)) := State.moves_cancelPending (u := .su) (fun _ => hi) nofun p
  exact m.tail (.answersNotice nofun (by simpa using hn) fun cx hp => ⟨s.cancelAll_ne rfl hp, nofun⟩)

theorem execAbortNoticePending_leadsTo (cx : CtxNum) : s.LeadsTo (execAbortNoticePending cx s) := by
  refine State.leadsTo_live ?_
  split
  · rename_i u hp
    split
    · rename_i h
      refine State.leadsTo_next (Move.answer _ ⟨hp, ?_, ?_⟩).moves
      · rintro rfl
        simpa using h.2
      · rintro rfl
        have := h.2
        simp only [State.midStep_lu, Bool.or_eq_false_iff, Option.isSome_eq_false_iff,
          Option.isNone_iff_eq_none] at this
        exact this.2
    · exact s.leadsTo_self
  · exact s.leadsTo_self

end NoticesTaken

/-! ### Chip resets -/

section Resets
variable (s : State)

/-- Every block is at its reset values (R130). -/
theorem State.atResetValues_blocksAtReset : s.atResetValues.blocksAtReset := by
  simp [State.blocksAtReset, State.atResetValues, State.reset, State.ctx, State.port, State.link, State.lock, State.chan,
    State.seg, State.keyPair, Context.atReset, Context.reset, PortInterface.atReset, PortInterface.reset, Links.atReset,
    Links.quiet, PerUnit.all, Lock.reset, Channel.reset, CommandRecord.zero, ResultRecord.cleared]

theorem State.chipResetEvent_blocksAtReset (straps : Straps) : (s.chipResetEvent straps).blocksAtReset :=
  s.atResetValues_blocksAtReset

theorem execResetAssert_leadsTo : s.LeadsTo (execResetAssert s) := by
  have h : ({ s.atResetValues with resetHeld := true } : State).blocksAtReset := s.atResetValues_blocksAtReset
  exact State.leadsTo_next (Move.reset h).moves

theorem execResetRelease_leadsTo (straps : Straps) : s.LeadsTo (execResetRelease straps s) :=
  State.leadsTo_next (Move.reset (s.chipResetEvent_blocksAtReset straps)).moves

theorem execChipReset_leadsTo (cx : CtxNum) (straps : Straps) : s.LeadsTo (execChipReset cx straps s) :=
  State.leadsTo_take fun s h => State.leadsTo_asManager h.mayAnswer <|
    State.leadsTo_next (Move.reset (s.chipResetEvent_blocksAtReset straps)).moves

theorem execChipReady_leadsTo : s.LeadsTo (execChipReady s) := by
  refine State.leadsTo_live ?_
  split
  · refine State.leadsTo_next (State.Alike.moves ?_)
    exact State.alike_of_eq rfl rfl rfl rfl rfl rfl rfl fun _ => rfl
  · exact s.leadsTo_self

/-- A new tick event goes behind those that stand at LU, and its step has not begun. -/
theorem execPeriodEnd_leadsTo : s.LeadsTo (execPeriodEnd s) := by
  refine State.leadsTo_live ?_
  split
  · exact s.leadsTo_self
  · split
    · exact s.leadsTo_self
    · refine State.leadsTo_next (State.Alike.moves ?_)
      refine State.alike_of_eq rfl rfl rfl rfl rfl rfl rfl fun _ => ?_
      unfold State.luTickOpen
      cases s.luTicks <;> simp

end Resets

/-! ### The window -/

section Window
variable (s : State) (p : Port) (cx : CtxNum)

theorem State.leadsTo_word {s : State} {p : Port} {act : State → State} (h : ∀ s : State, s.Moves (act s))
    (dir : Direction) (a : WindowAddr) : s.LeadsTo (s.word p dir a act) := by
  rcases s.word_cases p dir a act with e | ⟨_, _, e⟩ | ⟨_, _, e⟩ <;> rw [e]
  · exact s.leadsTo_self
  · exact State.leadsTo_next (h s)
  · exact State.leadsTo_next ((h s).trans (State.alike_setFrame _ _ _).moves)

theorem State.alike_windowRefusal (cause : ErrorCause) (a : WindowAddr) : s.Alike (s.windowRefusal p cause a) :=
  State.alike_modPort rfl

theorem State.moves_goStrobe : s.Moves (s.goStrobe cx) := by
  have refuse (cause : ErrorCause) (a : WindowAddr) :
      s.Moves ((s.modCtx cx fun c => { c with goRefused := true }).windowRefusal (portOf cx) cause a) :=
    (State.alike_modCtx rfl fun _ => rfl).moves.trans (State.alike_windowRefusal _ _ _ _).moves
  unfold State.goStrobe
  dsimp only
  split
  · rename_i hp
    split
    · exact refuse _ _
    · rename_i hb
      exact (Move.goes hp (by simpa using hb)).moves
  · exact refuse _ _

theorem State.moves_ackStrobe : s.Moves (s.ackStrobe cx) := (Move.acks cx).moves

@[simp] theorem Context.abortRequested_state (c : Context) : c.abortRequested.state = c.state := by
  unfold Context.abortRequested
  split
  · rfl
  · rfl
  · split <;> rfl

@[simp] theorem Context.abortRequested_command (c : Context) : c.abortRequested.command = c.command := by
  unfold Context.abortRequested
  split
  · rfl
  · rfl
  · split <;> rfl

theorem State.moves_abortStrobe : s.Moves (s.abortStrobe cx) :=
  (State.alike_modCtx (by simp) fun _ => by simp).moves

theorem State.moves_attachAction : s.Moves (s.attachAction p) := by
  unfold State.attachAction
  split
  · rename_i h _
    exact (Move.attaches h).moves
  · exact (s.alike_windowRefusal _ _ _).moves
  · exact .refl
  · exact (s.alike_windowRefusal _ _ _).moves

theorem State.moves_detachAction : s.Moves (s.detachAction p) := by
  unfold State.detachAction
  split
  · rename_i h
    exact (Move.withdraws false h).moves
  · exact .refl

theorem State.moves_portResetAction : s.Moves (s.portResetAction p) := by
  unfold State.portResetAction
  split
  · rename_i h
    exact (Move.withdraws true h).moves
  · rename_i h
    exact (Move.marks h).moves
  · rename_i h
    exact (Move.clears h).moves

theorem State.moves_strobe {f : State → State} (h : ∀ s : State, s.Moves (f s)) (b : Bool) : s.Moves (strobe b f s) := by
  cases b
  · exact .refl
  · exact h s

/-- A write to a locked register leaves the state, and of a busy context everything. -/
theorem State.moves_lockedWrite (c : Fin 4) (a : WindowAddr) {f : Context → Context} (hf : ∀ x, (f x).state = x.state) :
    s.Moves (s.lockedWrite p c a f) := by
  rcases s.lockedWrite_cases p c a f with ⟨hb, e⟩ | ⟨_, e⟩ <;> rw [e]
  · exact (State.alike_modCtx (by rw [hf]) fun h => by simp [hb] at h).moves
  · exact (s.alike_windowRefusal _ _ _).moves

theorem State.moves_writeCtxRegister (c : Fin 4) (a : WindowAddr) (w : Word) (r : CtxRegister) :
    s.Moves (s.writeCtxRegister p c a w r) := by
  cases r with
  | control =>
    exact ((s.moves_strobe (fun s => s.moves_ackStrobe _) _).trans
      (State.moves_strobe _ (fun s => s.moves_goStrobe _) _)).trans (State.moves_strobe _ (fun s => s.moves_abortStrobe _) _)
  | command | target | operand | param | data | dataIndex => exact s.moves_lockedWrite p c a fun _ => rfl
  | state | resultCode | resultValue | resultAux | unimplemented => exact .refl

theorem State.moves_clearData (mask : BitVec 16) : s.Moves (s.clearData p mask) := (State.alike_modPort rfl).moves
theorem State.moves_clearSpace (mask : BitVec 16) : s.Moves (s.clearSpace p mask) := (State.alike_modPort rfl).moves
theorem State.moves_clearLeaseLost : s.Moves (s.clearLeaseLost p) := (State.alike_modPort rfl).moves
theorem State.moves_clearWindowError : s.Moves (s.clearWindowError p) := (State.alike_modPort rfl).moves
theorem State.moves_clearOverflow : s.Moves (s.clearOverflow p) := (State.alike_modPort rfl).moves
theorem State.moves_writeIntConfig (w : Word) : s.Moves (s.writeIntConfig p w) := (State.alike_modPort rfl).moves

theorem State.moves_writeEnables (k : Fin 3) (w : Word) : s.Moves (s.writeEnables p k w) := by
  refine (State.alike_modPort ?_).moves
  split
  · rfl
  · split <;> rfl

theorem State.moves_writeWord (a : WindowAddr) (w : Word) : s.Moves (s.writeWord p a w) := by
  unfold State.writeWord
  split
  · exact ((s.moves_strobe (fun s => s.moves_attachAction p) _).trans
      (State.moves_strobe _ (fun s => s.moves_detachAction p) _)).trans
        (State.moves_strobe _ (fun s => s.moves_portResetAction p) _)
  · split
    · exact (s.moves_strobe (fun s => s.moves_clearLeaseLost p) _).trans
        (State.moves_strobe _ (fun s => s.moves_clearWindowError p) _)
    · split
      · exact s.moves_clearData p _
      · exact s.moves_clearSpace p _
  · exact s.moves_writeEnables p _ w
  · exact s.moves_writeIntConfig p w
  · exact s.moves_strobe (fun s => s.moves_clearOverflow p) _
  · exact s.moves_writeCtxRegister p _ a w _
  all_goals exact .refl

theorem State.moves_latchWord (l : ReadLatch) : s.Moves (s.latchWord p l) := (State.alike_modPort rfl).moves

theorem State.moves_sendLatched : s.Moves (s.sendLatched p) := by
  unfold State.sendLatched
  split
  · exact .refl
  · rename_i l _
    have sent : s.Alike (s.modPort p fun i => { i with latch := none, sent := some l.value }) := State.alike_modPort rfl
    dsimp only
    split
    · exact sent.moves.trans (State.alike_modCtx rfl fun _ => rfl).moves
    · split
      · exact sent.moves.trans (State.alike_modPort rfl).moves
      · exact sent.moves
    · exact sent.moves

theorem State.leadsTo_readWord (a : WindowAddr) (part : ReadPart) : s.LeadsTo (s.readWord p a part) := by
  rcases s.readWord_cases p a part with e | ⟨_, e⟩ | ⟨_, _, e⟩ | ⟨_, e⟩ <;> rw [e]
  · exact s.leadsTo_self
  · exact State.leadsTo_next (s.moves_latchWord p _)
  · exact State.leadsTo_next ((s.moves_sendLatched p).trans (State.alike_setFrame _ _ _).moves)
  · exact State.leadsTo_word (fun s => (s.moves_latchWord p _).trans (State.moves_sendLatched _ p)) _ _

theorem execDataRead_leadsTo (place : ReadPlace) (part : ReadPart) : s.LeadsTo (execDataRead place part s) := by
  cases place with
  | data cx => exact s.leadsTo_readWord _ _ part
  | register p a => exact s.leadsTo_readWord p a part

theorem execRegisterWrite_leadsTo (place : WordPlace) (w : Word) : s.LeadsTo (execRegisterWrite p place w s) := by
  unfold execRegisterWrite
  split
  · exact State.leadsTo_word (fun s => s.moves_writeWord p _ w) _ _
  · split
    · exact State.leadsTo_word (fun s => s.moves_writeWord p _ w) _ _
    · exact s.leadsTo_self

theorem execFrameShort_leadsTo (bits : Fin 32) : s.LeadsTo (execFrameShort p bits s) := by
  have closed : s.Moves (s.modPort p fun i => { i with frame := .none, latch := none }) := (State.alike_modPort rfl).moves
  unfold execFrameShort
  dsimp only
  split
  · exact State.leadsTo_next closed
  · split
    · split
      · exact State.leadsTo_next closed
      · exact State.leadsTo_next (closed.trans (State.alike_windowRefusal _ _ _ _).moves)
    · exact State.leadsTo_next closed

theorem execHeaderByte_leadsTo (part : HeaderPart) : s.LeadsTo (execHeaderByte p part s) := by
  unfold execHeaderByte
  split
  · exact State.leadsTo_next (s.alike_setFrame p _).moves
  · exact State.leadsTo_next (State.alike_modPort rfl).moves

end Window

/-! ### Messages at a PI -/

section Arrivals
variable (s : State) (p : Port)

theorem execEvictionOrder_leadsTo : s.LeadsTo (execEvictionOrder p s) := by
  refine State.leadsTo_live ?_
  split
  · exact s.leadsTo_self
  · have quiet (n : Nat) : s.Moves (s.modLink p fun k => { k with evictions := n }) :=
      (State.alike_modLink ⟨fun _ => Iff.rfl, rfl, rfl, rfl, rfl, rfl⟩).moves
    exact State.leadsTo_next ((quiet _).trans (State.moves_detachAction _ p))

theorem execWithdrawalAck_leadsTo (u : UnitId) : s.LeadsTo (execWithdrawalAck p u s) := by
  refine State.leadsTo_live ?_
  have taken {u : UnitId} (h : (s.link p).ackNext u) :
      s.Moves ((s.modLink p fun k => k.withoutAck u).acknowledged p u) := (Move.acknowledges h).moves
  cases u with
  | mu =>
    dsimp only
    split
    · rename_i h
      exact State.leadsTo_next (taken (u := .mu) h)
    · exact s.leadsTo_self
  | cu =>
    dsimp only
    split
    · rename_i h
      exact State.leadsTo_next (taken (u := .cu) h)
    · exact s.leadsTo_self
  | su =>
    dsimp only
    split
    · rename_i h
      exact State.leadsTo_next (taken (u := .su) h)
    · exact s.leadsTo_self
  | lu =>
    dsimp only
    split
    · rename_i rest h
      have e : (s.modLink p fun k => { k with fromLu := rest }) = s.modLink p fun k => k.withoutAck .lu := by
        simp [State.modLink, Links.withoutAck, h]
      rw [e]
      exact State.leadsTo_next (taken (by simp [Links.ackNext, h]))
    · exact s.leadsTo_self

theorem PortInterface.takeRecord_state (i : PortInterface) (r : RevocationRecord) : (i.takeRecord r).state = i.state := by
  unfold PortInterface.takeRecord
  split <;> rfl

theorem PortInterface.takeCu_state (i : PortInterface) (m : CuMessage) : (i.takeCu m).state = i.state := by
  unfold PortInterface.takeCu
  split
  · split <;> rfl
  · split <;> rfl
  · rfl
  · rfl

theorem execRevocationRecordArrival_leadsTo : s.LeadsTo (execRevocationRecordArrival p s) := by
  refine State.leadsTo_live ?_
  split
  · rename_i r rest h
    have quiet : s.Alike (s.modLink p fun k => { k with fromLu := rest }) :=
      State.alike_modLink ⟨fun _ => Iff.rfl, rfl, rfl, rfl, rfl, by simp [h]⟩
    exact State.leadsTo_next (quiet.moves.trans (State.alike_modPort (PortInterface.takeRecord_state _ _)).moves)
  · exact s.leadsTo_self

theorem State.leadsTo_takeCuMessage (n : ChanNum) (set : Bool) : s.LeadsTo (s.takeCuMessage p n set) := by
  unfold State.takeCuMessage
  split
  · split
    · have quiet : s.Alike (s.modLink p fun k => { k with fromCu := withoutNextAbout n k.fromCu }) :=
        State.alike_modLink ⟨fun _ => Iff.rfl, rfl, rfl, rfl, rfl, rfl⟩
      exact State.leadsTo_next (quiet.moves.trans (State.alike_modPort (PortInterface.takeCu_state _ _)).moves)
    · exact s.leadsTo_self
  · exact s.leadsTo_self

end Arrivals

/-! ### Every command -/

/-- Every command makes a chain of elementary changes. -/
theorem exec_leadsTo (i : Instr) (s : State) : s.LeadsTo (exec i s) := by
  cases i with
  | go cx => exact State.leadsTo_word (fun s => s.moves_goStrobe cx) _ _
  | ack cx => exact State.leadsTo_word (fun s => s.moves_ackStrobe cx) _ _
  | abort cx => exact State.leadsTo_word (fun s => s.moves_abortStrobe cx) _ _
  | attach p => exact State.leadsTo_word (fun s => s.moves_attachAction p) _ _
  | detach p => exact State.leadsTo_word (fun s => s.moves_detachAction p) _ _
  | portReset p => exact State.leadsTo_word (fun s => s.moves_portResetAction p) _ _
  | evictionOrder p => exact execEvictionOrder_leadsTo s p
  | withdrawalAck p u => exact execWithdrawalAck_leadsTo s p u
  | dataRead place part => exact execDataRead_leadsTo s place part
  | dataWrite cx w => exact State.leadsTo_word (fun s => s.moves_lockedWrite _ _ _ (f := Context.dataWritten w) fun _ => rfl) _ _
  | logRead p part => exact s.leadsTo_readWord p _ part
  | overflowClear p => exact State.leadsTo_word (fun s => s.moves_clearOverflow p) _ _
  | leaseLostClear p => exact State.leadsTo_word (fun s => s.moves_clearLeaseLost p) _ _
  | windowErrorClear p => exact State.leadsTo_word (fun s => s.moves_clearWindowError p) _ _
  | dataFlagClear p mask => exact State.leadsTo_word (fun s => s.moves_clearData p mask) _ _
  | spaceFlagClear p mask => exact State.leadsTo_word (fun s => s.moves_clearSpace p mask) _ _
  | eventEnablesWrite p k w => exact State.leadsTo_word (fun s => s.moves_writeEnables p k w) _ _
  | intConfigWrite p w => exact State.leadsTo_word (fun s => s.moves_writeIntConfig p w) _ _
  | registerWrite p place w => exact execRegisterWrite_leadsTo s p place w
  | frameShort p bits => exact execFrameShort_leadsTo s p bits
  | read cx => exact execRead_leadsTo cx s
  | write cx => exact execWrite_leadsTo cx s
  | readGroup cx => exact execReadGroup_leadsTo cx s
  | writeGroup cx => exact execWriteGroup_leadsTo cx s
  | tally cx => exact execTally_leadsTo cx s
  | setIfZero cx => exact execSetIfZero_leadsTo cx s
  | zeroFill cx => exact execZeroFill_leadsTo cx s
  | fillBurst cx => exact execFillBurst_leadsTo cx s
  | defineSegment cx => exact execDefineSegment_leadsTo cx s
  | clearSegment cx => exact execClearSegment_leadsTo cx s
  | inspectSegment cx => exact execInspectSegment_leadsTo cx s
  | acquire cx => exact execAcquire_leadsTo cx s
  | release cx => exact execRelease_leadsTo cx s
  | renew cx => exact execRenew_leadsTo cx s
  | inspectLock cx => exact execInspectLock_leadsTo cx s
  | setLock cx => exact execSetLock_leadsTo cx s
  | forceRelease part => exact execForceRelease_leadsTo s part
  | send cx => exact execSend_leadsTo cx s
  | receive cx => exact execReceive_leadsTo cx s
  | inspectChannel cx => exact execInspectChannel_leadsTo cx s
  | bindChannel cx => exact execBindChannel_leadsTo cx s
  | unbindChannel cx => exact execUnbindChannel_leadsTo cx s
  | setPortKeys cx => exact execSetPortKeys_leadsTo cx s
  | setTick cx => exact execSetTick_leadsTo cx s
  | evictPort cx => exact execEvictPort_leadsTo cx s
  | inspectPort cx part => exact execInspectPort_leadsTo cx s part
  | chipReset cx straps => exact execChipReset_leadsTo s cx straps
  | resetAssert => exact execResetAssert_leadsTo s
  | resetRelease straps => exact execResetRelease_leadsTo s straps
  | memoryClearDone => exact execMemoryClearDone_leadsTo s
  | chipReady => exact execChipReady_leadsTo s
  | periodEnd => exact execPeriodEnd_leadsTo s
  | luTick => exact execLuTick_leadsTo s
  | lockWaitTimeout cx => exact execLockWaitTimeout_leadsTo cx s
  | leaseExpiry l => exact execLeaseExpiry_leadsTo s l
  | cuTick => exact execCuTick_leadsTo s
  | channelWaitTimeout cx => exact execChannelWaitTimeout_leadsTo cx s
  | abortNoticePending cx => exact execAbortNoticePending_leadsTo s cx
  | lockWaitAbort cx => exact execLockWaitAbort_leadsTo cx s
  | channelWaitAbort cx => exact execChannelWaitAbort_leadsTo cx s
  | fillAbort cx => exact execFillAbort_leadsTo cx s
  | muWithdrawalNotice p stage => exact execMuWithdrawalNotice_leadsTo s p stage
  | luWithdrawalNotice p stage => exact execLuWithdrawalNotice_leadsTo s p stage
  | cuWithdrawalNotice p stage => exact execCuWithdrawalNotice_leadsTo s p stage
  | suWithdrawalNotice p stage => exact execSuWithdrawalNotice_leadsTo s p stage
  | revocationRecordArrival p => exact execRevocationRecordArrival_leadsTo s p
  | flagSettingArrival p n => exact State.leadsTo_live (s.leadsTo_takeCuMessage p n true)
  | flagClearingArrival p n => exact State.leadsTo_live (s.leadsTo_takeCuMessage p n false)
  | headerByte p part => exact execHeaderByte_leadsTo s p part

/-- Every step makes a chain of elementary changes. -/
theorem step_moves {s t : State} (h : step s = .next t) : s.Moves t := by
  unfold step at h
  split at h
  · cases h
    exact .refl
  · rename_i c rest _
    have quiet : s.Alike { s with pending := rest } := State.alike_of_eq rfl rfl rfl rfl rfl rfl rfl fun _ => rfl
    exact quiet.moves.trans (exec_leadsTo c _ t h)

/-- What every elementary change keeps, every step keeps. -/
theorem step_keeps {P : State → Prop} (hP : ∀ {s t}, Move s t → P s → P t) {s t : State} (h : step s = .next t)
    (hs : P s) : P t :=
  State.Moves.keeps hP (step_moves h) hs

end Sys2Proof.Machine

namespace Sys2Proof.Machine

/-! ## The waits invariant

`locksConsistent`, strengthened so that it holds within a step too: some contexts may have left the queues of one unit
while their requests are still to end. -/

/-- The contexts of the queues of a unit, entry by entry. -/
def State.entriesAt (s : State) : UnitId → List CtxNum
  | .lu => s.lockEntries
  | .cu => s.channelEntries
  | .mu | .su => []

/-- The contexts that are to be WAITING at unit `v`: those in its queues, and at `u` those that are leaving. -/
def State.waitingAt (s : State) (u : UnitId) (leaving : List CtxNum) (v : UnitId) : List CtxNum :=
  s.entriesAt v ++ if v = u then leaving else []

/-- The waits are sound, but that the contexts `leaving` have left the queues of unit `u` and their requests are still
to end. -/
structure State.WaitsSound (s : State) (u : UnitId) (leaving : List CtxNum) : Prop where
  nodup : ∀ v, (s.waitingAt u leaving v).Nodup
  waiting : ∀ v cx, (s.ctx cx).state = .waiting v ↔ cx ∈ s.waitingAt u leaving v
  offline : ∀ cx, (s.port (portOf cx)).state = .offline → (s.ctx cx).state = .idle
  inspection : s.inspectionSound
  forcing : s.forcingSound
  locks : ∀ l, (s.lock l).consistent = true
  unbound : ∀ n, (s.chan n).binding = none → (s.chan n).waiters = []

theorem State.waitingAt_nil (s : State) (u v : UnitId) : s.waitingAt u [] v = s.entriesAt v := by
  simp [State.waitingAt]

/-- With nothing leaving, the waits are sound exactly where the locks and queues are consistent and no unbound channel
has a waiter. -/
theorem State.waitsSound_nil_iff (s : State) (u : UnitId) :
    s.WaitsSound u [] ↔ s.locksConsistent ∧ ∀ n, (s.chan n).binding = none → (s.chan n).waiters = [] := by
  constructor
  · intro h
    have hw (v : UnitId) (cx : CtxNum) := s.waitingAt_nil u v ▸ h.waiting v cx
    have hn (v : UnitId) := s.waitingAt_nil u v ▸ h.nodup v
    refine ⟨⟨⟨hn .lu, hn .cu, hw .lu, hw .cu, fun cx => ⟨?_, ?_⟩, fun p c hp => ?_⟩, h.inspection, h.forcing, h.locks⟩,
      h.unbound⟩
    · rw [Ne, hw .mu]
      exact List.not_mem_nil
    · rw [Ne, hw .su]
      exact List.not_mem_nil
    · exact h.offline _ (by simpa using hp)
  · rintro ⟨⟨⟨hnl, hnc, hl, hc, he, ho⟩, hi, hf, hlocks⟩, hu⟩
    refine ⟨fun v => ?_, fun v cx => ?_, fun cx hp => ?_, hi, hf, hlocks, hu⟩
    · rw [State.waitingAt_nil]
      cases v with
      | lu => exact hnl
      | cu => exact hnc
      | mu | su => exact List.nodup_nil
    · rw [State.waitingAt_nil]
      cases v with
      | lu => exact hl cx
      | cu => exact hc cx
      | mu => exact ⟨fun e => absurd e (he cx).1, nofun⟩
      | su => exact ⟨fun e => absurd e (he cx).2, nofun⟩
    · simpa using ho (portOf cx) (slotOf cx) (by simpa using hp)

/-- Which unit nothing leaves does not matter. -/
theorem State.WaitsSound.at_unit {s : State} {u : UnitId} (h : s.WaitsSound u []) (v : UnitId) : s.WaitsSound v [] :=
  (s.waitsSound_nil_iff v).2 ((s.waitsSound_nil_iff u).1 h)

/-! ### Updates -/

section Updates
variable {s t : State} {u : UnitId} {leaving : List CtxNum}

theorem State.Alike.lockEntries (h : s.Alike t) : t.lockEntries = s.lockEntries := by
  unfold State.lockEntries
  exact congrArg (List.flatMap · allLocks) (funext fun l => by rw [(h.lock l).queue])

theorem Channel.Alike.waiters {c d : Channel} (h : c.Alike d) : d.waiters = c.waiters := by
  rw [Channel.waiters, Channel.waiters, h.senders, h.receivers]

theorem State.Alike.channelEntries (h : s.Alike t) : t.channelEntries = s.channelEntries :=
  congrArg (List.flatMap · allChans) (funext fun n => (h.chan n).waiters)

theorem State.Alike.waitingAt (h : s.Alike t) (u : UnitId) (leaving : List CtxNum) (v : UnitId) :
    t.waitingAt u leaving v = s.waitingAt u leaving v := by
  have e : t.entriesAt v = s.entriesAt v := by
    cases v with
    | lu => exact h.lockEntries
    | cu => exact h.channelEntries
    | mu | su => rfl
  rw [State.waitingAt, State.waitingAt, e]

theorem Lock.Alike.consistent {k l : Lock} (h : k.Alike l) : l.consistent = k.consistent := by
  unfold Lock.consistent
  rw [h.holder, h.queue, h.revoked]
  cases hk : k.holder with
  | none => dsimp only; rw [h.lease hk]
  | some c => rfl

/-- What `Alike` sees keeps the waits sound. -/
theorem State.WaitsSound.alike (h : s.WaitsSound u leaving) (ha : s.Alike t) : t.WaitsSound u leaving where
  nodup v := by
    rw [ha.waitingAt]
    exact h.nodup v
  waiting v cx := by
    rw [CtxState.eq_waiting_of_bare (ha.ctx cx), ha.waitingAt]
    exact h.waiting v cx
  offline cx hp := (CtxState.eq_idle_of_bare (ha.ctx cx)).2 (h.offline cx (by rwa [← ha.port]))
  inspection g hg := by
    obtain ⟨hp, hc, ho, hl⟩ := h.inspection g (ha.inspection ▸ hg)
    rw [ha.command g.ctx (by rw [hp]; rfl)]
    exact ⟨(CtxState.eq_pending_of_bare (ha.ctx _) _).2 hp, hc, ho, hl⟩
  forcing cx hcx := by
    have hs : cx ∈ s.forcing := ha.forcing ▸ hcx
    obtain ⟨hp, hc, ht⟩ := h.forcing cx hs
    rw [ha.command cx (by rw [hp]; rfl), ha.luTickOpen (Option.isSome_iff_exists.2 ⟨cx, hs⟩)]
    exact ⟨(CtxState.eq_pending_of_bare (ha.ctx _) _).2 hp, hc, ht⟩
  locks l := by
    rw [(ha.lock l).consistent]
    exact h.locks l
  unbound n hn := by
    rw [(ha.chan n).waiters]
    rcases (ha.chan n).binding hn with e | ⟨hs, hr⟩
    · exact h.unbound n e
    · simp [Channel.waiters, hs, hr]

/-- A context that stands at no queue of a unit and is not leaving it does not wait there. -/
theorem State.WaitsSound.not_mem (h : s.WaitsSound u leaving) {v : UnitId} {cx : CtxNum}
    (hs : (s.ctx cx).state ≠ .waiting v) : cx ∉ s.waitingAt u leaving v :=
  fun hm => hs ((h.waiting v cx).2 hm)

/-- The context inspected is not one that SU may answer, nor one in another state than PENDING at SU. -/
theorem State.WaitsSound.inspected_ne (h : s.WaitsSound u leaving) {cx : CtxNum}
    (hs : (s.ctx cx).state = .pending .su → s.inspection = none) : ∀ g ∈ s.inspection, g.ctx ≠ cx := by
  rintro g hg rfl
  rw [hs (h.inspection g hg).1] at hg
  exact nomatch hg

/-- The context whose FORCE RELEASE LU is within is likewise none that LU may answer. -/
theorem State.WaitsSound.forced_ne (h : s.WaitsSound u leaving) {cx : CtxNum}
    (hs : (s.ctx cx).state = .pending .lu → s.forcing = none) : s.forcing ≠ some cx := by
  intro hf
  rw [hs (h.forcing cx hf).1] at hf
  exact nomatch hf

/-- An update of one context that stands in no queue and that no unit is within a step of: it then waits nowhere, and is
no longer leaving. -/
theorem State.WaitsSound.modCtx (h : s.WaitsSound u leaving) {cx : CtxNum} {f : Context → Context}
    (hq : ∀ v, cx ∉ s.entriesAt v) (hw : ∀ v, (f (s.ctx cx)).state ≠ .waiting v)
    (ho : (s.port (portOf cx)).state = .offline → (f (s.ctx cx)).state = .idle)
    (hi : (s.ctx cx).state = .pending .su → s.inspection = none)
    (hf : (s.ctx cx).state = .pending .lu → s.forcing = none) :
    (s.modCtx cx f).WaitsSound u (leaving.erase cx) where
  nodup v := by
    refine (h.nodup v).sublist (List.Sublist.append (List.Sublist.refl _) ?_)
    split
    · exact List.erase_sublist
    · exact List.Sublist.refl _
  waiting v c := by
    have e : (s.modCtx cx f).entriesAt v = s.entriesAt v := by cases v <;> rfl
    have hn := (h.nodup v)
    rw [State.waitingAt, List.nodup_append] at hn
    rw [State.waitingAt, e, List.mem_append]
    by_cases hc : c = cx
    · subst hc
      refine ⟨fun hx => absurd hx (by simpa using hw v), fun hx => absurd hx ?_⟩
      rintro (hx | hx)
      · exact hq v hx
      · split at hx
        · rename_i hv
          rw [if_pos hv] at hn
          exact hn.2.1.not_mem_erase hx
        · exact nomatch hx
    · rw [State.modCtx_ctx_ne _ _ _ hc, h.waiting v c, State.waitingAt, List.mem_append]
      split
      · rw [List.mem_erase_of_ne hc]
      · rfl
  offline c hp := by
    by_cases hc : c = cx
    · subst hc
      simpa using ho hp
    · rw [State.modCtx_ctx_ne _ _ _ hc]
      exact h.offline c hp
  inspection g hg := by
    have hne := h.inspected_ne hi g hg
    rw [State.modCtx_ctx_ne _ _ _ hne]
    exact h.inspection g hg
  forcing c hc := by
    have hne : c ≠ cx := by
      rintro rfl
      exact h.forced_ne hf hc
    rw [State.modCtx_ctx_ne _ _ _ hne]
    exact h.forcing c hc
  locks := h.locks
  unbound := h.unbound

/-- The completion of a withdrawal keeps the waits sound: the port is at rest. -/
theorem State.WaitsSound.testWithdrawal (h : s.WaitsSound u leaving) (p : Port) :
    (s.testWithdrawal p).WaitsSound u leaving := by
  rcases s.testWithdrawal_cases p with e | ⟨_, m, _, _, hrest, e⟩
  · rwa [e]
  have idle (cx : CtxNum) (hp : portOf cx = p) : (s.ctx cx).state.busy = false := by
    obtain ⟨c, rfl⟩ := exists_slot hp
    simp only [State.portAtRest, State.anyOfPort, Bool.not_eq_true', List.any_eq_false, mem_allSlots, true_implies,
      Bool.not_eq_true] at hrest
    exact hrest c
  have keeps (cx : CtxNum) (hp : portOf cx ≠ p) : (s.completeWithdrawal p m).ctx cx = s.ctx cx := by
    cases m <;> simp [State.completeWithdrawal, State.portResetClearing, hp]
  have busy_ne {cx : CtxNum} (hb : (s.ctx cx).state.busy = true) : portOf cx ≠ p := fun hp => by
    rw [idle cx hp] at hb
    exact Bool.noConfusion hb
  have hent (v : UnitId) : (s.completeWithdrawal p m).waitingAt u leaving v = s.waitingAt u leaving v := by
    have e : (s.completeWithdrawal p m).entriesAt v = s.entriesAt v := by
      cases v <;> simp [State.entriesAt, State.lockEntries, State.channelEntries]
    rw [State.waitingAt, State.waitingAt, e]
  rw [e]
  refine ⟨fun v => ?_, fun v cx => ?_, fun cx hp => ?_, fun g hg => ?_, fun cx hcx => ?_, fun l => ?_, fun n => ?_⟩
  · rw [hent]
    exact h.nodup v
  · rw [hent, ← h.waiting v cx, State.completeWithdrawal_ctx_state]
    split
    · rename_i hp
      refine ⟨nofun, fun hw => ?_⟩
      have := idle cx hp
      rw [hw] at this
      exact Bool.noConfusion this
    · rfl
  · rw [State.completeWithdrawal_ctx_state]
    split
    · rfl
    · rename_i hne
      refine h.offline cx ?_
      cases m <;> simpa [State.completeWithdrawal, State.portResetClearing, hne] using hp
  · have hg : g ∈ s.inspection := by simpa using hg
    obtain ⟨hp, hr⟩ := h.inspection g hg
    rw [keeps _ (busy_ne (by rw [hp]; rfl))]
    exact ⟨hp, hr⟩
  · have hcx : cx ∈ s.forcing := by simpa using hcx
    obtain ⟨hp, hc, ht⟩ := h.forcing cx hcx
    rw [keeps _ (busy_ne (by rw [hp]; rfl))]
    exact ⟨hp, hc, by simpa [State.luTickOpen] using ht⟩
  · simpa using h.locks l
  · simpa using h.unbound n

/-- A busy context that stands in no queue, and that no unit is within a step of, completes. -/
theorem State.WaitsSound.complete (h : s.WaitsSound u leaving) {cx : CtxNum} (r : Answer)
    (hb : (s.ctx cx).state.busy = true) (hq : ∀ v, cx ∉ s.entriesAt v)
    (hi : (s.ctx cx).state = .pending .su → s.inspection = none)
    (hf : (s.ctx cx).state = .pending .lu → s.forcing = none) :
    (s.complete cx r).WaitsSound u (leaving.erase cx) := by
  refine (h.modCtx hq (fun v => by simp [Context.completed]) (fun ho => ?_) hi hf).testWithdrawal _
  rw [h.offline cx ho] at hb
  exact Bool.noConfusion hb

/-- A context that waits nowhere completes. -/
theorem State.WaitsSound.complete_of_not_waiting (h : s.WaitsSound u leaving) {cx : CtxNum} (r : Answer)
    (hb : (s.ctx cx).state.busy = true) (hw : ∀ v, (s.ctx cx).state ≠ .waiting v)
    (hi : (s.ctx cx).state = .pending .su → s.inspection = none)
    (hf : (s.ctx cx).state = .pending .lu → s.forcing = none) :
    (s.complete cx r).WaitsSound u leaving := by
  have hn (v : UnitId) := h.not_mem (hw v)
  simp only [State.waitingAt, List.mem_append, not_or] at hn
  have := h.complete r hb (fun v => (hn v).1) hi hf
  rwa [List.erase_of_not_mem (by simpa using (hn u).2)] at this

/-- A PENDING request ends. -/
theorem State.WaitsSound.answer (h : s.WaitsSound u leaving) {v : UnitId} {cx : CtxNum} (r : Answer)
    (hm : s.MayAnswer v cx) : (s.complete cx r).WaitsSound u leaving := by
  refine h.complete_of_not_waiting r (by rw [hm.pending]; rfl) (fun v => by rw [hm.pending]; nofun) ?_ ?_ <;>
    rw [hm.pending] <;> rintro ⟨⟩
  · exact hm.inspection rfl
  · exact hm.forcing rfl

/-- A context that is leaving a unit completes. -/
theorem State.WaitsSound.complete_leaving (h : s.WaitsSound u leaving) {cx : CtxNum} (r : Answer) (hl : cx ∈ leaving) :
    (s.complete cx r).WaitsSound u (leaving.erase cx) := by
  have hw : (s.ctx cx).state = .waiting u := (h.waiting u cx).2 (by simp [State.waitingAt, hl])
  refine h.complete r (by rw [hw]; rfl) (fun v hv => ?_) (by rw [hw]; nofun) (by rw [hw]; nofun)
  by_cases e : v = u
  · subst e
    have hn := h.nodup v
    rw [State.waitingAt, if_pos rfl, List.nodup_append] at hn
    exact hn.2.2 cx hv cx hl rfl
  · have hv' : (s.ctx cx).state = .waiting v := (h.waiting v cx).2 (by simp [State.waitingAt, hv])
    rw [hw] at hv'
    exact e (CtxState.waiting.inj hv').symm

/-- All the contexts that are leaving time out. -/
theorem State.WaitsSound.timeOutAll (h : s.WaitsSound u leaving) : (s.timeOutAll leaving).WaitsSound u [] := by
  induction leaving generalizing s with
  | nil => exact h
  | cons cx rest ih =>
    have := h.complete_leaving { code := .timeout } List.mem_cons_self
    rw [List.erase_cons_head] at this
    exact ih this

/-- All the contexts that are leaving are cancelled with the other requests of their port that are WAITING there: there
are no others. -/
theorem State.WaitsSound.cancelAll (h : s.WaitsSound u leaving) {p : Port} (hl : ∀ cx ∈ leaving, portOf cx = p)
    (hq : ∀ cx ∈ s.entriesAt u, portOf cx ≠ p) : (s.cancelAll p (.waiting u)).WaitsSound u [] := by
  have step : ∀ (cs : List (Fin 4)) (s : State) (leaving : List CtxNum), s.WaitsSound u leaving →
      (∀ cx ∈ leaving, portOf cx = p ∧ slotOf cx ∈ cs) → (∀ cx ∈ s.entriesAt u, portOf cx ≠ p) →
      (cs.foldl (fun s c => if (s.ctx (ctxOf p c)).state = .waiting u then
        s.complete (ctxOf p c) { code := .cancelled } else s) s).WaitsSound u [] := by
    intro cs
    induction cs with
    | nil =>
      intro s leaving h hl _
      rwa [List.eq_nil_iff_forall_not_mem.2 fun cx hcx => nomatch (hl cx hcx).2] at h
    | cons c cs ih =>
      intro s leaving h hl hq
      have slot_ne {cx : CtxNum} (hp : portOf cx = p) (e : cx ≠ ctxOf p c) (hs : slotOf cx ∈ c :: cs) : slotOf cx ∈ cs :=
        (List.mem_cons.1 hs).resolve_left fun e' => e (by rw [← hp, ← e', ctxOf_portOf_slotOf])
      rw [List.foldl_cons]
      by_cases hw : (s.ctx (ctxOf p c)).state = .waiting u
      · rw [if_pos hw]
        have hmem := (h.waiting u _).1 hw
        rw [State.waitingAt, if_pos rfl, List.mem_append] at hmem
        have hin := hmem.resolve_left fun hin => hq _ hin (portOf_ctxOf p c)
        have hn := h.nodup u
        rw [State.waitingAt, if_pos rfl, List.nodup_append] at hn
        refine ih _ _ (h.complete_leaving _ hin) (fun cx hcx => ?_) fun cx hcx => hq cx ?_
        · have ⟨hne, hcx⟩ := hn.2.1.mem_erase_iff.1 hcx
          exact ⟨(hl cx hcx).1, slot_ne (hl cx hcx).1 hne (hl cx hcx).2⟩
        · have e : (s.complete (ctxOf p c) { code := .cancelled }).entriesAt u = s.entriesAt u := by
            cases u <;> simp [State.entriesAt, State.lockEntries, State.channelEntries]
          rwa [← e]
      · rw [if_neg hw]
        refine ih s leaving h (fun cx hcx => ⟨(hl cx hcx).1, slot_ne (hl cx hcx).1 ?_ (hl cx hcx).2⟩) hq
        rintro rfl
        exact hw ((h.waiting u _).2 (by simp [State.waitingAt, hcx]))
  exact step allSlots s leaving h (fun cx hcx => ⟨hl cx hcx, mem_allSlots _⟩) hq

/-- A PENDING request of a unit that is within no step begins to wait there, its entry still to come. -/
theorem State.WaitsSound.parks (h : s.WaitsSound u []) {cx : CtxNum} (hm : s.MayAnswer u cx) :
    (s.modCtx cx fun c => { c with state := .waiting u }).WaitsSound u [cx] where
  nodup v := by
    have hn := h.nodup v
    have hc := h.not_mem (v := v) (cx := cx) (by rw [hm.pending]; nofun)
    rw [State.waitingAt_nil] at hn hc
    have e : (s.modCtx cx fun c => { c with state := .waiting u }).entriesAt v = s.entriesAt v := by cases v <;> rfl
    rw [State.waitingAt, e]
    split
    · exact List.Nodup.append hn (List.nodup_singleton _) (by simpa using hc)
    · simpa using hn
  waiting v c := by
    have hs := h.waiting v c
    rw [State.waitingAt_nil] at hs
    have e : (s.modCtx cx fun c => { c with state := .waiting u }).entriesAt v = s.entriesAt v := by cases v <;> rfl
    rw [State.waitingAt, e, List.mem_append, ← hs]
    by_cases hc : c = cx
    · subst hc
      rw [hm.pending]
      by_cases hv : v = u
      · simp [hv]
      · simp [hv, Ne.symm hv]
    · rw [State.modCtx_ctx_ne _ _ _ hc]
      split <;> simp [hc]
  offline c hp := by
    have hc : c ≠ cx := by
      rintro rfl
      have := h.offline c hp
      rw [hm.pending] at this
      exact nomatch this
    rw [State.modCtx_ctx_ne _ _ _ hc]
    exact h.offline c hp
  inspection g hg := by
    have hne := h.inspected_ne (cx := cx) (by rw [hm.pending]; rintro ⟨⟩; exact hm.inspection rfl) g hg
    rw [State.modCtx_ctx_ne _ _ _ hne]
    exact h.inspection g hg
  forcing c hc := by
    have hne : c ≠ cx := by
      rintro rfl
      exact h.forced_ne (by rw [hm.pending]; rintro ⟨⟩; exact hm.forcing rfl) hc
    rw [State.modCtx_ctx_ne _ _ _ hne]
    exact h.forcing c hc
  locks := h.locks
  unbound := h.unbound

end Updates

end Sys2Proof.Machine

namespace Sys2Proof.Machine

/-! ### Queues -/

section Lists
variable {ι β : Type}

/-- One list of many is replaced: what has left it makes up the difference. -/
theorem flatMap_perm_of_update [DecidableEq ι] {is : List ι} (hn : is.Nodup) {i : ι} (hi : i ∈ is) {f g : ι → List β}
    (hfg : ∀ j, j ≠ i → g j = f j) {a b : List β} (h : (g i ++ a).Perm (f i ++ b)) :
    (is.flatMap g ++ a).Perm (is.flatMap f ++ b) := by
  have hrest : (is.erase i).flatMap g = (is.erase i).flatMap f :=
    List.flatMap_congr fun j hj => hfg j (hn.mem_erase_iff.1 hj).1
  have out (k : ι → List β) (c : List β) : (is.flatMap k ++ c).Perm ((k i ++ c) ++ (is.erase i).flatMap k) := by
    refine (((List.perm_cons_erase hi).flatMap_right k).append_right c).trans ?_
    rw [List.flatMap_cons, List.append_assoc, List.append_assoc]
    exact List.perm_append_comm.append_left _
  refine (out g a).trans (.trans ?_ (out f b).symm)
  rw [hrest]
  exact h.append_right _

/-- Lists are filtered: what is filtered out makes up the difference. -/
theorem flatMap_filter_perm (is : List ι) (f : ι → List β) (p : β → Bool) :
    ((is.flatMap fun i => (f i).filter p) ++ is.flatMap fun i => (f i).filter fun x => !p x).Perm (is.flatMap f) :=
  (List.flatMap_append_perm is _ _).trans (List.Perm.flatMap_left is fun i _ => List.filter_append_perm p (f i))

end Lists

section Regroup
variable {s : State} {u v : UnitId} {leaving leaving' : List CtxNum}

/-- Entries move between the queues of locks and the contexts that are leaving LU. -/
theorem State.WaitsSound.regroupLocks (h : s.WaitsSound .lu leaving) {L : Table Lock 64}
    (hq : (({ s with locks := L } : State).lockEntries ++ leaving').Perm (s.lockEntries ++ leaving))
    (hc : ∀ l, (L.at l).consistent = true) : ({ s with locks := L } : State).WaitsSound .lu leaving' := by
  have hp (v : UnitId) : (({ s with locks := L } : State).waitingAt .lu leaving' v).Perm (s.waitingAt .lu leaving v) := by
    cases v with
    | lu => exact hq
    | mu | cu | su => exact .refl _
  exact {
    nodup := fun v => (hp v).nodup_iff.2 (h.nodup v)
    waiting := fun v cx => (h.waiting v cx).trans (hp v).mem_iff.symm
    offline := h.offline
    inspection := h.inspection
    forcing := h.forcing
    locks := hc
    unbound := h.unbound }

/-- Entries move between the queues of channels and the contexts that are leaving CU. -/
theorem State.WaitsSound.regroupChannels (h : s.WaitsSound .cu leaving) {C : Table Channel 16}
    (hq : (({ s with channels := C } : State).channelEntries ++ leaving').Perm (s.channelEntries ++ leaving))
    (hb : ∀ n, (C.at n).binding = none → (C.at n).waiters = []) :
    ({ s with channels := C } : State).WaitsSound .cu leaving' := by
  have hp (v : UnitId) :
      (({ s with channels := C } : State).waitingAt .cu leaving' v).Perm (s.waitingAt .cu leaving v) := by
    cases v with
    | cu => exact hq
    | mu | lu | su => exact .refl _
  exact {
    nodup := fun v => (hp v).nodup_iff.2 (h.nodup v)
    waiting := fun v cx => (h.waiting v cx).trans (hp v).mem_iff.symm
    offline := h.offline
    inspection := h.inspection
    forcing := h.forcing
    locks := h.locks
    unbound := hb }

/-- One lock is replaced. -/
theorem State.WaitsSound.modLock (h : s.WaitsSound .lu leaving) {l : LockNum} {f : Lock → Lock}
    (hq : ((f (s.lock l)).queue.map Waiter.ctx ++ leaving').Perm ((s.lock l).queue.map Waiter.ctx ++ leaving))
    (hc : (f (s.lock l)).consistent = true) : (s.modLock l f).WaitsSound .lu leaving' := by
  refine h.regroupLocks ?_ fun k => ?_
  · refine flatMap_perm_of_update (List.nodup_finRange 64) (mem_allLocks l) (fun k hk => ?_) ?_
    · exact congrArg (fun k : Lock => k.queue.map Waiter.ctx) (s.modLock_lock_ne l f hk)
    · rw [show ({ s with locks := s.locks.put l (f (s.lock l)) } : State).lock l = f (s.lock l) from s.modLock_lock_self l f]
      exact hq
  · have := s.modLock_lock l f k
    change ((s.modLock l f).lock k).consistent = true
    rw [this]
    split
    · exact hc
    · exact h.locks k

/-- One channel is replaced. -/
theorem State.WaitsSound.modChan (h : s.WaitsSound .cu leaving) {n : ChanNum} {f : Channel → Channel}
    (hq : ((f (s.chan n)).waiters ++ leaving').Perm ((s.chan n).waiters ++ leaving))
    (hb : (f (s.chan n)).binding = none → (f (s.chan n)).waiters = []) : (s.modChan n f).WaitsSound .cu leaving' := by
  refine h.regroupChannels ?_ fun k => ?_
  · refine flatMap_perm_of_update (List.nodup_finRange 16) (mem_allChans n) (fun k hk => ?_) ?_
    · exact congrArg Channel.waiters (s.modChan_chan_ne n f hk)
    · rw [show ({ s with channels := s.channels.put n (f (s.chan n)) } : State).chan n = f (s.chan n) from
        s.modChan_chan_self n f]
      exact hq
  · have := s.modChan_chan n f k
    change ((s.modChan n f).chan k).binding = none → ((s.modChan n f).chan k).waiters = []
    rw [this]
    split
    · exact hb
    · exact h.unbound k

end Regroup

end Sys2Proof.Machine

namespace Sys2Proof.Machine

/-! ### Locks -/

/-- The order of a waiter queue as a relation between its entries (R26). -/
theorem urgentFirst_iff (q : List Waiter) :
    urgentFirst q = true ↔ q.Pairwise fun a b => b.priority = .urgent → a.priority = .urgent := by
  induction q with
  | nil => simp [urgentFirst]
  | cons w rest ih =>
    rw [List.pairwise_cons, ← ih]
    cases hw : w.priority with
    | urgent => simp [urgentFirst, hw]
    | normal =>
      have hall : (∀ b ∈ rest, b.priority = .normal) → urgentFirst rest = true := fun h =>
        ih.2 (List.pairwise_of_forall_mem_list fun a _ b hb hu => by simp [h b hb] at hu)
      have hnu (b : Waiter) : b.priority = .normal ↔ ¬ b.priority = .urgent := by cases b.priority <;> simp
      simp only [urgentFirst, hw, List.all_eq_true, decide_eq_true_eq, reduceCtorEq, imp_false]
      exact ⟨fun h => ⟨fun b hb => (hnu b).1 (h b hb), hall h⟩, fun h b hb => (hnu b).2 (h.1 b hb)⟩

/-- The conditions of R25, R26 and R51, one by one. -/
theorem Lock.consistent_iff (k : Lock) :
    k.consistent = true ↔ (k.holder = none → k.queue = [] ∧ k.lease = 0) ∧
      (∀ h, k.holder = some h → k.revoked = false ∧ ∀ w ∈ k.queue, w.ctx ≠ h) ∧ urgentFirst k.queue = true := by
  unfold Lock.consistent
  cases k.holder <;> simp [and_assoc]

/-- A queue from which entries leave, the others being counted, keeps its lock consistent. -/
theorem Lock.consistent_of_shrunk {k : Lock} (h : k.consistent = true) {p : Waiter → Bool} {g : Waiter → Waiter}
    (hc : ∀ w, (g w).ctx = w.ctx) (hp : ∀ w, (g w).priority = w.priority) :
    ({ k with queue := (k.queue.filter p).map g } : Lock).consistent = true := by
  obtain ⟨hfree, hheld, hu⟩ := k.consistent_iff.1 h
  refine (Lock.consistent_iff _).2 ⟨fun hk => ⟨?_, (hfree hk).2⟩, fun c hk => ⟨(hheld c hk).1, fun w hw => ?_⟩, ?_⟩
  · simp [(hfree hk).1]
  · obtain ⟨w', hw', rfl⟩ := List.mem_map.1 hw
    rw [hc]
    exact (hheld c hk).2 w' (List.mem_filter.1 hw').1
  · rw [urgentFirst_iff] at hu ⊢
    exact List.pairwise_map.2 ((hu.sublist List.filter_sublist).imp fun hab => by rwa [hp, hp])

/-- A queue from which entries leave keeps its lock consistent. -/
theorem Lock.consistent_of_filter {k : Lock} (h : k.consistent = true) (p : Waiter → Bool) :
    ({ k with queue := k.queue.filter p } : Lock).consistent = true := by
  simpa using Lock.consistent_of_shrunk h (p := p) (g := id) (fun _ => rfl) fun _ => rfl

/-- Whatever its place, a new entry joins once. -/
theorem joinQueue_perm (q : List Waiter) (w : Waiter) : (joinQueue q w).Perm (w :: q) := by
  unfold joinQueue
  split
  · refine List.perm_middle.trans ?_
    rw [List.takeWhile_append_dropWhile]
  · exact List.perm_append_singleton _ _

/-- A new entry keeps the order of its queue (R27). -/
theorem urgentFirst_joinQueue {q : List Waiter} (h : urgentFirst q = true) (w : Waiter) :
    urgentFirst (joinQueue q w) = true := by
  rw [urgentFirst_iff] at h ⊢
  unfold joinQueue
  split
  · rename_i hw
    refine List.pairwise_append.2 ⟨h.sublist (List.takeWhile_sublist _),
      List.pairwise_cons.2 ⟨fun _ _ _ => hw, h.sublist (List.dropWhile_sublist _)⟩, fun a ha _ _ _ => ?_⟩
    simpa using List.mem_takeWhile_imp ha
  · rename_i hw
    exact List.pairwise_append.2 ⟨h, List.pairwise_singleton _ _, fun a _ b hb hu => by
      rw [List.mem_singleton.1 hb, hw] at hu
      exact nomatch hu⟩

section LockMoves
variable {s : State}

theorem State.mem_lockEntries {cx : CtxNum} : cx ∈ s.lockEntries ↔ ∃ l, ∃ w ∈ (s.lock l).queue, w.ctx = cx := by
  simp [State.lockEntries]

/-- The head waiter of a lock takes it: its entry leaves the queue, the lock is HELD by it, and its request ends. -/
theorem State.WaitsSound.grants (h : s.WaitsSound .lu []) {l : LockNum} {w : Waiter} {rest : List Waiter}
    (hq : (s.lock l).queue = w :: rest) (r : Answer) :
    ((s.modLock l fun k => k.heldBy w.ctx rest).complete w.ctx r).WaitsSound .lu [] := by
  have hu := ((s.lock l).consistent_iff.1 (h.locks l)).2.2
  have hnd : ((s.lock l).queue.map Waiter.ctx).Nodup := by
    have := h.nodup .lu
    rw [State.waitingAt_nil] at this
    exact (List.nodup_flatMap.1 this).1 l (mem_allLocks l)
  rw [hq, List.map_cons, List.nodup_cons] at hnd
  rw [hq, urgentFirst_iff, List.pairwise_cons] at hu
  have hg : (s.modLock l fun k => k.heldBy w.ctx rest).WaitsSound .lu [w.ctx] := by
    refine h.modLock ?_ ((Lock.consistent_iff _).2 ⟨nofun, ?_, (urgentFirst_iff _).2 hu.2⟩)
    · rw [hq, List.append_nil]
      exact List.perm_append_singleton _ _
    · rintro _ ⟨⟩
      exact ⟨rfl, fun x hx e => hnd.1 (List.mem_map.2 ⟨x, hx, e⟩)⟩
  simpa using hg.complete_leaving r List.mem_cons_self

theorem State.modLock_modLock (l : LockNum) (f g : Lock → Lock) :
    (s.modLock l f).modLock l g = s.modLock l fun k => g (f k) := by
  unfold State.modLock
  congr 1
  apply Table.ext_at
  intro k
  by_cases e : k = l <;> simp [State.lock, e]

/-- A lock with waiters that its head waiter takes (R30). -/
theorem State.grantHead_eq {l : LockNum} {w : Waiter} {rest : List Waiter} (hq : (s.lock l).queue = w :: rest) :
    s.grantHead l = (s.modLock l fun k => k.heldBy w.ctx rest).complete w.ctx
      ((s.lock l).grantAnswer rest.length (s.lock l).revoked) := by
  rw [State.grantHead_of_cons hq, State.grantLock, State.modLock_modLock]
  simp only [State.modLock_lock_self]
  congr 1

/-- A HELD lock with waiters is revoked in favour of its head waiter (R50). -/
theorem State.revoke_eq {l : LockNum} {h : CtxNum} {w : Waiter} {rest : List Waiter} (hh : (s.lock l).holder = some h)
    (hq : (s.lock l).queue = w :: rest) (cause : RevocationCause) (epoch : BitVec 16) :
    s.revoke l cause epoch = ((s.sendLu (portOf h) (.record ((s.lock l).lossRecord l cause epoch))).modLock l
      fun k => k.heldBy w.ctx rest).complete w.ctx ((s.lock l).grantAnswer rest.length true) := by
  rw [State.revoke_of_held hh]
  set t := s.sendLu (portOf h) (.record ((s.lock l).lossRecord l cause epoch)) with ht
  have e : (s.modLock l fun x => { x.freed with revoked := true }).sendLu (portOf h)
      (.record ((s.lock l).lossRecord l cause epoch)) = t.modLock l fun x => { x.freed with revoked := true } := rfl
  have htl : t.lock l = s.lock l := rfl
  rw [e, State.grantHead_eq (w := w) (rest := rest) (by simp [Lock.freed, htl, hq]), State.modLock_modLock]
  simp only [State.modLock_lock_self, htl]
  rfl

theorem State.WaitsSound.handOff (h : s.WaitsSound .lu []) {l : LockNum} : (s.handOff l).WaitsSound .lu [] := by
  unfold State.handOff
  split
  · rename_i hq
    refine h.modLock (.refl _) ((Lock.consistent_iff _).2 ⟨fun _ => ⟨hq, rfl⟩, nofun, ?_⟩)
    exact ((s.lock l).consistent_iff.1 (h.locks l)).2.2
  · rename_i hq
    obtain ⟨w, rest, hq⟩ := List.exists_cons_of_ne_nil hq
    rw [State.grantHead_eq hq]
    exact h.grants hq _

theorem State.WaitsSound.revoke (h : s.WaitsSound .lu []) (l : LockNum) (cause : RevocationCause) (epoch : BitVec 16) :
    (s.revoke l cause epoch).WaitsSound .lu [] := by
  cases hh : (s.lock l).holder with
  | none => rwa [State.revoke_of_free hh]
  | some c =>
    cases hq : (s.lock l).queue with
    | nil =>
      have hf : (s.modLock l fun x => { x.freed with revoked := true }).WaitsSound .lu [] :=
        h.modLock (.refl _) ((Lock.consistent_iff _).2 ⟨fun _ => ⟨hq, rfl⟩, nofun, by
          exact ((s.lock l).consistent_iff.1 (h.locks l)).2.2⟩)
      rw [State.revoke_of_held hh, State.grantHead_of_nil (by simp [State.sendLu, Lock.freed, hq])]
      exact hf.alike (State.alike_sendLu_record _ _ _)
    | cons w rest =>
      rw [State.revoke_eq hh hq]
      exact (h.alike (s.alike_sendLu_record _ _)).grants (l := l) hq _

/-- A busy context other than the one that completes is left as it is. -/
theorem State.complete_ctx_of_busy {cx c : CtxNum} (hb : (s.ctx c).state.busy = true) (hne : c ≠ cx) (r : Answer) :
    (s.complete cx r).ctx c = s.ctx c := by
  have e : (s.modCtx cx fun c => c.completed r).ctx c = s.ctx c := by simp [hne]
  unfold State.complete
  rcases (s.modCtx cx fun c => c.completed r).testWithdrawal_cases (portOf cx) with h | ⟨_, m, _, _, hrest, h⟩
  · rw [h, e]
  · have hp : portOf c ≠ portOf cx := by
      intro hp
      simp only [State.portAtRest, State.anyOfPort, Bool.not_eq_true', List.any_eq_false, mem_allSlots, true_implies,
        Bool.not_eq_true] at hrest
      have := hrest (slotOf c)
      rw [← hp, ctxOf_portOf_slotOf, e, hb] at this
      exact Bool.noConfusion this
    rw [h]
    cases m <;> simp [State.completeWithdrawal, State.portResetClearing, hp, hne]

/-- An answer to another request leaves a unit free to answer. -/
theorem State.MayAnswer.complete {u : UnitId} {cx c : CtxNum} (h : s.MayAnswer u c) (hne : c ≠ cx) (r : Answer) :
    (s.complete cx r).MayAnswer u c where
  pending := by
    rw [State.complete_ctx_of_busy (by rw [h.pending]; rfl) hne]
    exact h.pending
  inspection e := by simpa using h.inspection e
  forcing e := by simpa using h.forcing e

/-- Who waits at a lock is not PENDING. -/
theorem State.WaitsSound.waiter_ne (h : s.WaitsSound .lu []) {l : LockNum} {w : Waiter} (hw : w ∈ (s.lock l).queue)
    {u : UnitId} {cx : CtxNum} (hm : s.MayAnswer u cx) : cx ≠ w.ctx := by
  rintro rfl
  have : (s.ctx w.ctx).state = .waiting .lu := (h.waiting .lu _).2 (by
    rw [State.waitingAt_nil]
    exact State.mem_lockEntries.2 ⟨l, w, hw, rfl⟩)
  rw [hm.pending] at this
  exact nomatch this

theorem State.MayAnswer.handOff (h : s.WaitsSound .lu []) {u : UnitId} {cx : CtxNum} (hm : s.MayAnswer u cx)
    (l : LockNum) : (s.handOff l).MayAnswer u cx := by
  unfold State.handOff
  split
  · exact ⟨hm.pending, hm.inspection, hm.forcing⟩
  · rename_i hq
    obtain ⟨w, rest, hq⟩ := List.exists_cons_of_ne_nil hq
    rw [State.grantHead_eq hq]
    have hm' : (s.modLock l fun k => k.heldBy w.ctx rest).MayAnswer u cx := ⟨hm.pending, hm.inspection, hm.forcing⟩
    exact hm'.complete (h.waiter_ne (l := l) (by simp [hq]) hm) _

theorem State.MayAnswer.revoke (h : s.WaitsSound .lu []) {u : UnitId} {cx : CtxNum} (hm : s.MayAnswer u cx)
    (l : LockNum) (cause : RevocationCause) (epoch : BitVec 16) : (s.revoke l cause epoch).MayAnswer u cx := by
  cases hh : (s.lock l).holder with
  | none => rwa [State.revoke_of_free hh]
  | some c =>
    cases hq : (s.lock l).queue with
    | nil =>
      rw [State.revoke_of_held hh, State.grantHead_of_nil (by simp [State.sendLu, Lock.freed, hq])]
      exact ⟨hm.pending, hm.inspection, hm.forcing⟩
    | cons w rest =>
      rw [State.revoke_eq hh hq]
      have hm' : ((s.sendLu (portOf c) (.record ((s.lock l).lossRecord l cause epoch))).modLock l
          fun k => k.heldBy w.ctx rest).MayAnswer u cx := ⟨hm.pending, hm.inspection, hm.forcing⟩
      exact hm'.complete (h.waiter_ne (l := l) (by simp [hq]) hm) _

/-- A FREE lock is granted: no one waits for it. -/
theorem State.WaitsSound.grantLock (h : s.WaitsSound .lu []) {l : LockNum} {cx : CtxNum} (hm : s.MayAnswer .lu cx)
    (hl : (s.lock l).holder = none) : (s.grantLock l cx).WaitsSound .lu [] := by
  obtain ⟨hfree, _, _⟩ := (s.lock l).consistent_iff.1 (h.locks l)
  have hq := (hfree hl).1
  have hg : (s.modLock l fun _ => (s.lock l).grantedTo cx).WaitsSound .lu [] := by
    refine h.modLock (.refl _) ((Lock.consistent_iff _).2 ⟨nofun, fun c _ => ⟨rfl, ?_⟩, ?_⟩)
    · simp [Lock.grantedTo, hq]
    · simp [Lock.grantedTo, hq, urgentFirst]
  exact hg.answer (v := .lu) _ ⟨hm.pending, hm.inspection, hm.forcing⟩

/-- A context parks in the queue of a lock that another holds. -/
theorem State.WaitsSound.parkWaiter (h : s.WaitsSound .lu []) {l : LockNum} {cx c : CtxNum} (hm : s.MayAnswer .lu cx)
    (hl : (s.lock l).holder = some c) (hne : c ≠ cx) : (s.parkWaiter l cx).WaitsSound .lu [] := by
  obtain ⟨_, hheld, hu⟩ := (s.lock l).consistent_iff.1 (h.locks l)
  refine (h.parks hm).modLock (l := l)
    (f := fun x => { x with queue := joinQueue x.queue ⟨cx, (s.ctx cx).command.priority, (s.ctx cx).command.timeout⟩ }) ?_ ?_
  · rw [List.append_nil]
    exact ((joinQueue_perm _ _).map _).trans (List.perm_append_singleton _ _).symm
  · refine (Lock.consistent_iff _).2 ⟨fun e => ?_, fun c' e => ?_, urgentFirst_joinQueue hu _⟩
    · exact nomatch hl.symm.trans e
    · obtain rfl : c = c' := Option.some.inj (hl.symm.trans e)
      refine ⟨(hheld c hl).1, fun w hw => ?_⟩
      rcases List.mem_cons.1 ((joinQueue_perm _ _).mem_iff.1 hw) with rfl | hw
      · exact hne.symm
      · exact (hheld c hl).2 w hw

/-- The waits of the locks are counted, and those whose count ends time out. -/
theorem State.WaitsSound.countLockWaits (h : s.WaitsSound .lu []) : s.countLockWaits.WaitsSound .lu [] := by
  refine State.WaitsSound.timeOutAll (h.regroupLocks ?_ fun l => ?_)
  · rw [List.append_nil]
    have hq (l : LockNum) : ((s.mapLocks fun k => { k with queue := countQueue k.queue }).lock l).queue.map Waiter.ctx =
        ((s.lock l).queue.filter fun w => !w.timesOut).map Waiter.ctx := by
      simp [countQueue, Waiter.counted, Function.comp_def]
    have e : (s.mapLocks fun k => { k with queue := countQueue k.queue }).lockEntries =
        (allLocks.flatMap fun l => (s.lock l).queue.filter fun w => !w.timesOut).map Waiter.ctx := by
      rw [List.map_flatMap]
      exact congrArg (List.flatMap · allLocks) (funext hq)
    have e' : s.lockTimeouts = (allLocks.flatMap fun l => (s.lock l).queue.filter Waiter.timesOut).map Waiter.ctx := by
      rw [List.map_flatMap]
      rfl
    have e'' : s.lockEntries = (allLocks.flatMap fun l => (s.lock l).queue).map Waiter.ctx := by
      rw [List.map_flatMap]
      rfl
    rw [show ({ s with locks := _ } : State).lockEntries = _ from e, e', e'', ← List.map_append]
    exact (List.perm_append_comm.trans (flatMap_filter_perm allLocks _ Waiter.timesOut)).map _
  · rw [Table.at_mapEach]
    exact Lock.consistent_of_shrunk (h.locks l) (fun _ => rfl) fun _ => rfl

/-- The entries of the contexts for which `p` fails leave the queues of the locks. -/
theorem State.WaitsSound.leaveLocks (h : s.WaitsSound .lu []) (p : CtxNum → Bool) {q : Waiter → Bool}
    (hq : ∀ w, q w = p w.ctx) : (s.mapLocks fun k => { k with queue := k.queue.filter q }).WaitsSound .lu
      (s.lockEntries.filter fun c => !p c) := by
  refine h.regroupLocks ?_ fun l => ?_
  · rw [List.append_nil]
    have e : (s.mapLocks fun k => { k with queue := k.queue.filter q }).lockEntries = s.lockEntries.filter p := by
      simp only [State.lockEntries, State.mapLocks_lock, List.filter_flatMap, List.filter_map]
      refine congrArg (List.flatMap · allLocks) (funext fun l => ?_)
      rw [List.filter_congr fun w _ => hq w]
      rfl
    rw [show ({ s with locks := _ } : State).lockEntries = _ from e]
    exact List.filter_append_perm p _
  · rw [Table.at_mapEach]
    exact Lock.consistent_of_filter (h.locks l) q

end LockMoves

end Sys2Proof.Machine

namespace Sys2Proof.Machine

/-! ### Channels -/

section ChannelMoves
variable {s : State}

theorem State.channelEntries_eq (s : State) : s.channelEntries = allChans.flatMap fun n => (s.chan n).waiters := rfl

theorem State.mem_channelEntries {cx : CtxNum} : cx ∈ s.channelEntries ↔ ∃ n, cx ∈ (s.chan n).waiters := by
  simp [State.channelEntries_eq]

/-- Who waits at a channel is WAITING at CU. -/
theorem State.WaitsSound.waits_at_channel {u : UnitId} {leaving : List CtxNum} (h : s.WaitsSound u leaving) {n : ChanNum}
    {cx : CtxNum} (hw : cx ∈ (s.chan n).waiters) : (s.ctx cx).state = .waiting .cu :=
  (h.waiting .cu cx).2 (List.mem_append_left _ (State.mem_channelEntries.2 ⟨n, hw⟩))

/-- The waiters of a channel leave it; their requests are still to end. -/
theorem State.WaitsSound.leaveChannel (h : s.WaitsSound .cu []) {n : ChanNum} {f : Channel → Channel} {cs : List CtxNum}
    (hq : (cs ++ (f (s.chan n)).waiters).Perm (s.chan n).waiters)
    (hb : (f (s.chan n)).binding = none → (f (s.chan n)).waiters = []) : (s.modChan n f).WaitsSound .cu cs :=
  h.modChan (by rw [List.append_nil]; exact List.perm_append_comm.trans hq) hb

/-- A request parks at a channel. -/
theorem State.WaitsSound.parkAtChannel (h : s.WaitsSound .cu []) {cx : CtxNum} {n : ChanNum} {f : Channel → Channel}
    (hm : s.MayAnswer .cu cx) (hq : (f (s.chan n)).waiters.Perm (cx :: (s.chan n).waiters))
    (hb : (f (s.chan n)).binding ≠ none) :
    ((s.modChan n f).modCtx cx fun c => { c with state := .waiting .cu }).WaitsSound .cu [] := by
  rw [State.modChan_modCtx]
  refine (h.parks hm).modChan ?_ fun e => absurd e hb
  rw [List.append_nil]
  exact hq.trans (List.perm_append_singleton _ _).symm

/-- A waiter of a channel is served. -/
theorem State.WaitsSound.serve (h : s.WaitsSound .cu []) {cx : CtxNum} {n : ChanNum} {f : Channel → Channel} (r : Answer)
    (hq : (cx :: (f (s.chan n)).waiters).Perm (s.chan n).waiters) (hb : (f (s.chan n)).binding = (s.chan n).binding) :
    ((s.modChan n f).complete cx r).WaitsSound .cu [] := by
  have hleft : (s.modChan n f).WaitsSound .cu [cx] := h.leaveChannel hq fun e => by
    have := h.unbound n (hb ▸ e)
    rw [this] at hq
    exact absurd hq.eq_nil (List.cons_ne_nil _ _)
  simpa using hleft.complete_leaving r List.mem_cons_self

/-- Who waits at a channel is not PENDING. -/
theorem State.WaitsSound.channelWaiter_ne {u v : UnitId} {leaving : List CtxNum} (h : s.WaitsSound u leaving) {n : ChanNum}
    {cx c : CtxNum} (hw : c ∈ (s.chan n).waiters) (hm : s.MayAnswer v cx) : cx ≠ c := by
  rintro rfl
  have := h.waits_at_channel hw
  rw [hm.pending] at this
  exact nomatch this

/-- A waiter of a channel is served, and the request that serves it ends. -/
theorem State.WaitsSound.serveFor (h : s.WaitsSound .cu []) {cx cx' : CtxNum} {n : ChanNum} {f : Channel → Channel}
    (r r' : Answer) (hm : s.MayAnswer .cu cx') (hq : (cx :: (f (s.chan n)).waiters).Perm (s.chan n).waiters)
    (hb : (f (s.chan n)).binding = (s.chan n).binding) :
    (((s.modChan n f).complete cx r).complete cx' r').WaitsSound .cu [] := by
  have hm' : (s.modChan n f).MayAnswer .cu cx' := ⟨hm.pending, hm.inspection, hm.forcing⟩
  exact (h.serve r hq hb).answer r' (hm'.complete (h.channelWaiter_ne (hq.subset List.mem_cons_self) hm) r)

/-- An unbound channel is bound. -/
theorem State.WaitsSound.bind (h : s.WaitsSound .cu []) {n : ChanNum} {f : Channel → Channel}
    (hb : (s.chan n).binding = none) (hq : (f (s.chan n)).waiters = []) : (s.modChan n f).WaitsSound .cu [] :=
  h.leaveChannel (by rw [hq, h.unbound _ hb]; exact .refl _) fun _ => hq

/-- The entries of a queue that has been emptied are cancelled. -/
theorem State.WaitsSound.cancelEntries {es : List WaitEntry} (h : s.WaitsSound .cu (es.map WaitEntry.ctx)) :
    (s.cancelEntries es).WaitsSound .cu [] := by
  induction es generalizing s with
  | nil => exact h
  | cons e es ih =>
    have := h.complete_leaving { code := .cancelled } List.mem_cons_self
    rw [List.map_cons, List.erase_cons_head] at this
    exact ih this

theorem State.MayAnswer.cancelEntries {u : UnitId} {cx : CtxNum} (hm : s.MayAnswer u cx) {es : List WaitEntry}
    (hne : ∀ e ∈ es, cx ≠ e.ctx) : (s.cancelEntries es).MayAnswer u cx := by
  induction es generalizing s with
  | nil => exact hm
  | cons e es ih =>
    exact ih (hm.complete (hne e List.mem_cons_self) _) fun e' he => hne e' (List.mem_cons_of_mem _ he)

/-- Settings and clearings to several ports move nothing else. -/
theorem State.WaitsSound.sendCuAll {u : UnitId} {leaving : List CtxNum} (h : s.WaitsSound u leaving) (b : BitVec 4)
    (m : CuMessage) : (s.sendCuAll b m).WaitsSound u leaving := by
  unfold State.sendCuAll
  induction allPorts generalizing s with
  | nil => exact h
  | cons p ps ih =>
    rw [List.foldl_cons]
    split
    · exact ih (h.alike (s.alike_sendCu p m))
    · exact ih h

/-- A forced unbind cancels the waiters of the channel, and the request that asked for it ends. -/
theorem State.WaitsSound.forceUnbind (h : s.WaitsSound .cu []) {cx : CtxNum} (n : ChanNum) (b : Binding) (r : Answer)
    (hm : s.MayAnswer .cu cx) : ((s.forceUnbind n b).complete cx r).WaitsSound .cu [] := by
  have hleft : (s.modChan n Channel.unbound).WaitsSound .cu (s.chan n).waiters :=
    h.leaveChannel (by simp [Channel.unbound, Channel.waiters]) fun _ => rfl
  have hm' : (s.modChan n Channel.unbound).MayAnswer .cu cx := ⟨hm.pending, hm.inspection, hm.forcing⟩
  have hc := hm'.cancelEntries (es := (s.chan n).senders ++ (s.chan n).receivers) fun e he =>
    h.channelWaiter_ne (List.mem_map_of_mem he) hm
  refine ((hleft.cancelEntries.alike (State.alike_sendCu _ b.receiver _)).sendCuAll b.senders _).answer (v := .cu) r
    ⟨?_, nofun, nofun⟩
  simpa using hc.pending

/-- The waits of the channels are counted, and those whose count ends time out. -/
theorem State.WaitsSound.countChannelWaits (h : s.WaitsSound .cu []) : s.countChannelWaits.WaitsSound .cu [] := by
  refine State.WaitsSound.timeOutAll (h.regroupChannels ?_ fun n hn => ?_)
  · have hq (n : ChanNum) : ((s.mapChans fun c =>
        { c with senders := countEntries c.senders, receivers := countEntries c.receivers }).chan n).waiters =
        (((s.chan n).senders ++ (s.chan n).receivers).filter fun e => !e.timesOut).map WaitEntry.ctx := by
      simp [Channel.waiters, countEntries, WaitEntry.counted, Function.comp_def]
    have e : (s.mapChans fun c =>
        { c with senders := countEntries c.senders, receivers := countEntries c.receivers }).channelEntries =
        (allChans.flatMap fun n => ((s.chan n).senders ++ (s.chan n).receivers).filter fun e => !e.timesOut).map
          WaitEntry.ctx := by
      rw [List.map_flatMap]
      exact congrArg (List.flatMap · allChans) (funext hq)
    have e' : s.channelTimeouts = (allChans.flatMap fun n =>
        ((s.chan n).senders ++ (s.chan n).receivers).filter WaitEntry.timesOut).map WaitEntry.ctx := by
      rw [List.map_flatMap]
      rfl
    have e'' : s.channelEntries = (allChans.flatMap fun n => (s.chan n).senders ++ (s.chan n).receivers).map
        WaitEntry.ctx := by
      rw [List.map_flatMap]
      rfl
    rw [List.append_nil, show ({ s with channels := _ } : State).channelEntries = _ from e, e', e'', ← List.map_append]
    exact (List.perm_append_comm.trans (flatMap_filter_perm allChans _ WaitEntry.timesOut)).map _
  · rw [Table.at_mapEach] at hn ⊢
    have := h.unbound n hn
    simp only [Channel.waiters, List.map_eq_nil_iff, List.append_eq_nil_iff] at this
    simp [Channel.waiters, countEntries, show (s.channels.at n).senders = [] from this.1,
      show (s.channels.at n).receivers = [] from this.2]

/-- The entries of the contexts for which `p` fails leave the queues of the channels. -/
theorem State.WaitsSound.leaveChannels (h : s.WaitsSound .cu []) (p : CtxNum → Bool) {q : WaitEntry → Bool}
    (hq : ∀ e, q e = p e.ctx) :
    (s.mapChans fun c => { c with senders := c.senders.filter q, receivers := c.receivers.filter q }).WaitsSound .cu
      (s.channelEntries.filter fun c => !p c) := by
  have hw (c : Channel) : ({ c with senders := c.senders.filter q, receivers := c.receivers.filter q } : Channel).waiters =
      c.waiters.filter p := by
    simp only [Channel.waiters, ← List.filter_append, List.filter_map]
    exact congrArg _ (List.filter_congr fun e _ => hq e)
  refine h.regroupChannels ?_ fun n hn => ?_
  · have e : (s.mapChans fun c =>
        { c with senders := c.senders.filter q, receivers := c.receivers.filter q }).channelEntries =
        s.channelEntries.filter p := by
      simp only [State.channelEntries_eq, State.mapChans_chan, List.filter_flatMap, hw]
    rw [List.append_nil, show ({ s with channels := _ } : State).channelEntries = _ from e]
    exact List.filter_append_perm p _
  · rw [Table.at_mapEach] at hn ⊢
    rw [hw, show (s.channels.at n).waiters = [] from h.unbound n hn, List.filter_nil]

end ChannelMoves

end Sys2Proof.Machine

namespace Sys2Proof.Machine

/-! ### The other changes, and the obligation -/

section OtherMoves
variable {s t : State} {u : UnitId} {leaving : List CtxNum}

/-- The invariant does not look at the messages of the ports. -/
theorem State.WaitsSound.modLink (h : s.WaitsSound u leaving) (p : Port) (f : Links → Links) :
    (s.modLink p f).WaitsSound u leaving :=
  ⟨h.nodup, h.waiting, h.offline, h.inspection, h.forcing, h.locks, h.unbound⟩

theorem State.WaitsSound.muSettle (h : s.WaitsSound u leaving) (p : Port) : (s.muSettle p).WaitsSound u leaving := by
  unfold State.muSettle
  split
  · exact h.modLink _ _
  · exact h

/-- A port that comes to be OFFLINE has its contexts IDLE. -/
theorem State.WaitsSound.modPort (h : s.WaitsSound u leaving) {p : Port} {f : PortInterface → PortInterface}
    (hp : (f (s.port p)).state = .offline → (s.port p).state = .offline) : (s.modPort p f).WaitsSound u leaving where
  nodup := h.nodup
  waiting := h.waiting
  offline cx ho := by
    refine h.offline cx ?_
    by_cases e : portOf cx = p
    · rw [e] at ho ⊢
      exact hp (by simpa using ho)
    · simpa [e] using ho
  inspection := h.inspection
  forcing := h.forcing
  locks := h.locks
  unbound := h.unbound

/-- With nothing leaving, who waits at a unit stands in its queues. -/
theorem State.WaitsSound.mem_entriesAt (h : s.WaitsSound u []) {v : UnitId} {cx : CtxNum}
    (hw : (s.ctx cx).state = .waiting v) : cx ∈ s.entriesAt v := by
  rw [← State.waitingAt_nil s u]
  exact (h.waiting v cx).1 hw

theorem State.WaitsSound.nodup_entriesAt (h : s.WaitsSound u []) (v : UnitId) : (s.entriesAt v).Nodup := by
  rw [← State.waitingAt_nil s u]
  exact h.nodup v

/-- At reset nothing waits. -/
theorem State.WaitsSound.of_blocksAtReset (h : t.blocksAtReset) (u : UnitId) : t.WaitsSound u [] := by
  obtain ⟨hctx, -, -, -, hlock, -, hforcing, hchan, -, -, -, -, -, -, -, -, -, hinspection⟩ := h
  have hent (v : UnitId) : t.entriesAt v = [] := by
    cases v <;> simp [State.entriesAt, State.lockEntries, State.channelEntries, hlock, hchan]
  have idle (cx : CtxNum) : (t.ctx cx).state = .idle := (hctx cx).1
  refine ⟨fun v => ?_, fun v cx => ?_, fun cx _ => idle cx, fun g hg => ?_, fun cx hcx => ?_, fun l => ?_, fun n _ => ?_⟩
  · simp [State.waitingAt_nil, hent]
  · simp [State.waitingAt_nil, hent, idle]
  · rw [hinspection] at hg
    exact nomatch hg
  · rw [hforcing] at hcx
    exact nomatch hcx
  · rw [hlock]
    rfl
  · rw [hchan]
    rfl

/-- A context that waits at no unit stands in no queue. -/
theorem State.WaitsSound.not_mem_entriesAt (h : s.WaitsSound u leaving) {cx : CtxNum}
    (hw : ∀ v, (s.ctx cx).state ≠ .waiting v) (v : UnitId) : cx ∉ s.entriesAt v :=
  fun hm => h.not_mem (hw v) (List.mem_append_left _ hm)

/-- A context that is not busy changes, and waits nowhere then either. -/
theorem State.WaitsSound.modCtx_of_not_busy (h : s.WaitsSound u []) {cx : CtxNum} {f : Context → Context}
    (hb : (s.ctx cx).state.busy = false) (hw : ∀ v, (f (s.ctx cx)).state ≠ .waiting v)
    (ho : (s.port (portOf cx)).state = .offline → (f (s.ctx cx)).state = .idle) : (s.modCtx cx f).WaitsSound u [] := by
  refine h.modCtx (h.not_mem_entriesAt fun v e => ?_) hw ho (fun e => ?_) fun e => ?_ <;>
    exact Bool.noConfusion (hb.symm.trans (congrArg CtxState.busy e))

theorem Context.started_not_waiting (c : Context) (v : UnitId) : c.started.state ≠ .waiting v := by
  unfold Context.started
  dsimp only
  split <;> simp [Context.completed]

/-- An ACK returns a DONE context to IDLE, and changes no other. -/
theorem Context.acked_cases (c : Context) :
    (c.state = .done ∧ c.acked = { c with state := .idle, result := .cleared }) ∨ (c.state ≠ .done ∧ c.acked = c) := by
  unfold Context.acked
  split
  · rename_i h
    exact .inl ⟨h, rfl⟩
  · rename_i h
    exact .inr ⟨h, rfl⟩

theorem State.WaitsSound.acks (h : s.WaitsSound u []) (cx : CtxNum) : (s.modCtx cx Context.acked).WaitsSound u [] := by
  rcases (s.ctx cx).acked_cases with ⟨hd, e⟩ | ⟨_, e⟩
  · refine h.modCtx_of_not_busy (by rw [hd]; rfl) (fun v => ?_) fun _ => ?_ <;> simp [e]
  · exact h.alike (State.alike_modCtx (by rw [e]) fun _ => by rw [e])

/-- A fill begins. -/
theorem State.WaitsSound.fillBegins (h : s.WaitsSound u []) {cx : CtxNum} (f : Fill) (hm : s.MayAnswer .mu cx) :
    (s.modCtx cx fun c => { c with state := .active f }).WaitsSound u [] := by
  refine h.modCtx (h.not_mem_entriesAt fun v => ?_) (fun v => ?_) (fun ho => ?_) ?_ ?_
  · simp [hm.pending]
  · simp
  · have := h.offline cx ho
    rw [hm.pending] at this
    exact nomatch this
  · simp [hm.pending]
  · simp [hm.pending]

/-- The window of an OFFLINE port is cleared: its contexts are IDLE. -/
theorem State.WaitsSound.portResetClearing (h : s.WaitsSound u leaving) {p : Port} (hp : (s.port p).state = .offline) :
    (s.portResetClearing p).WaitsSound u leaving := by
  have idle {cx : CtxNum} (e : portOf cx = p) : (s.ctx cx).state = .idle := h.offline cx (e ▸ hp)
  refine (h.alike (t := s.modPortCtxs p fun _ => Context.reset) (State.alike_mapCtxs (fun cx => ?_) fun cx hb => ?_)).modPort ?_
  · split
    · rename_i e
      rw [idle e]
      rfl
    · rfl
  · split
    · rename_i e
      rw [idle e] at hb
      exact nomatch hb
    · rfl
  · rw [State.modPortCtxs, State.mapCtxs_port]
    exact fun _ => hp

/-- SU begins, or goes on with, the step of an INSPECT PORT. -/
theorem State.WaitsSound.inspects (h : s.WaitsSound u leaving) {g : Inspection} (hp : (s.ctx g.ctx).state = .pending .su)
    (hc : (s.ctx g.ctx).command.code = Command.inspectPort.code)
    (ho : (s.ctx g.ctx).command.object.toNat = g.port.val ∨ ∃ g' ∈ s.inspection, g'.ctx = g.ctx ∧ g'.port = g.port)
    (hl : g.portState = none ∨ g.contexts = none ∨ g.locks = none) :
    ({ s with inspection := some g } : State).WaitsSound u leaving where
  nodup := h.nodup
  waiting := h.waiting
  offline := h.offline
  inspection := by
    rintro _ ⟨⟩
    refine ⟨hp, hc, ?_, hl⟩
    rcases ho with ho | ⟨g', hg, hctx, hport⟩
    · exact ho
    · obtain ⟨_, _, ho, _⟩ := h.inspection g' hg
      rw [← hctx, ← hport]
      exact ho
  forcing := h.forcing
  locks := h.locks
  unbound := h.unbound

/-- LU begins the step of a FORCE RELEASE. -/
theorem State.WaitsSound.setForcing (h : s.WaitsSound u leaving) {o : Option CtxNum}
    (ho : ∀ cx ∈ o, (s.ctx cx).state = .pending .lu ∧ (s.ctx cx).command.code = Command.forceRelease.code ∧
      s.luTickOpen = false) : (s.setForcing o).WaitsSound u leaving :=
  ⟨h.nodup, h.waiting, h.offline, h.inspection, ho, h.locks, h.unbound⟩

theorem State.WaitsSound.answerNotice (h : s.WaitsSound u leaving) (p : Port) (v : UnitId) :
    (s.answerNotice p v).WaitsSound u leaving := by
  unfold State.answerNotice State.dropNotice State.sendLu
  cases v with
  | mu => exact h
  | lu | cu | su => exact (h.modLink p _).modLink p _

/-- An acknowledgement brings no port OFFLINE but by the completion of its withdrawal. -/
theorem State.WaitsSound.acknowledged (h : s.WaitsSound u leaving) (p : Port) (v : UnitId) :
    (s.acknowledged p v).WaitsSound u leaving := by
  refine (h.modPort fun ho => ?_).testWithdrawal p
  split at ho
  · exact nomatch ho
  · exact ho

theorem State.WaitsSound.beginWithdrawal (h : s.WaitsSound u leaving) (p : Port) (mark : Bool) :
    (s.beginWithdrawal p mark).WaitsSound u leaving := by
  have hp : (s.modPort p fun i => { i with state := .withdrawing (.all false) mark }).WaitsSound u leaving :=
    h.modPort nofun
  exact hp.modLink p _

/-- The wait of a context that stands in a queue of the locks ends. -/
theorem State.WaitsSound.lockWaitEnds (h : s.WaitsSound .lu []) {cx : CtxNum} (r : Answer) (hcx : cx ∈ s.lockEntries) :
    ((s.mapLocks fun k => { k with queue := leaveQueue cx k.queue }).complete cx r).WaitsSound .lu [] := by
  have hn : s.lockEntries.Nodup := h.nodup_entriesAt .lu
  have hleft : (s.mapLocks fun k => { k with queue := leaveQueue cx k.queue }).WaitsSound .lu
      (s.lockEntries.filter fun c => !decide (c ≠ cx)) := h.leaveLocks (fun c => decide (c ≠ cx)) fun _ => rfl
  have e : (s.lockEntries.filter fun c => !decide (c ≠ cx)) = [cx] := by
    simp [List.filter_eq, List.count_eq_one_of_mem hn hcx]
  rw [e] at hleft
  simpa using hleft.complete_leaving r List.mem_cons_self

theorem State.WaitsSound.channelWaitEnds (h : s.WaitsSound .cu []) {cx : CtxNum} (r : Answer)
    (hcx : cx ∈ s.channelEntries) : ((s.leaveChannels cx).complete cx r).WaitsSound .cu [] := by
  have hn : s.channelEntries.Nodup := h.nodup_entriesAt .cu
  have hleft : (s.leaveChannels cx).WaitsSound .cu (s.channelEntries.filter fun c => !decide (c ≠ cx)) :=
    h.leaveChannels (fun c => decide (c ≠ cx)) fun _ => rfl
  have e : (s.channelEntries.filter fun c => !decide (c ≠ cx)) = [cx] := by
    simp [List.filter_eq, List.count_eq_one_of_mem hn hcx]
  rw [e] at hleft
  simpa using hleft.complete_leaving r List.mem_cons_self

/-- The lock waits of a port are cancelled. -/
theorem State.WaitsSound.lockWaitsCancelled (h : s.WaitsSound .lu []) (p : Port) :
    ((s.mapLocks fun k => { k with queue := leaveQueueOfPort p k.queue }).cancelAll p (.waiting .lu)).WaitsSound .lu [] := by
  have hleft : (s.mapLocks fun k => { k with queue := leaveQueueOfPort p k.queue }).WaitsSound .lu
      (s.lockEntries.filter fun c => !decide (portOf c ≠ p)) := h.leaveLocks (fun c => decide (portOf c ≠ p)) fun _ => rfl
  refine hleft.cancelAll (fun cx hcx => by simpa using (List.mem_filter.1 hcx).2) fun cx hcx => ?_
  obtain ⟨l, w, hw, rfl⟩ := State.mem_lockEntries.1 hcx
  rw [State.mapLocks_lock] at hw
  simpa using (List.mem_filter.1 hw).2

/-- The channel waits of a port are cancelled. -/
theorem State.WaitsSound.channelWaitsCancelled (h : s.WaitsSound .cu []) (p : Port) :
    ((s.mapChans fun c =>
      { c with senders := leaveEntriesOfPort p c.senders, receivers := leaveEntriesOfPort p c.receivers }).cancelAll p
        (.waiting .cu)).WaitsSound .cu [] := by
  have hleft : (s.mapChans fun c =>
      { c with senders := leaveEntriesOfPort p c.senders, receivers := leaveEntriesOfPort p c.receivers }).WaitsSound .cu
      (s.channelEntries.filter fun c => !decide (portOf c ≠ p)) :=
    h.leaveChannels (fun c => decide (portOf c ≠ p)) fun _ => rfl
  refine hleft.cancelAll (fun cx hcx => by simpa using (List.mem_filter.1 hcx).2) fun cx hcx => ?_
  obtain ⟨n, hw⟩ := State.mem_channelEntries.1 hcx
  rw [State.mapChans_chan, Channel.waiters, leaveEntriesOfPort, leaveEntriesOfPort, ← List.filter_append] at hw
  obtain ⟨e, he, rfl⟩ := List.mem_map.1 hw
  simpa using (List.mem_filter.1 he).2

end OtherMoves

/-- Every elementary change keeps the waits sound. -/
theorem Move.keeps_waitsSound {s t : State} (hm : Move s t) (h : s.WaitsSound .lu []) : t.WaitsSound .lu [] := by
  have hcu := h.at_unit .cu
  cases hm with
  | quiet ha => exact h.alike ha
  | reset hr => exact .of_blocksAtReset hr _
  | answer r ha => exact h.answer r ha
  | goes hp hb =>
    refine h.modCtx_of_not_busy hb (Context.started_not_waiting _) fun ho => ?_
    rw [hp] at ho
    exact nomatch ho
  | acks cx => exact h.acks cx
  | fillBegins f ha => exact h.fillBegins f ha
  | fillEnds r hf =>
    exact (h.complete_of_not_waiting r (by rw [hf]; rfl) (by simp [hf]) (by simp [hf]) (by simp [hf])).muSettle _
  | lockGrants ha hl => exact h.grantLock ha hl
  | lockParks ha hl hne => exact h.parkWaiter ha hl hne
  | lockReleases r ha _ => exact h.handOff.answer r (ha.handOff h _)
  | lockRevoked l cause epoch => exact h.revoke l cause epoch
  | lockForced l cause epoch r ha => exact (h.revoke l cause epoch).answer r (ha.revoke h l cause epoch)
  | lockWaitsCount => exact h.countLockWaits
  | lockWaitEnds r hw =>
    exact h.lockWaitEnds r (hw.elim h.mem_entriesAt id)
  | lockWaitsCancelled p => exact h.lockWaitsCancelled p
  | chanParks ha hq hb => exact (hcu.parkAtChannel ha hq hb).at_unit _
  | chanServes r hq hb => exact (hcu.serve r hq hb).at_unit _
  | chanServesFor r r' ha hq hb => exact (hcu.serveFor r r' ha hq hb).at_unit _
  | chanBinds hb hq => exact (hcu.bind hb hq).at_unit _
  | chanUnbinds n b r ha => exact (hcu.forceUnbind n b r ha).at_unit _
  | chanWaitsCount => exact hcu.countChannelWaits.at_unit _
  | chanWaitEnds r hw =>
    exact (hcu.channelWaitEnds r (hw.elim hcu.mem_entriesAt id)).at_unit _
  | chanWaitsCancelled p => exact (hcu.channelWaitsCancelled p).at_unit _
  | inspects g hp hc ho hl => exact h.inspects hp hc ho hl
  | inspected => exact { h with inspection := nofun }
  | forces hp hc ht => exact h.setForcing (by rintro _ ⟨⟩; exact ⟨hp, hc, ht⟩)
  | forced => exact h.setForcing nofun
  | attaches hp => exact h.modPort nofun
  | withdraws mark hp => exact h.beginWithdrawal _ mark
  | marks hp => exact h.modPort nofun
  | clears hp => exact h.portResetClearing hp
  | muTakesNotice _ _ => exact ((h.modLink _ _).modLink _ _).muSettle _
  | answersNotice _ _ _ => exact h.answerNotice _ _
  | acknowledges _ => exact (h.modLink _ _).acknowledged _ _

/-- A channel that meets R65 has no waiters while it is unbound. -/
theorem Channel.waiters_of_unbound {c : Channel} (h : c.consistent = true) (hb : c.binding = none) : c.waiters = [] := by
  simp only [Channel.consistent, hb, Bool.and_eq_true, Bool.or_eq_true, List.isEmpty_iff, Option.isSome_none,
    Bool.false_eq_true, false_or] at h
  obtain ⟨⟨_, ⟨_, hs⟩, hr⟩, _⟩ := h
  simp [Channel.waiters, hs, hr]

/-- Settles O5: `WaitsSound`, which adds that no unbound channel has waiters, is kept by every elementary change, and
every step is a chain of these. -/
theorem stepKeepsLocksConsistent : Obligations.StepKeepsLocksConsistent := fun s t hl hc h =>
  have hs : s.WaitsSound .lu [] := (s.waitsSound_nil_iff _).2 ⟨hl, fun n => Channel.waiters_of_unbound (hc n)⟩
  ((t.waitsSound_nil_iff _).1 (step_keeps Move.keeps_waitsSound h hs)).1

end Sys2Proof.Machine

namespace Sys2Proof.Machine

/-! ## Withdrawals -/

/-! ### Chains of completions

Where no acknowledgement set is full, a completion writes its own context alone; so a chain of completions leaves the
port states, and brings contexts to DONE. -/

/-- From `s` to `t` requests of contexts in `C` have ended, and nothing else has changed that a withdrawal depends on. -/
structure State.EndsOnly (C : CtxNum → Prop) (s t : State) : Prop where
  ctx : ∀ cx, (t.ctx cx).state.bare = (s.ctx cx).state.bare ∨ (C cx ∧ (t.ctx cx).state = .done)
  port : ∀ p, (t.port p).state = (s.port p).state
  link : ∀ p, (s.link p).Alike (t.link p)

section EndsOnly
variable {C : CtxNum → Prop} {s t u : State}

theorem Links.Alike.trans {k l m : Links} (h : k.Alike l) (h' : l.Alike m) : k.Alike m where
  notices u := (h'.notices u).trans (h.notices u)
  muOwesAck := h'.muOwesAck.trans h.muOwesAck
  muAck := h'.muAck.trans h.muAck
  cuAck := h'.cuAck.trans h.cuAck
  suAck := h'.suAck.trans h.suAck
  fromLu := h'.fromLu.trans h.fromLu

theorem State.EndsOnly.refl (s : State) : State.EndsOnly C s s := ⟨fun _ => .inl rfl, fun _ => rfl, fun _ => .refl _⟩

theorem State.EndsOnly.trans (h : State.EndsOnly C s t) (h' : State.EndsOnly C t u) : State.EndsOnly C s u where
  ctx cx := by
    rcases h'.ctx cx with e' | e'
    · rcases h.ctx cx with e | ⟨hc, e⟩
      · exact .inl (e'.trans e)
      · rw [e] at e'
        exact .inr ⟨hc, by cases hu : (u.ctx cx).state <;> simp_all [CtxState.bare]⟩
    · exact .inr e'
  port p := (h'.port p).trans (h.port p)
  link p := (h.link p).trans (h'.link p)

theorem State.EndsOnly.settled (h : State.EndsOnly C s t) (hs : s.settled) : t.settled := fun p => by
  rw [h.port p]
  exact hs p

theorem State.Alike.endsOnly (h : s.Alike t) : State.EndsOnly C s t := ⟨fun cx => .inl (h.ctx cx), h.port, h.link⟩

theorem State.endsOnly_modLock (l : LockNum) (f : Lock → Lock) : State.EndsOnly C s (s.modLock l f) :=
  ⟨fun _ => .inl rfl, fun _ => rfl, fun _ => .refl _⟩

theorem State.endsOnly_modChan (n : ChanNum) (f : Channel → Channel) : State.EndsOnly C s (s.modChan n f) :=
  ⟨fun _ => .inl rfl, fun _ => rfl, fun _ => .refl _⟩

theorem State.endsOnly_mapLocks (f : Lock → Lock) : State.EndsOnly C s (s.mapLocks f) where
  ctx cx := by rw [State.mapLocks_ctx]; exact .inl rfl
  port p := by rw [State.mapLocks_port]
  link p := by rw [State.mapLocks_link]; exact .refl _

theorem State.endsOnly_mapChans (f : Channel → Channel) : State.EndsOnly C s (s.mapChans f) where
  ctx cx := by rw [State.mapChans_ctx]; exact .inl rfl
  port p := by rw [State.mapChans_port]
  link p := by rw [State.mapChans_link]; exact .refl _

variable (hs : s.settled)
include hs

theorem State.endsOnly_complete {cx : CtxNum} (r : Answer) (hc : C cx) : State.EndsOnly C s (s.complete cx r) := by
  rw [State.complete_of_settled hs]
  refine ⟨fun c => ?_, fun _ => rfl, fun _ => .refl _⟩
  by_cases e : c = cx
  · subst e
    exact .inr ⟨hc, by simp [Context.completed]⟩
  · exact .inl (by simp [e])

/-- After a chain of completions another request ends. -/
theorem State.EndsOnly.complete (h : State.EndsOnly C s t) {cx : CtxNum} (r : Answer) (hc : C cx) :
    State.EndsOnly C s (t.complete cx r) :=
  h.trans (State.endsOnly_complete (h.settled hs) r hc)

/-- A fold of chains of completions is one. -/
theorem State.endsOnly_foldl {α : Type} {f : State → α → State} {l : List α}
    (h : ∀ s : State, s.settled → ∀ a ∈ l, State.EndsOnly C s (f s a)) : State.EndsOnly C s (l.foldl f s) := by
  induction l generalizing s with
  | nil => exact .refl s
  | cons a l ih =>
    have ha := h s hs a List.mem_cons_self
    exact ha.trans (ih (ha.settled hs) fun s hs b hb => h s hs b (List.mem_cons_of_mem a hb))

theorem State.endsOnly_timeOutAll {cs : List CtxNum} (hc : ∀ cx ∈ cs, C cx) : State.EndsOnly C s (s.timeOutAll cs) :=
  State.endsOnly_foldl hs fun _ hs cx hcx => State.endsOnly_complete hs _ (hc cx hcx)

theorem State.endsOnly_cancelEntries {es : List WaitEntry} (hc : ∀ e ∈ es, C e.ctx) :
    State.EndsOnly C s (s.cancelEntries es) :=
  State.endsOnly_foldl hs fun _ hs e he => State.endsOnly_complete hs _ (hc e he)

theorem State.endsOnly_cancelAll (p : Port) {x : CtxState} (hx : x ≠ .done) (hc : ∀ cx, (s.ctx cx).state = x → C cx) :
    State.EndsOnly C s (s.cancelAll p x) where
  ctx cx := by
    rw [State.ctx_cancelAll hs p hx]
    split
    · rename_i h
      exact .inr ⟨hc cx h.2, rfl⟩
    · exact .inl rfl
  port q := by
    have h : State.EndsOnly (fun _ => True) s (s.cancelAll p x) := State.endsOnly_foldl hs fun s hs c _ => by
      split
      · exact State.endsOnly_complete hs _ trivial
      · exact .refl s
    exact h.port q
  link q := by rw [State.cancelAll_link]; exact .refl _

theorem State.EndsOnly.timeOutAll (h : State.EndsOnly C s t) {cs : List CtxNum} (hc : ∀ cx ∈ cs, C cx) :
    State.EndsOnly C s (t.timeOutAll cs) :=
  h.trans (State.endsOnly_timeOutAll (h.settled hs) hc)

theorem State.EndsOnly.cancelAll (h : State.EndsOnly C s t) {p : Port} {x : CtxState} (hx : x ≠ .done)
    (hc : ∀ cx, (t.ctx cx).state = x → C cx) : State.EndsOnly C s (t.cancelAll p x) :=
  h.trans (State.endsOnly_cancelAll (h.settled hs) p hx hc)

/-- A lock goes to its head waiter, or is FREE. -/
theorem State.endsOnly_handOff (l : LockNum) (hc : ∀ w ∈ (s.lock l).queue, C w.ctx) :
    State.EndsOnly C s (s.handOff l) := by
  unfold State.handOff
  split
  · exact State.endsOnly_modLock l _
  · rename_i hq
    obtain ⟨w, rest, hq⟩ := List.exists_cons_of_ne_nil hq
    rw [State.grantHead_eq hq]
    exact (State.endsOnly_modLock l _).complete hs _ (hc w (by simp [hq]))

theorem State.endsOnly_revoke (l : LockNum) (cause : RevocationCause) (epoch : BitVec 16)
    (hc : ∀ w ∈ (s.lock l).queue, C w.ctx) : State.EndsOnly C s (s.revoke l cause epoch) := by
  cases hh : (s.lock l).holder with
  | none =>
    rw [State.revoke_of_free hh]
    exact .refl s
  | some c =>
    have sent (p : Port) (r : RevocationRecord) : State.EndsOnly C s (s.sendLu p (.record r)) :=
      (s.alike_sendLu_record p r).endsOnly
    cases hq : (s.lock l).queue with
    | nil =>
      rw [State.revoke_of_held hh, State.grantHead_of_nil (by simp [State.sendLu, Lock.freed, hq])]
      exact (State.endsOnly_modLock l _).trans (State.alike_sendLu_record _ _ _).endsOnly
    | cons w rest =>
      rw [State.revoke_eq hh hq]
      exact ((sent _ _).trans (State.endsOnly_modLock l _)).complete hs _ (hc w (by simp [hq]))

theorem State.endsOnly_grantLock (l : LockNum) {cx : CtxNum} (hc : C cx) : State.EndsOnly C s (s.grantLock l cx) :=
  (State.endsOnly_modLock l _).complete hs _ hc

theorem State.endsOnly_sendCuAll (b : BitVec 4) (m : CuMessage) : State.EndsOnly C s (s.sendCuAll b m) :=
  State.endsOnly_foldl hs fun s _ p _ => by
    split
    · exact (s.alike_sendCu p m).endsOnly
    · exact .refl s

theorem State.endsOnly_forceUnbind (n : ChanNum) (b : Binding) (hc : ∀ cx ∈ (s.chan n).waiters, C cx) :
    State.EndsOnly C s (s.forceUnbind n b) := by
  have unbound : State.EndsOnly C s (s.modChan n Channel.unbound) := State.endsOnly_modChan n _
  have cancelled := unbound.trans (State.endsOnly_cancelEntries (unbound.settled hs)
    (es := (s.chan n).senders ++ (s.chan n).receivers) fun e he => hc _ (List.mem_map_of_mem he))
  have sent := cancelled.trans (State.alike_sendCu _ b.receiver { channel := n, kind := .data, set := false }).endsOnly
  exact sent.trans (State.endsOnly_sendCuAll (sent.settled hs) b.senders _)

end EndsOnly

end Sys2Proof.Machine

namespace Sys2Proof.Machine

/-! ### Coherence -/

/-- No context of port `p` is owned by unit `u`. -/
def State.Released (s : State) (p : Port) (u : UnitId) : Prop := ∀ cx, portOf cx = p → (s.ctx cx).state.owner ≠ some u

/-- No context of port `p` is PENDING at unit `u`. -/
def State.NonePending (s : State) (p : Port) (u : UnitId) : Prop := ∀ cx, portOf cx = p → (s.ctx cx).state ≠ .pending u

/-- Nothing of a withdrawal is between the PI and unit `u`. -/
def Links.Quiet (k : Links) (u : UnitId) : Prop :=
  k.notices.get u = .none ∧ k.owes u = false ∧ k.ackComing u = false

/-- The four places of a unit in a withdrawal, in their order: its notice is to be taken; it waits for fills; its
acknowledgement is under way; this has arrived. -/
def State.OnItsWay (s : State) (p : Port) (acks : PerUnit Bool) (u : UnitId) : Prop :=
  let k := s.link p
  (k.notices.get u ≠ .none ∧ k.owes u = false ∧ k.ackComing u = false ∧ acks.get u = false) ∨
  (k.notices.get u = .none ∧ k.owes u = true ∧ k.ackComing u = false ∧ acks.get u = false ∧ s.NonePending p u) ∨
  (k.notices.get u = .none ∧ k.owes u = false ∧ k.ackComing u = true ∧ acks.get u = false ∧ s.Released p u ∧
    (u = .lu → k.fromLu.count .acknowledge = 1)) ∨
  (k.Quiet u ∧ acks.get u = true ∧ s.Released p u)

theorem State.releasedBy_iff (s : State) (p : Port) (u : UnitId) : s.releasedBy p u = true ↔ s.Released p u := by
  simp only [State.releasedBy, List.all_eq_true, mem_allSlots, true_implies, decide_eq_true_eq, State.Released]
  exact ⟨fun h cx hp => by obtain ⟨c, rfl⟩ := exists_slot hp; exact h c, fun h c => h _ (portOf_ctxOf p c)⟩

theorem State.nonePending_iff (s : State) (p : Port) (u : UnitId) :
    (allSlots.all fun c => decide ((s.ctx (ctxOf p c)).state ≠ .pending u)) = true ↔ s.NonePending p u := by
  simp only [List.all_eq_true, mem_allSlots, true_implies, decide_eq_true_eq, State.NonePending]
  exact ⟨fun h cx hp => by obtain ⟨c, rfl⟩ := exists_slot hp; exact h c, fun h c => h _ (portOf_ctxOf p c)⟩

theorem State.unitCoherent_iff (s : State) (p : Port) (acks : PerUnit Bool) (u : UnitId) :
    s.unitCoherent p acks u = true ↔ s.OnItsWay p acks u := by
  unfold State.unitCoherent State.OnItsWay Links.Quiet
  rw [← State.releasedBy_iff, ← State.nonePending_iff]
  dsimp only
  cases hn : (s.link p).notices.get u <;> cases ha : acks.get u <;> cases ho : (s.link p).owes u <;>
    cases hc : (s.link p).ackComing u <;> simp [Decidable.imp_iff_not_or]

theorem State.withdrawalCoherent_of_withdrawing {s : State} {p : Port} {acks : PerUnit Bool} {mark : Bool}
    (h : (s.port p).state = .withdrawing acks mark) :
    s.withdrawalCoherent p = true ↔ allAcked acks = false ∧ ∀ u, s.OnItsWay p acks u := by
  unfold State.withdrawalCoherent
  rw [h]
  simp only [Bool.and_eq_true, Bool.not_eq_true', List.all_cons, List.all_nil, State.unitCoherent_iff, and_true]
  refine and_congr_right fun _ => ⟨fun ⟨hm, hl, hc, hs⟩ u => ?_, fun h => ⟨h _, h _, h _, h _⟩⟩
  cases u with
  | mu => exact hm
  | lu => exact hl
  | cu => exact hc
  | su => exact hs

theorem State.withdrawalCoherent_of_not_withdrawing {s : State} {p : Port}
    (h : ∀ acks mark, (s.port p).state ≠ .withdrawing acks mark) :
    s.withdrawalCoherent p = true ↔ ∀ u, (s.link p).Quiet u := by
  unfold State.withdrawalCoherent Links.Quiet
  split
  · rename_i e
    exact absurd e (h _ _)
  · simp only [Bool.and_eq_true, Bool.not_eq_true', List.all_cons, List.all_nil, decide_eq_true_eq, and_true]
    refine ⟨fun ⟨⟨⟨hm, hmc⟩, hmo⟩, ⟨⟨hl, hlc⟩, hlo⟩, ⟨⟨hc, hcc⟩, hco⟩, ⟨hs, hsc⟩, hso⟩ u => ?_,
      fun h => ⟨⟨⟨(h _).1, (h _).2.2⟩, (h _).2.1⟩, ⟨⟨(h _).1, (h _).2.2⟩, (h _).2.1⟩, ⟨⟨(h _).1, (h _).2.2⟩, (h _).2.1⟩,
        ⟨(h _).1, (h _).2.2⟩, (h _).2.1⟩⟩
    cases u with
    | mu => exact ⟨hm, hmo, hmc⟩
    | lu => exact ⟨hl, hlo, hlc⟩
    | cu => exact ⟨hc, hco, hcc⟩
    | su => exact ⟨hs, hso, hsc⟩

/-- A coherent state leaves no acknowledgement set full. -/
theorem State.settled_of_withdrawalsCoherent {s : State} (h : s.withdrawalsCoherent) : s.settled := fun p => by
  cases hp : (s.port p).state with
  | offline | online => rfl
  | withdrawing acks mark =>
    have := ((State.withdrawalCoherent_of_withdrawing hp).1 (h.2 p)).1
    simp [PortState.settled, this]

/-- What is under way between the PI and unit `u` is the same. -/
structure Links.AlikeAt (k l : Links) (u : UnitId) : Prop where
  notices : l.notices.get u = .none ↔ k.notices.get u = .none
  owes : l.owes u = k.owes u
  ackComing : l.ackComing u = k.ackComing u
  fromLu : u = .lu → l.fromLu.count .acknowledge = k.fromLu.count .acknowledge

theorem Links.ackComing_lu (k : Links) : k.ackComing .lu = decide (0 < k.fromLu.count .acknowledge) := by
  simp [Links.ackComing]

theorem Links.Alike.at {k l : Links} (h : k.Alike l) (u : UnitId) : k.AlikeAt l u where
  notices := h.notices u
  owes := by
    cases u with
    | mu => exact h.muOwesAck
    | lu | cu | su => rfl
  ackComing := by
    cases u with
    | mu => exact h.muAck
    | lu => rw [Links.ackComing_lu, Links.ackComing_lu, h.fromLu]
    | cu => exact h.cuAck
    | su => exact h.suAck
  fromLu _ := h.fromLu

theorem Links.AlikeAt.quiet {k l : Links} {u : UnitId} (h : k.AlikeAt l u) (hk : k.Quiet u) : l.Quiet u :=
  ⟨h.notices.2 hk.1, h.owes.trans hk.2.1, h.ackComing.trans hk.2.2⟩

/-- Port `p` has no request at a unit at which it had none. -/
structure State.EasesAt (s t : State) (p : Port) (u : UnitId) : Prop where
  released : s.Released p u → t.Released p u
  nonePending : s.NonePending p u → t.NonePending p u

theorem State.OnItsWay.eases {s t : State} {p : Port} {acks : PerUnit Bool} {u : UnitId} (h : s.OnItsWay p acks u)
    (hl : (s.link p).AlikeAt (t.link p) u) (he : s.EasesAt t p u) : t.OnItsWay p acks u := by
  unfold State.OnItsWay
  dsimp only
  rw [Ne, hl.notices, hl.owes, hl.ackComing]
  rcases h with h | ⟨hn, ho, hc, ha, hp⟩ | ⟨hn, ho, hc, ha, hr, hcount⟩ | ⟨hq, ha, hr⟩
  · exact .inl h
  · exact .inr (.inl ⟨hn, ho, hc, ha, he.nonePending hp⟩)
  · exact .inr (.inr (.inl ⟨hn, ho, hc, ha, he.released hr, fun e => (hl.fromLu e).trans (hcount e)⟩))
  · exact .inr (.inr (.inr ⟨hl.quiet hq, ha, he.released hr⟩))

/-- From `s` to `t` no context has come to a unit, nothing of a withdrawal has moved, and the ports are in the same
states. -/
structure State.Eases (s t : State) : Prop where
  port : ∀ p, (t.port p).state = (s.port p).state
  link : ∀ p, (s.link p).Alike (t.link p)
  owner : ∀ cx u, (t.ctx cx).state.owner = some u → (s.ctx cx).state.owner = some u
  pending : ∀ cx u, (t.ctx cx).state = .pending u → (s.ctx cx).state = .pending u
  waiting : ∀ cx, ((t.ctx cx).state = .waiting .mu → (s.ctx cx).state = .waiting .mu) ∧
    ((t.ctx cx).state = .waiting .su → (s.ctx cx).state = .waiting .su)

theorem State.EndsOnly.eases {C : CtxNum → Prop} {s t : State} (h : State.EndsOnly C s t) : s.Eases t where
  port := h.port
  link := h.link
  owner cx u hu := by
    rcases h.ctx cx with e | ⟨_, e⟩
    · rwa [← CtxState.owner_of_bare e]
    · rw [e] at hu
      exact nomatch hu
  pending cx u hu := by
    rcases h.ctx cx with e | ⟨_, e⟩
    · rwa [← CtxState.eq_pending_of_bare e]
    · rw [e] at hu
      exact nomatch hu
  waiting cx := by
    rcases h.ctx cx with e | ⟨_, e⟩
    · exact ⟨(CtxState.eq_waiting_of_bare e _).1, (CtxState.eq_waiting_of_bare e _).1⟩
    · rw [e]
      exact ⟨nofun, nofun⟩

theorem State.Eases.at {s t : State} (h : s.Eases t) (p : Port) (u : UnitId) : s.EasesAt t p u :=
  ⟨fun hr cx hp e => hr cx hp (h.owner cx u e), fun hn cx hp e => hn cx hp (h.pending cx u e)⟩

/-- A port at which nothing moves, and to whose units nothing comes, stays coherent. -/
theorem State.withdrawalCoherent_of_easesAt {s t : State} {p : Port} (hp : (t.port p).state = (s.port p).state)
    (hl : ∀ u, (s.link p).AlikeAt (t.link p) u) (he : ∀ u, s.EasesAt t p u) (hs : s.withdrawalCoherent p = true) :
    t.withdrawalCoherent p = true := by
  by_cases hw : ∃ acks mark, (s.port p).state = .withdrawing acks mark
  · obtain ⟨acks, mark, hw⟩ := hw
    obtain ⟨ha, hu⟩ := (State.withdrawalCoherent_of_withdrawing hw).1 hs
    exact (State.withdrawalCoherent_of_withdrawing (hp.trans hw)).2 ⟨ha, fun u => (hu u).eases (hl u) (he u)⟩
  · have hw' (acks mark) : (s.port p).state ≠ .withdrawing acks mark := fun e => hw ⟨acks, mark, e⟩
    have hu := (State.withdrawalCoherent_of_not_withdrawing hw').1 hs
    exact (State.withdrawalCoherent_of_not_withdrawing (by rw [hp]; exact hw')).2 fun u => (hl u).quiet (hu u)

/-- What eases keeps every withdrawal coherent. -/
theorem State.Eases.withdrawalsCoherent {s t : State} (h : s.Eases t) (hs : s.withdrawalsCoherent) :
    t.withdrawalsCoherent :=
  ⟨fun cx => ⟨fun e => (hs.1 cx).1 ((h.waiting cx).1 e), fun e => (hs.1 cx).2 ((h.waiting cx).2 e)⟩,
    fun p => State.withdrawalCoherent_of_easesAt (h.port p) (fun u => (h.link p).at u) (h.at p) (hs.2 p)⟩

end Sys2Proof.Machine

namespace Sys2Proof.Machine

/-! ### The changes that a withdrawal goes through -/

section Coherence
variable {s t : State} {p : Port}

theorem State.modLink_modLink (s : State) (p : Port) (f g : Links → Links) :
    (s.modLink p f).modLink p g = s.modLink p fun k => g (f k) := by
  unfold State.modLink
  congr 1
  apply Table.ext_at
  intro q
  by_cases e : q = p <;> simp [State.link, e]

/-- Only what belongs to port `p` differs. -/
structure State.SameBut (s t : State) (p : Port) : Prop where
  port : ∀ q, q ≠ p → (t.port q).state = (s.port q).state
  link : ∀ q, q ≠ p → t.link q = s.link q
  ctx : ∀ cx, portOf cx ≠ p → (t.ctx cx).state = (s.ctx cx).state

theorem State.SameBut.easesAt (h : s.SameBut t p) {q : Port} (hq : q ≠ p) (u : UnitId) : s.EasesAt t q u where
  released hr cx hcx := by
    rw [h.ctx cx (hcx ▸ hq)]
    exact hr cx hcx
  nonePending hn cx hcx := by
    rw [h.ctx cx (hcx ▸ hq)]
    exact hn cx hcx

/-- Where only one port differs, its own coherence is to be shown. -/
theorem State.withdrawalsCoherent.of_sameBut (hs : s.withdrawalsCoherent) (h : s.SameBut t p)
    (hw : ∀ cx, portOf cx = p → (t.ctx cx).state ≠ .waiting .mu ∧ (t.ctx cx).state ≠ .waiting .su)
    (hp : t.withdrawalCoherent p = true) : t.withdrawalsCoherent := by
  refine ⟨fun cx => ?_, fun q => ?_⟩
  · by_cases e : portOf cx = p
    · exact hw cx e
    · rw [h.ctx cx e]
      exact hs.1 cx
  · by_cases e : q = p
    · rwa [e]
    · refine State.withdrawalCoherent_of_easesAt (h.port q e) (fun u => ?_) (h.easesAt e) (hs.2 q)
      rw [h.link q e]
      exact (Links.Alike.refl _).at u

/-- At a port that is not WITHDRAWING nothing is under way. -/
theorem State.withdrawalsCoherent.quiet (hs : s.withdrawalsCoherent)
    (hp : ∀ acks mark, (s.port p).state ≠ .withdrawing acks mark) (u : UnitId) : (s.link p).Quiet u :=
  (State.withdrawalCoherent_of_not_withdrawing hp).1 (hs.2 p) u

/-- Something under way shows a withdrawal. -/
theorem State.withdrawalsCoherent.withdrawing (hs : s.withdrawalsCoherent) {u : UnitId} (hq : ¬ (s.link p).Quiet u) :
    ∃ acks mark, (s.port p).state = .withdrawing acks mark ∧ allAcked acks = false ∧ ∀ u, s.OnItsWay p acks u := by
  by_contra hne
  refine hq (hs.quiet (fun acks mark e => hne ⟨acks, mark, e, ?_⟩) u)
  exact (State.withdrawalCoherent_of_withdrawing e).1 (hs.2 p)

/-- A port comes ONLINE, or a context of an ONLINE port changes: no withdrawal is concerned. -/
theorem State.withdrawalsCoherent.of_not_withdrawing (hs : s.withdrawalsCoherent) (h : s.SameBut t p)
    (hw : ∀ cx, portOf cx = p → (t.ctx cx).state ≠ .waiting .mu ∧ (t.ctx cx).state ≠ .waiting .su)
    (hl : t.link p = s.link p) (hsp : ∀ acks mark, (s.port p).state ≠ .withdrawing acks mark)
    (htp : ∀ acks mark, (t.port p).state ≠ .withdrawing acks mark) : t.withdrawalsCoherent :=
  hs.of_sameBut h hw ((State.withdrawalCoherent_of_not_withdrawing htp).2 (by rw [hl]; exact hs.quiet hsp))

/-- Messages between the PI of port `p` and one unit move on. -/
theorem State.withdrawalsCoherent.modLink (hs : s.withdrawalsCoherent) {u : UnitId} {f : Links → Links}
    (hq : ¬ (s.link p).Quiet u) (hv : ∀ v, v ≠ u → (s.link p).AlikeAt (f (s.link p)) v)
    (hu : ∀ acks, s.OnItsWay p acks u → (s.modLink p f).OnItsWay p acks u) : (s.modLink p f).withdrawalsCoherent := by
  obtain ⟨acks, mark, hp, ha, hway⟩ := hs.withdrawing hq
  refine hs.of_sameBut (t := s.modLink p f) (p := p) ⟨fun _ _ => rfl, fun q e => by simp [e], fun _ _ => rfl⟩
    (fun cx _ => hs.1 cx) ?_
  refine (State.withdrawalCoherent_of_withdrawing (s := s.modLink p f) hp).2 ⟨ha, fun v => ?_⟩
  by_cases e : v = u
  · rw [e]
    exact hu acks (hway u)
  · exact (hway v).eases (by rw [State.modLink_link_self]; exact hv v e) ⟨id, id⟩

/-- At reset no withdrawal is in progress. -/
theorem State.withdrawalsCoherent_of_blocksAtReset (h : t.blocksAtReset) : t.withdrawalsCoherent := by
  obtain ⟨hctx, hport, hlink, -⟩ := h
  refine ⟨fun cx => ?_, fun p => ?_⟩
  · rw [(hctx cx).1]
    exact ⟨nofun, nofun⟩
  · refine (State.withdrawalCoherent_of_not_withdrawing fun acks mark e => ?_).2 fun u => ?_
    · exact nomatch (hport p).1.symm.trans e
    · obtain ⟨hn, ho, hm, hc, hs, hl, -⟩ := hlink p
      cases u <;> simp [Links.Quiet, Links.owes, Links.ackComing, PerUnit.get, hn, ho, hm, hc, hs, hl]

theorem State.withdrawalsCoherent.goes (hs : s.withdrawalsCoherent) {cx : CtxNum}
    (hp : (s.port (portOf cx)).state = .online) : (s.modCtx cx Context.started).withdrawalsCoherent := by
  have hn (acks mark) : (s.port (portOf cx)).state ≠ .withdrawing acks mark := by rw [hp]; nofun
  refine hs.of_not_withdrawing (p := portOf cx) ⟨fun _ _ => rfl, fun _ _ => rfl, fun c hc => ?_⟩ (fun c _ => ?_) rfl hn hn
  · rw [State.modCtx_ctx_ne _ _ _ fun e => hc (congrArg portOf e)]
  · by_cases e : c = cx
    · subst e
      rw [State.modCtx_ctx_self]
      exact ⟨Context.started_not_waiting _ _, Context.started_not_waiting _ _⟩
    · rw [State.modCtx_ctx_ne _ _ _ e]
      exact hs.1 c

theorem State.withdrawalsCoherent.attached (hs : s.withdrawalsCoherent) (hp : (s.port p).state = .offline) :
    (s.attached p).withdrawalsCoherent := by
  refine hs.of_not_withdrawing (p := p) ⟨fun q e => ?_, fun _ _ => rfl, fun _ _ => rfl⟩ (fun cx _ => hs.1 cx) rfl
    (by rw [hp]; nofun) ?_
  · simp [State.attached, e]
  · simp [State.attached]

theorem State.withdrawalsCoherent.beginWithdrawal (hs : s.withdrawalsCoherent) (mark : Bool)
    (hp : (s.port p).state = .online) : (s.beginWithdrawal p mark).withdrawalsCoherent := by
  refine hs.of_sameBut (p := p) ⟨fun q e => ?_, fun q e => ?_, fun _ _ => rfl⟩ (fun cx _ => hs.1 cx) ?_
  · simp [State.beginWithdrawal, e]
  · simp [State.beginWithdrawal, e]
  · have hst : ((s.beginWithdrawal p mark).port p).state = .withdrawing (.all false) mark := by
      simp [State.beginWithdrawal]
    refine (State.withdrawalCoherent_of_withdrawing hst).2 ⟨rfl, fun u => .inl ?_⟩
    obtain ⟨_, ho, hc⟩ := hs.quiet (p := p) (by rw [hp]; nofun) u
    have hl : (s.beginWithdrawal p mark).link p = { s.link p with notices := .all .inTransit } := by
      simp [State.beginWithdrawal]
    rw [hl]
    exact ⟨by simp, by cases u <;> exact ho, by cases u <;> exact hc, by simp⟩

theorem State.withdrawalsCoherent.marked (hs : s.withdrawalsCoherent) {acks : PerUnit Bool} {mark : Bool}
    (hp : (s.port p).state = .withdrawing acks mark) :
    (s.modPort p fun i => { i with state := .withdrawing acks true }).withdrawalsCoherent := by
  refine hs.of_sameBut (p := p) ⟨fun q e => by simp [e], fun _ _ => rfl, fun _ _ => rfl⟩ (fun cx _ => hs.1 cx) ?_
  obtain ⟨ha, hu⟩ := (State.withdrawalCoherent_of_withdrawing hp).1 (hs.2 p)
  refine (State.withdrawalCoherent_of_withdrawing (acks := acks) (mark := true) (by simp)).2 ⟨ha, fun u => ?_⟩
  exact (hu u).eases ((Links.Alike.refl _).at u) ⟨id, id⟩

/-- MU, which owes an answer, gives it when no fill of the port is left. -/
theorem State.withdrawalsCoherent.muSettle (hs : s.withdrawalsCoherent) (p : Port) :
    (s.muSettle p).withdrawalsCoherent := by
  unfold State.muSettle
  split
  · rename_i h
    simp only [Bool.and_eq_true, Bool.not_eq_true', State.anyOfPort, List.any_eq_false, mem_allSlots, true_implies] at h
    obtain ⟨howes, hfills⟩ := h
    refine hs.modLink (u := .mu) (fun hq => Bool.noConfusion (howes.symm.trans hq.2.1)) (fun v e => ?_) fun acks hway => ?_
    · cases v with
      | mu => exact absurd rfl e
      | lu | cu | su => exact ⟨Iff.rfl, rfl, rfl, fun _ => rfl⟩
    · rcases hway with ⟨_, ho, _⟩ | ⟨hn, _, _, ha, hpend⟩ | ⟨_, ho, _⟩ | ⟨⟨_, ho, _⟩, _⟩
      · exact Bool.noConfusion (howes.symm.trans ho)
      · refine .inr (.inr (.inl ⟨by simpa using hn, by simp [Links.owes], by simp [Links.ackComing], ha, fun cx hcx e => ?_,
          nofun⟩))
        obtain ⟨c, rfl⟩ := exists_slot hcx
        have hc := hfills c
        have hp := hpend _ hcx
        have hw := (hs.1 (ctxOf p c)).1
        rw [State.modLink_ctx] at e
        cases hst : (s.ctx (ctxOf p c)).state <;> simp_all [CtxState.owner]
      · exact Bool.noConfusion (howes.symm.trans ho)
      · exact Bool.noConfusion (howes.symm.trans ho)
  · exact hs

/-- MU takes its notice. -/
theorem State.withdrawalsCoherent.muTakesNotice (hs : s.withdrawalsCoherent) (hn : (s.link p).notices.get .mu ≠ .none)
    (hq : s.NonePending p .mu) :
    (((s.dropNotice p .mu).modLink p fun k => { k with muOwesAck := true }).muSettle p).withdrawalsCoherent := by
  have e : ((s.dropNotice p .mu).modLink p fun k => { k with muOwesAck := true }) =
      s.modLink p fun k => { k with notices := k.notices.set .mu .none, muOwesAck := true } :=
    State.modLink_modLink s p _ _
  rw [e]
  refine State.withdrawalsCoherent.muSettle (hs.modLink (u := .mu) (fun hq => hn hq.1) (fun v e => ?_) fun acks hway => ?_) p
  · cases v with
    | mu => exact absurd rfl e
    | lu | cu | su => exact ⟨Iff.rfl, rfl, rfl, fun _ => rfl⟩
  · rcases hway with ⟨_, _, hc, ha⟩ | ⟨h, _⟩ | ⟨h, _⟩ | ⟨⟨h, _⟩, _⟩
    · exact .inr (.inl ⟨by simp, by simp [Links.owes], by simpa [Links.ackComing] using hc, ha, hq⟩)
    all_goals exact absurd h hn

/-- Another unit answers its notice. -/
theorem State.withdrawalsCoherent.answerNotice (hs : s.withdrawalsCoherent) {u : UnitId} (hu : u ≠ .mu)
    (hn : (s.link p).notices.get u ≠ .none)
    (hq : ∀ cx, portOf cx = p → (s.ctx cx).state ≠ .pending u ∧ (u ≠ .su → (s.ctx cx).state ≠ .waiting u)) :
    (s.answerNotice p u).withdrawalsCoherent := by
  have hr : s.Released p u := fun cx hcx e => by
    obtain ⟨hp, hw⟩ := hq cx hcx
    have hsu := (hs.1 cx).2
    cases hst : (s.ctx cx).state with
    | idle | done => simp [hst, CtxState.owner] at e
    | pending v => simp_all [CtxState.owner]
    | waiting v =>
      obtain rfl : v = u := by simpa [hst, CtxState.owner] using e
      by_cases hv : v = .su
      · exact hsu (hv ▸ hst)
      · exact hw hv hst
    | active f => exact hu (by simpa [hst, CtxState.owner, eq_comm] using e)
  have e : s.answerNotice p u = s.modLink p fun k => { k with
      notices := k.notices.set u .none
      fromLu := if u = .lu then k.fromLu ++ [.acknowledge] else k.fromLu
      cuAck := decide (u = .cu) || k.cuAck
      suAck := decide (u = .su) || k.suAck } := by
    cases u <;> simp [State.answerNotice, State.dropNotice, State.sendLu, State.modLink_modLink] at hu ⊢
  rw [e]
  refine hs.modLink (u := u) (fun hq => hn hq.1) (fun v e => ?_) fun acks hway => ?_
  · refine ⟨by simp [e], by cases v <;> rfl, ?_, fun e' => ?_⟩
    · cases v <;> simp [Links.ackComing, e.symm]
    · simp [← e', e.symm]
  · rcases hway with ⟨_, ho, hc, ha⟩ | ⟨h, _⟩ | ⟨h, _⟩ | ⟨⟨h, _⟩, _⟩
    · refine .inr (.inr (.inl ⟨by simp, ?_, ?_, ha, hr, fun e => ?_⟩))
      · cases u <;> simp [Links.owes] at hu ⊢
      · cases u <;> simp [Links.ackComing] at hu ⊢
      · subst e
        rw [Links.ackComing_lu, decide_eq_false_iff_not, Nat.not_lt, Nat.le_zero] at hc
        simp [hc]
    all_goals exact absurd h hn

end Coherence

end Sys2Proof.Machine

namespace Sys2Proof.Machine

/-! ### Acknowledgements, and the first and third part of the obligation -/

section Acknowledgement
variable {s : State} {p : Port} {u : UnitId}

theorem allAcked_iff (acks : PerUnit Bool) : allAcked acks = true ↔ ∀ u, acks.get u = true := by
  simp only [allAcked, Bool.and_eq_true]
  refine ⟨fun ⟨⟨⟨hm, hl⟩, hc⟩, hs⟩ u => ?_, fun h => ⟨⟨⟨h .mu, h .lu⟩, h .cu⟩, h .su⟩⟩
  cases u with
  | mu => exact hm
  | lu => exact hl
  | cu => exact hc
  | su => exact hs

/-- The acknowledgement that the PI takes next is under way. -/
theorem Links.ackComing_of_ackNext {k : Links} (h : k.ackNext u) : k.ackComing u = true := by
  cases u with
  | mu | cu | su => exact h
  | lu =>
    obtain ⟨rest, hr⟩ := List.head?_eq_some_iff.1 h
    simp [Links.ackComing, hr]

/-- A unit's acknowledgement, taken, is not under way any more. -/
theorem Links.ackComing_withoutAck {k : Links} (h : k.ackNext u) (hc : u = .lu → k.fromLu.count .acknowledge = 1) :
    (k.withoutAck u).ackComing u = false := by
  cases u with
  | mu | cu | su => rfl
  | lu =>
    obtain ⟨rest, hr⟩ := List.head?_eq_some_iff.1 h
    have := hc rfl
    rw [Links.ackComing_lu, Links.withoutAck]
    rw [hr] at this ⊢
    simpa [List.count_eq_zero] using this

theorem Links.alikeAt_withoutAck (k : Links) {v : UnitId} (h : v ≠ u) : k.AlikeAt (k.withoutAck u) v := by
  refine ⟨?_, ?_, ?_, fun e => ?_⟩
  · cases u <;> rfl
  · cases u <;> cases v <;> rfl
  · cases u <;> cases v <;> simp [Links.ackComing, Links.withoutAck] at h ⊢
  · subst e
    cases u <;> simp [Links.withoutAck] at h ⊢

@[simp] theorem Links.notices_withoutAck (k : Links) (u : UnitId) : (k.withoutAck u).notices = k.notices := by
  cases u <;> rfl

@[simp] theorem Links.owes_withoutAck (k : Links) (u v : UnitId) : (k.withoutAck u).owes v = k.owes v := by
  cases u <;> rfl

@[simp] theorem State.completeWithdrawal_port_state (p : Port) (m : Bool) (q : Port) :
    ((s.completeWithdrawal p m).port q).state = if q = p then .offline else (s.port q).state := by
  by_cases e : q = p
  · subst e
    cases m <;> simp [State.completeWithdrawal, State.portResetClearing, PortInterface.cleared, PortInterface.withdrawn]
  · cases m <;> simp [State.completeWithdrawal, State.portResetClearing, e]

/-- Where every unit has answered and none holds a request, the port is at rest. -/
theorem State.portAtRest_of_released (h : ∀ u, s.Released p u) : s.portAtRest p = true := by
  simp only [State.portAtRest, State.anyOfPort, Bool.not_eq_true', List.any_eq_false, mem_allSlots, true_implies,
    CtxState.busy, Option.isSome_iff_exists]
  rintro c ⟨u, hu⟩
  exact h u _ (portOf_ctxOf p c) hu

/-- The PI of a port that is WITHDRAWING adds a unit to the set, and tests the completion condition. -/
theorem State.acknowledged_eq {acks : PerUnit Bool} {mark : Bool} (hp : (s.port p).state = .withdrawing acks mark)
    (u : UnitId) : s.acknowledged p u =
      (s.modPort p fun i => { i with state := .withdrawing (acks.set u true) mark }).testWithdrawal p := by
  unfold State.acknowledged State.modPort
  simp only [hp]

/-- The PI takes an acknowledgement; the last of the four completes the withdrawal. -/
theorem State.withdrawalsCoherent.acknowledges (hs : s.withdrawalsCoherent) (h : (s.link p).ackNext u) :
    ((s.modLink p fun k => k.withoutAck u).acknowledged p u).withdrawalsCoherent := by
  have hcoming := Links.ackComing_of_ackNext h
  obtain ⟨acks, mark, hp, _, hway⟩ := hs.withdrawing (p := p) (u := u) fun hq => Bool.noConfusion (hcoming.symm.trans hq.2.2)
  set t := (s.modLink p fun k => k.withoutAck u).modPort p fun i =>
    { i with state := .withdrawing (acks.set u true) mark } with ht
  have e : (s.modLink p fun k => k.withoutAck u).acknowledged p u = t.testWithdrawal p :=
    State.acknowledged_eq (s := s.modLink p fun k => k.withoutAck u) hp u
  have htl : t.link p = (s.link p).withoutAck u := by simp [ht]
  have htp : (t.port p).state = .withdrawing (acks.set u true) mark := by simp [ht]
  have htc (cx : CtxNum) : t.ctx cx = s.ctx cx := rfl
  have hway' (v : UnitId) : t.OnItsWay p (acks.set u true) v := by
    by_cases hv : v = u
    · subst hv
      obtain ⟨_, _, hc, _⟩ | ⟨_, _, hc, _⟩ | ⟨hn, ho, _, _, hr, hcount⟩ | ⟨⟨_, _, hc⟩, _⟩ := hway v
      · exact Bool.noConfusion (hcoming.symm.trans hc)
      · exact Bool.noConfusion (hcoming.symm.trans hc)
      · refine .inr (.inr (.inr ⟨?_, by simp, hr⟩))
        rw [htl]
        exact ⟨by simpa using hn, by simpa using ho, Links.ackComing_withoutAck h hcount⟩
      · exact Bool.noConfusion (hcoming.symm.trans hc)
    · have := (hway v).eases (t := t) (by rw [htl]; exact Links.alikeAt_withoutAck _ hv) ⟨id, id⟩
      unfold State.OnItsWay at this ⊢
      rwa [PerUnit.get_set_ne _ _ hv]
  have hbut : s.SameBut t p := ⟨fun q e => by simp [ht, e], fun q e => by simp [ht, e], fun _ _ => rfl⟩
  rw [e]
  by_cases hall : allAcked (acks.set u true) = true
  · have arrived (v : UnitId) : (t.link p).Quiet v ∧ t.Released p v := by
      have ha := (allAcked_iff _).1 hall v
      obtain ⟨_, _, _, hna⟩ | ⟨_, _, _, hna, _⟩ | ⟨_, _, _, hna, _⟩ | ⟨hq, _, hr⟩ := hway' v
      · exact Bool.noConfusion (ha.symm.trans hna)
      · exact Bool.noConfusion (ha.symm.trans hna)
      · exact Bool.noConfusion (ha.symm.trans hna)
      · exact ⟨hq, hr⟩
    have hrest := State.portAtRest_of_released fun v => (arrived v).2
    have e' : t.testWithdrawal p = t.completeWithdrawal p mark := by
      simp [State.testWithdrawal, htp, hall, hrest]
    rw [e']
    refine hs.of_sameBut (p := p) ⟨fun q e => ?_, fun q e => ?_, fun cx e => ?_⟩ (fun cx e => ?_)
      ((State.withdrawalCoherent_of_not_withdrawing fun acks mark => by simp).2 fun v => ?_)
    · simp [e, hbut.port q e]
    · simp [hbut.link q e]
    · simp [State.completeWithdrawal_ctx_state, e, htc]
    · simp [State.completeWithdrawal_ctx_state, e]
    · simpa using (arrived v).1
  · have e' : t.testWithdrawal p = t := by simp [State.testWithdrawal, htp, hall]
    rw [e']
    exact hs.of_sameBut hbut (fun cx _ => hs.1 cx)
      ((State.withdrawalCoherent_of_withdrawing htp).2 ⟨by simpa using hall, hway'⟩)

end Acknowledgement

/-! ### Every change keeps the withdrawals coherent -/

section Eases
variable {s : State}

/-- One context changes within what a withdrawal allows. -/
theorem State.eases_modCtx {cx : CtxNum} {f : Context → Context}
    (ho : ∀ u, (f (s.ctx cx)).state.owner = some u → (s.ctx cx).state.owner = some u)
    (hp : ∀ u, (f (s.ctx cx)).state = .pending u → (s.ctx cx).state = .pending u)
    (hw : (f (s.ctx cx)).state ≠ .waiting .mu ∧ (f (s.ctx cx)).state ≠ .waiting .su) : s.Eases (s.modCtx cx f) where
  port _ := rfl
  link _ := .refl _
  owner c u := by
    by_cases e : c = cx
    · subst e
      simpa using ho u
    · simp [e]
  pending c u := by
    by_cases e : c = cx
    · subst e
      simpa using hp u
    · simp [e]
  waiting c := by
    by_cases e : c = cx
    · subst e
      rw [State.modCtx_ctx_self]
      exact ⟨fun h => absurd h hw.1, fun h => absurd h hw.2⟩
    · simp [e]

/-- A PENDING request goes on at its unit, running or waiting. -/
theorem State.eases_of_pending {cx : CtxNum} {u : UnitId} {x : CtxState} (h : (s.ctx cx).state = .pending u)
    (hx : x.owner = some u) (hp : ∀ v, x ≠ .pending v) (hw : x ≠ .waiting .mu ∧ x ≠ .waiting .su) :
    s.Eases (s.modCtx cx fun c => { c with state := x }) :=
  State.eases_modCtx (fun v hv => by rw [h]; exact hx.symm.trans hv) (fun v hv => absurd hv (hp v)) hw

theorem State.eases_acked (cx : CtxNum) : s.Eases (s.modCtx cx Context.acked) := by
  rcases (s.ctx cx).acked_cases with ⟨_, e⟩ | ⟨_, e⟩
  · refine State.eases_modCtx (fun u => ?_) (fun u => ?_) ?_ <;> simp [e, CtxState.owner]
  · exact (State.EndsOnly.eases (C := fun _ => True)
      (State.Alike.endsOnly (State.alike_modCtx (by rw [e]) fun _ => by rw [e])))

/-- The port reset clearing takes requests away. -/
theorem State.eases_portResetClearing (p : Port) : s.Eases (s.portResetClearing p) where
  port q := by
    by_cases e : q = p
    · subst e
      simp [State.portResetClearing, PortInterface.cleared]
    · simp [State.portResetClearing, e]
  link q := by
    rw [State.portResetClearing_link]
    exact .refl _
  owner cx u := by
    by_cases e : portOf cx = p <;> simp [State.portResetClearing, e, Context.reset, CtxState.owner]
  pending cx u := by
    by_cases e : portOf cx = p <;> simp [State.portResetClearing, e, Context.reset]
  waiting cx := by
    by_cases e : portOf cx = p <;> simp [State.portResetClearing, e, Context.reset]

theorem State.Eases.trans {t u : State} (h : s.Eases t) (h' : t.Eases u) : s.Eases u where
  port p := (h'.port p).trans (h.port p)
  link p := (h.link p).trans (h'.link p)
  owner cx v e := h.owner cx v (h'.owner cx v e)
  pending cx v e := h.pending cx v (h'.pending cx v e)
  waiting cx := ⟨fun e => (h.waiting cx).1 ((h'.waiting cx).1 e), fun e => (h.waiting cx).2 ((h'.waiting cx).2 e)⟩

end Eases

/-- Every elementary change keeps the withdrawals coherent. -/
theorem Move.keeps_withdrawalsCoherent {s t : State} (hm : Move s t) (h : s.withdrawalsCoherent) :
    t.withdrawalsCoherent := by
  have hs := State.settled_of_withdrawalsCoherent h
  have ends {t : State} (ht : State.EndsOnly (fun _ => True) s t) : t.withdrawalsCoherent := ht.eases.withdrawalsCoherent h
  have park {t : State} {cx : CtxNum} {u : UnitId} (hp : (t.ctx cx).state = .pending u) (hu : u ≠ .mu ∧ u ≠ .su) :
      t.Eases (t.modCtx cx fun c => { c with state := .waiting u }) :=
    State.eases_of_pending hp rfl (fun _ => nofun) ⟨fun e => hu.1 (CtxState.waiting.inj e), fun e => hu.2 (CtxState.waiting.inj e)⟩
  cases hm with
  | quiet ha => exact ends ha.endsOnly
  | reset hr => exact State.withdrawalsCoherent_of_blocksAtReset hr
  | answer r _ => exact ends (State.endsOnly_complete hs r trivial)
  | goes hp _ => exact h.goes hp
  | acks cx => exact (State.eases_acked cx).withdrawalsCoherent h
  | fillBegins f ha =>
    exact (State.eases_of_pending (x := .active f) ha.pending rfl (fun _ => nofun) ⟨nofun, nofun⟩).withdrawalsCoherent h
  | fillEnds r _ => exact (ends (State.endsOnly_complete hs r trivial)).muSettle _
  | lockGrants _ _ => exact ends (State.endsOnly_grantLock hs _ trivial)
  | lockParks ha _ _ =>
    refine (park (u := .lu) ?_ ⟨nofun, nofun⟩).withdrawalsCoherent (ends (State.endsOnly_modLock _ _))
    exact ha.pending
  | lockReleases r _ _ => exact ends ((State.endsOnly_handOff hs _ fun _ _ => trivial).complete hs r trivial)
  | lockRevoked l cause epoch => exact ends (State.endsOnly_revoke hs l cause epoch fun _ _ => trivial)
  | lockForced l cause epoch r _ =>
    exact ends ((State.endsOnly_revoke hs l cause epoch fun _ _ => trivial).complete hs r trivial)
  | lockWaitsCount => exact ends ((State.endsOnly_mapLocks _).timeOutAll hs fun _ _ => trivial)
  | lockWaitEnds r _ => exact ends ((State.endsOnly_mapLocks _).complete hs r trivial)
  | lockWaitsCancelled p => exact ends ((State.endsOnly_mapLocks _).cancelAll hs nofun fun _ _ => trivial)
  | chanParks ha _ _ =>
    refine (park (u := .cu) ?_ ⟨nofun, nofun⟩).withdrawalsCoherent (ends (State.endsOnly_modChan _ _))
    exact ha.pending
  | chanServes r _ _ => exact ends ((State.endsOnly_modChan _ _).complete hs r trivial)
  | chanServesFor r r' _ _ _ => exact ends (((State.endsOnly_modChan _ _).complete hs r trivial).complete hs r' trivial)
  | chanBinds _ _ => exact ends (State.endsOnly_modChan _ _)
  | chanUnbinds n b r _ => exact ends ((State.endsOnly_forceUnbind hs n b fun _ _ => trivial).complete hs r trivial)
  | chanWaitsCount => exact ends ((State.endsOnly_mapChans _).timeOutAll hs fun _ _ => trivial)
  | chanWaitEnds r _ => exact ends ((State.endsOnly_mapChans _).complete hs r trivial)
  | chanWaitsCancelled p => exact ends ((State.endsOnly_mapChans _).cancelAll hs nofun fun _ _ => trivial)
  | inspects _ _ _ _ _ => exact h
  | inspected => exact h
  | forces _ _ _ => exact h
  | forced => exact h
  | attaches hp => exact h.attached hp
  | withdraws mark hp => exact h.beginWithdrawal mark hp
  | marks hp => exact h.marked hp
  | clears _ => exact (State.eases_portResetClearing _).withdrawalsCoherent h
  | muTakesNotice hn hq => exact h.muTakesNotice hn hq
  | answersNotice hu hn hq => exact h.answerNotice hu hn hq
  | acknowledges ha => exact h.acknowledges ha

end Sys2Proof.Machine

namespace Sys2Proof.Machine

/-! ### MU owes an acknowledgement only while a fill runs -/

theorem CtxState.busy_of_isActive {x : CtxState} (h : x.isActive = true) : x.busy = true := by
  cases x with
  | active f => rfl
  | idle | pending u | waiting u | done => exact nomatch h

section Owes
variable {s t : State}

/-- Port `p` has a running fill if MU owes an acknowledgement of its withdrawal. -/
def State.OwesForFill (s : State) (p : Port) : Prop :=
  (s.link p).muOwesAck = true → ∃ cx, portOf cx = p ∧ (s.ctx cx).state.isActive = true

theorem State.owesForFills_iff (s : State) : s.owesForFills ↔ ∀ p, s.OwesForFill p := by
  refine forall_congr' fun p => imp_congr_right fun _ => ⟨fun ⟨c, hc⟩ => ⟨_, portOf_ctxOf p c, hc⟩, fun ⟨cx, hp, hc⟩ => ?_⟩
  obtain ⟨c, rfl⟩ := exists_slot hp
  exact ⟨c, hc⟩

/-- No fill ends, and MU comes to owe nothing. -/
theorem State.owesForFills.kept (hs : s.owesForFills) (hl : ∀ p, (t.link p).muOwesAck = true → (s.link p).muOwesAck = true)
    (hc : ∀ cx, (s.ctx cx).state.isActive = true → (t.ctx cx).state.isActive = true) : t.owesForFills := fun p hp => by
  obtain ⟨c, h⟩ := hs p (hl p hp)
  exact ⟨c, hc _ h⟩

theorem State.owesForFills.endsOnly {C : CtxNum → Prop} (hs : s.owesForFills) (h : State.EndsOnly C s t)
    (hC : ∀ cx, C cx → (s.ctx cx).state.isActive = false) : t.owesForFills := by
  refine hs.kept (fun p hp => (h.link p).muOwesAck ▸ hp) fun cx hcx => ?_
  rcases h.ctx cx with e | ⟨hc, _⟩
  · rwa [CtxState.isActive_of_bare e]
  · exact Bool.noConfusion (hcx.symm.trans (hC cx hc))

/-- One context changes that is not ACTIVE. -/
theorem State.owesForFills.modCtx (hs : s.owesForFills) {cx : CtxNum} {f : Context → Context}
    (h : (s.ctx cx).state.isActive = true → (f (s.ctx cx)).state.isActive = true) : (s.modCtx cx f).owesForFills := by
  refine hs.kept (fun _ => id) fun c hc => ?_
  by_cases e : c = cx
  · subst e
    rw [State.modCtx_ctx_self]
    exact h hc
  · rwa [State.modCtx_ctx_ne _ _ _ e]

/-- Whatever has happened at port `p`, MU settles its debt there. -/
theorem State.owesForFills_muSettle {p : Port} (h : ∀ q, q ≠ p → s.OwesForFill q) : (s.muSettle p).owesForFills := by
  rw [State.owesForFills_iff]
  intro q
  unfold State.muSettle State.OwesForFill
  split
  · intro hq
    by_cases e : q = p
    · simp [e] at hq
    · exact h q e (by simpa [e] using hq)
  · rename_i hns
    intro hq
    by_cases e : q = p
    · subst e
      simp only [Bool.and_eq_true, hq, true_and, Bool.not_eq_true', Bool.not_eq_false, State.anyOfPort, List.any_eq_true,
        mem_allSlots] at hns
      obtain ⟨c, hc⟩ := hns
      exact ⟨_, portOf_ctxOf q c, hc⟩
    · exact h q e hq

/-- A fill of port `p` ends. -/
theorem State.owesForFills.endFill (hs : s.owesForFills) (hset : s.settled) (cx : CtxNum) (r : Answer) :
    (s.endFill cx r).owesForFills := by
  refine State.owesForFills_muSettle fun q hq ho => ?_
  rw [State.complete_of_settled hset] at ho ⊢
  obtain ⟨c, hp, hc⟩ := (s.owesForFills_iff.1 hs) q ho
  refine ⟨c, hp, ?_⟩
  rwa [State.modCtx_ctx_ne]
  rintro rfl
  exact hq hp.symm

/-- MU takes its notice: it owes an acknowledgement, and gives it at once if no fill is running. -/
theorem State.owesForFills.muTakesNotice (hs : s.owesForFills) (p : Port) :
    (((s.dropNotice p .mu).modLink p fun k => { k with muOwesAck := true }).muSettle p).owesForFills := by
  refine State.owesForFills_muSettle fun q hq ho => ?_
  exact s.owesForFills_iff.1 hs q (by simpa [State.dropNotice, hq] using ho)

theorem State.owesForFills.answerNotice (hs : s.owesForFills) (p : Port) (u : UnitId) :
    (s.answerNotice p u).owesForFills := by
  refine hs.kept (fun q hq => ?_) fun cx hc => ?_
  · by_cases e : q = p
    · subst e
      cases u <;> simpa [State.answerNotice, State.dropNotice, State.sendLu] using hq
    · cases u <;> simpa [State.answerNotice, State.dropNotice, State.sendLu, e] using hq
  · cases u <;> exact hc

/-- A withdrawal completes only at rest, so that no fill ends by it. -/
theorem State.owesForFills.acknowledges (hs : s.owesForFills) (p : Port) (u : UnitId) :
    ((s.modLink p fun k => k.withoutAck u).acknowledged p u).owesForFills := by
  refine hs.kept (fun q hq => ?_) fun cx hc => ?_
  · by_cases e : q = p
    · subst e
      have : ((s.link q).withoutAck u).muOwesAck = (s.link q).muOwesAck := Links.owes_withoutAck _ u .mu
      simpa [State.acknowledged, this] using hq
    · simpa [State.acknowledged, e] using hq
  · unfold State.acknowledged
    generalize ht : (State.modPort _ p _) = t
    have htc (c : CtxNum) : t.ctx c = s.ctx c := by
      rw [← ht]
      rfl
    rcases t.testWithdrawal_cases p with e | ⟨_, m, _, _, hrest, e⟩
    · rw [e, htc]
      exact hc
    · rw [e, State.completeWithdrawal_ctx_state]
      split
      · rename_i hp
        obtain ⟨c, rfl⟩ := exists_slot hp
        simp only [State.portAtRest, State.anyOfPort, Bool.not_eq_true', List.any_eq_false, mem_allSlots, true_implies,
          Bool.not_eq_true, htc] at hrest
        exact Bool.noConfusion ((hrest c).symm.trans (CtxState.busy_of_isActive hc))
      · rw [htc]
        exact hc

theorem State.owesForFills.beginWithdrawal (hs : s.owesForFills) (p : Port) (mark : Bool) :
    (s.beginWithdrawal p mark).owesForFills := by
  refine hs.kept (fun q hq => ?_) fun _ => id
  by_cases e : q = p
  · subst e
    simpa [State.beginWithdrawal] using hq
  · simpa [State.beginWithdrawal, e] using hq

/-- The window of a port with IDLE contexts is cleared. -/
theorem State.owesForFills.portResetClearing (hs : s.owesForFills) {p : Port}
    (hp : ∀ cx, portOf cx = p → (s.ctx cx).state = .idle) : (s.portResetClearing p).owesForFills := by
  refine hs.kept (fun q => by simp) fun cx hcx => ?_
  have hne : portOf cx ≠ p := fun e => by
    rw [hp cx e] at hcx
    exact nomatch hcx
  simpa [State.portResetClearing, hne] using hcx

end Owes

/-- A context in a queue, or PENDING, has no fill running. -/
theorem CtxState.isActive_of_waiting {x : CtxState} {u : UnitId} (h : x = .waiting u) : x.isActive = false := by
  rw [h]
  rfl

theorem CtxState.isActive_of_pending {x : CtxState} {u : UnitId} (h : x = .pending u) : x.isActive = false := by
  rw [h]
  rfl

/-- Every elementary change keeps it that MU owes for fills only, where the waits are sound and the withdrawals
coherent. -/
theorem Move.keeps_owesForFills {s t : State} (hm : Move s t) (hw : s.WaitsSound .lu []) (hb : s.withdrawalsCoherent)
    (h : s.owesForFills) : t.owesForFills := by
  have hs := State.settled_of_withdrawalsCoherent hb
  have ends {t : State} (ht : State.EndsOnly (fun cx => (s.ctx cx).state.isActive = false) s t) : t.owesForFills :=
    h.endsOnly ht fun _ => id
  have asking {cx : CtxNum} {u : UnitId} (ha : s.MayAnswer u cx) := CtxState.isActive_of_pending ha.pending
  have inLocks {cx : CtxNum} (hcx : cx ∈ s.lockEntries) : (s.ctx cx).state.isActive = false :=
    CtxState.isActive_of_waiting ((hw.waiting .lu cx).2 (List.mem_append_left _ hcx))
  have inLock {l : LockNum} (w : Waiter) (hq : w ∈ (s.lock l).queue) : (s.ctx w.ctx).state.isActive = false :=
    inLocks (State.mem_lockEntries.2 ⟨l, w, hq, rfl⟩)
  have inChannel {n : ChanNum} (cx : CtxNum) (hq : cx ∈ (s.chan n).waiters) : (s.ctx cx).state.isActive = false :=
    CtxState.isActive_of_waiting (hw.waits_at_channel hq)
  have inChannels {cx : CtxNum} (hcx : cx ∈ s.channelEntries) : (s.ctx cx).state.isActive = false := by
    obtain ⟨n, hq⟩ := State.mem_channelEntries.1 hcx
    exact inChannel cx hq
  cases hm with
  | quiet ha => exact ends ha.endsOnly
  | reset hr =>
    intro p ho
    obtain ⟨-, -, hlink, -⟩ := hr
    exact Bool.noConfusion ((hlink p).2.1.symm.trans ho)
  | answer r ha => exact ends (State.endsOnly_complete hs r (asking ha))
  | goes _ hbusy =>
    exact h.modCtx fun ha => Bool.noConfusion (hbusy.symm.trans (CtxState.busy_of_isActive ha))
  | acks cx =>
    refine h.modCtx fun ha => ?_
    rcases (s.ctx cx).acked_cases with ⟨hd, e⟩ | ⟨_, e⟩
    · rw [hd] at ha
      exact nomatch ha
    · rwa [e]
  | fillBegins f ha => exact h.modCtx fun _ => rfl
  | fillEnds r _ => exact h.endFill hs _ r
  | lockGrants ha _ => exact ends (State.endsOnly_grantLock hs _ (asking ha))
  | lockParks ha _ _ =>
    refine State.owesForFills.modCtx (ends (State.endsOnly_modLock _ _)) fun e => ?_
    exact Bool.noConfusion (e.symm.trans (asking ha))
  | lockReleases r ha _ => exact ends ((State.endsOnly_handOff hs _ inLock).complete hs r (asking ha))
  | lockRevoked l cause epoch => exact ends (State.endsOnly_revoke hs l cause epoch inLock)
  | lockForced l cause epoch r ha => exact ends ((State.endsOnly_revoke hs l cause epoch inLock).complete hs r (asking ha))
  | lockWaitsCount =>
    refine ends ((State.endsOnly_mapLocks _).timeOutAll hs fun cx hcx => inLocks ?_)
    obtain ⟨l, -, hcx⟩ := List.mem_flatMap.1 hcx
    obtain ⟨w, hwq, rfl⟩ := List.mem_map.1 hcx
    exact State.mem_lockEntries.2 ⟨l, w, (List.mem_filter.1 hwq).1, rfl⟩
  | lockWaitEnds r hcx =>
    exact ends ((State.endsOnly_mapLocks _).complete hs r (hcx.elim CtxState.isActive_of_waiting inLocks))
  | lockWaitsCancelled p =>
    refine ends ((State.endsOnly_mapLocks _).cancelAll hs nofun fun cx hcx => ?_)
    exact CtxState.isActive_of_waiting (by rwa [State.mapLocks_ctx] at hcx)
  | chanParks ha _ _ =>
    refine State.owesForFills.modCtx (ends (State.endsOnly_modChan _ _)) fun e => ?_
    exact Bool.noConfusion (e.symm.trans (asking ha))
  | chanServes r hq _ =>
    exact ends ((State.endsOnly_modChan _ _).complete hs r (inChannel _ (hq.subset List.mem_cons_self)))
  | chanServesFor r r' ha hq _ =>
    exact ends (((State.endsOnly_modChan _ _).complete hs r (inChannel _ (hq.subset List.mem_cons_self))).complete hs r'
      (asking ha))
  | chanBinds _ _ => exact ends (State.endsOnly_modChan _ _)
  | chanUnbinds n b r ha => exact ends ((State.endsOnly_forceUnbind hs n b inChannel).complete hs r (asking ha))
  | chanWaitsCount =>
    refine ends ((State.endsOnly_mapChans _).timeOutAll hs fun cx hcx => ?_)
    obtain ⟨n, -, hcx⟩ := List.mem_flatMap.1 hcx
    obtain ⟨e, he, rfl⟩ := List.mem_map.1 hcx
    exact inChannel (n := n) _ (List.mem_map_of_mem (List.mem_filter.1 he).1)
  | chanWaitEnds r hcx =>
    exact ends ((State.endsOnly_mapChans _).complete hs r (hcx.elim CtxState.isActive_of_waiting inChannels))
  | chanWaitsCancelled p =>
    refine ends ((State.endsOnly_mapChans _).cancelAll hs nofun fun cx hcx => ?_)
    exact CtxState.isActive_of_waiting (by rwa [State.mapChans_ctx] at hcx)
  | inspects _ _ _ _ _ => exact h
  | inspected => exact h
  | forces _ _ _ => exact h
  | forced => exact h
  | attaches _ => exact h
  | withdraws mark _ => exact h.beginWithdrawal _ mark
  | marks _ => exact h
  | clears hp => exact h.portResetClearing fun cx e => hw.offline cx (e ▸ hp)
  | muTakesNotice _ _ => exact h.muTakesNotice _
  | answersNotice _ _ _ => exact h.answerNotice _ _
  | acknowledges _ => exact h.acknowledges _ _

/-- Settles O7: each elementary change keeps every unit of a withdrawal on its way, and, with the waits sound, MU's debts
to running fills; a coherent state has no full set. -/
theorem stepKeepsWithdrawalsCoherent : Obligations.StepKeepsWithdrawalsCoherent := by
  refine ⟨fun s t hs h => step_keeps Move.keeps_withdrawalsCoherent h hs, fun s t hb ho hl hc h => ?_,
    fun s => State.settled_of_withdrawalsCoherent⟩
  have hw : s.WaitsSound .lu [] := (s.waitsSound_nil_iff _).2 ⟨hl, fun n => Channel.waiters_of_unbound (hc n)⟩
  have keeps {s t : State} (hm : Move s t) (hs : s.WaitsSound .lu [] ∧ s.withdrawalsCoherent ∧ s.owesForFills) :
      t.WaitsSound .lu [] ∧ t.withdrawalsCoherent ∧ t.owesForFills :=
    ⟨hm.keeps_waitsSound hs.1, hm.keeps_withdrawalsCoherent hs.2.1, hm.keeps_owesForFills hs.1 hs.2.1 hs.2.2⟩
  exact (step_keeps keeps h ⟨hw, hb, ho⟩).2.2

end Sys2Proof.Machine

namespace Sys2Proof.Machine

/-! ## The machine as a whole, and its resets -/

/-- Settles O1: the definition of a step, for each shape of the queue. -/
theorem stepRunsTheFrontCommand : Obligations.StepRunsTheFrontCommand :=
  ⟨fun _ _ _ => rfl, fun _ h => by rw [step, h]⟩

section Reset
variable {t : State}

theorem State.reset_blocksAtReset : State.reset.blocksAtReset := by
  simp [State.blocksAtReset, State.reset, State.ctx, State.port, State.link, State.lock, State.chan, State.seg,
    State.keyPair, Context.atReset, Context.reset, PortInterface.atReset, PortInterface.reset, Links.atReset, Links.quiet,
    PerUnit.all, Lock.reset, Channel.reset, CommandRecord.zero, ResultRecord.cleared]

/-- At reset every entry of the segment table is invalid, and no fill is running. -/
theorem State.memorySound_of_blocksAtReset (h : t.blocksAtReset) : t.segmentsInMemory ∧ t.fillsInMemory := by
  obtain ⟨hctx, -, -, -, -, -, -, -, -, -, hseg, -⟩ := h
  refine ⟨fun n => ?_, fun cx => ?_⟩
  · rw [hseg]
    rfl
  · rw [(hctx cx).1]
    rfl

/-- At reset every channel is unbound and empty. -/
theorem State.channelsSound_of_blocksAtReset (h : t.blocksAtReset) : t.channelsConsistent ∧ t.channelsBounded := by
  obtain ⟨-, -, -, -, -, -, -, hchan, -⟩ := h
  refine ⟨fun n => ?_, fun n => ?_⟩ <;> rw [hchan]
  · rfl
  · exact ⟨rfl, nofun⟩

theorem State.logsBounded_of_blocksAtReset (h : t.blocksAtReset) : t.logsBounded := fun p => by
  obtain ⟨-, hport, -⟩ := h
  obtain ⟨-, -, -, -, -, -, -, -, -, -, -, -, hlog, -⟩ := hport p
  rw [hlog]
  exact Nat.zero_le _

theorem State.owesForFills_of_blocksAtReset (h : t.blocksAtReset) : t.owesForFills := fun p ho => by
  obtain ⟨-, -, hlink, -⟩ := h
  obtain ⟨-, howes, -⟩ := hlink p
  exact Bool.noConfusion (howes.symm.trans ho)

end Reset

/-- Settles O3: each invariant holds of a part whose blocks are at their reset values. -/
theorem resetMeetsTheInvariants : Obligations.ResetMeetsTheInvariants := by
  have h := State.reset_blocksAtReset
  have hb := State.withdrawalsCoherent_of_blocksAtReset h
  obtain ⟨hsegments, hfills⟩ := State.memorySound_of_blocksAtReset h
  obtain ⟨hconsistent, hbounded⟩ := State.channelsSound_of_blocksAtReset h
  have hlocks := ((State.reset.waitsSound_nil_iff .lu).1 (.of_blocksAtReset h .lu)).1
  exact ⟨rfl, hsegments, hfills, hlocks, hconsistent, State.logsBounded_of_blocksAtReset h, hb,
    State.settled_of_withdrawalsCoherent hb, hbounded, State.owesForFills_of_blocksAtReset h⟩

/-- A chip reset event cuts the frames in progress, and keeps the memory and the queue of commands. -/
theorem State.cutFrames_chipResetEvent (s : State) (straps : Straps) : s.cutFrames (s.chipResetEvent straps) := by
  refine ⟨fun p => ?_, rfl, rfl⟩
  have e : (s.chipResetEvent straps).port p = { PortInterface.reset with frame := (s.port p).frame.afterReset } :=
    Table.at_mapEach ..
  rw [e]
  refine ⟨rfl, rfl, ?_⟩
  cases (s.port p).frame <;> rfl

theorem State.chipResets_chipResetEvent (s : State) (straps : Straps) :
    s.chipResets (s.chipResetEvent straps) straps :=
  ⟨s.chipResetEvent_blocksAtReset straps, s.cutFrames_chipResetEvent straps, rfl, rfl, rfl, rfl⟩

/-- A grant before a chip reset event is lost with it. -/
theorem State.chipResets_granted {s t : State} {straps : Straps} (u : UnitId) (cx : CtxNum)
    (h : (s.granted u cx).chipResets t straps) : s.chipResets t straps := by
  simpa [State.chipResets, State.cutFrames] using h

/-- Settles O8: the two commands are the chip reset event, and the state after reset is made of reset values. -/
theorem chipResetEvent : Obligations.ChipResetEvent := by
  refine ⟨fun s straps => ⟨⟨_, rfl, s.chipResets_chipResetEvent straps⟩, fun cx ht hm => ?_⟩, State.reset_blocksAtReset,
    rfl, rfl, fun _ => rfl, rfl, rfl⟩
  refine ⟨_, ?_, State.chipResets_granted _ _ ((s.granted Command.chipReset.owner cx).chipResets_chipResetEvent straps)⟩
  have e : exec (.chipReset cx straps) s =
      s.take .chipReset cx fun s => s.asManager cx <| .next (s.chipResetEvent straps) := rfl
  rw [e, State.take_of_takes ht, State.asManager_of_manager (by simpa using hm)]

end Sys2Proof.Machine

namespace Sys2Proof.Machine

/-! ## Taking a request -/

/-! ### Arbiters -/

section Arbiters
variable {s : State} {u : UnitId}

/-- What an arbiter asks before it grants. -/
theorem State.grants_eq_some_iff {cx : CtxNum} :
    s.grants u = some cx ↔ s.tickStands u = false ∧ s.midStep u = false ∧ s.noNoticeDue u = true ∧ s.nextGrant u = some cx := by
  unfold State.grants
  cases s.tickStands u <;> cases s.midStep u <;> cases s.noNoticeDue u <;> simp

/-- No notice is due at a unit exactly when none there has waited for fifteen grants. -/
theorem State.noNoticeDue_iff : s.noNoticeDue u = true ↔
    (∀ c n, (s.ctx c).abort = some n → (s.ctx c).state.owner = some u → n.taken = false → n.grants < 15) ∧
      ∀ p g, (s.link p).notices.get u = .standing g → g < 15 := by
  have ctx (c : CtxNum) : (s.ctx c).abortDue u = false ↔
      ∀ n, (s.ctx c).abort = some n → (s.ctx c).state.owner = some u → n.taken = false → n.grants < 15 := by
    unfold Context.abortDue
    cases (s.ctx c).abort <;> simp [Config.noticeGrants, Nat.lt_succ_iff]
  have notice (p : Port) : ((s.link p).notices.get u).due = false ↔
      ∀ g, (s.link p).notices.get u = .standing g → g < 15 := by
    unfold NoticeState.due
    cases (s.link p).notices.get u <;> simp [Config.noticeGrants, Nat.lt_succ_iff]
  simp only [State.noNoticeDue, Bool.and_eq_true, List.all_eq_true, mem_allCtxs, mem_allPorts, true_implies,
    Bool.not_eq_true', ctx, notice]

/-- The search for the next grant, in distances from the number after the last one. -/
theorem State.nextGrant_eq (s : State) (u : UnitId) : s.nextGrant u =
    (allCtxs.find? fun k => (s.ctx (s.arbiters.get u + 1 + k)).state.standsAt u).map (s.arbiters.get u + 1 + ·) :=
  List.find?_map ..

/-- The distance of a number from the one after `a`. -/
theorem distance_add (a c : CtxNum) : a + 1 + (c - a - 1) = c := by abel

/-- The number granted stands, and none that stands comes before it. -/
theorem State.first_of_nextGrant {cx : CtxNum} (h : s.nextGrant u = some cx) :
    (s.ctx cx).state.standsAt u = true ∧ ∀ c, (s.ctx c).state.standsAt u = true →
      (cx - s.arbiters.get u - 1).val ≤ (c - s.arbiters.get u - 1).val := by
  rw [State.nextGrant_eq, Option.map_eq_some_iff] at h
  obtain ⟨k, hk, rfl⟩ := h
  obtain ⟨hstands, before, behind, hall, hbefore⟩ := List.find?_eq_some_iff_append.1 hk
  refine ⟨hstands, fun c hc => ?_⟩
  rw [show s.arbiters.get u + 1 + k - s.arbiters.get u - 1 = k by abel]
  have hsorted : (before ++ k :: behind).Pairwise (· < ·) := hall ▸ List.pairwise_lt_finRange 16
  have hmem : c - s.arbiters.get u - 1 ∈ before ++ k :: behind := hall ▸ mem_allCtxs _
  rcases List.mem_append.1 hmem with hin | hin
  · have := hbefore _ hin
    rw [distance_add, hc] at this
    exact nomatch this
  · rcases List.mem_cons.1 hin with e | hin
    · exact le_of_eq (congrArg Fin.val e.symm)
    · exact le_of_lt (List.rel_of_pairwise_cons (List.pairwise_append.1 hsorted).2.1 hin)

/-- Where a request stands, some number is next. -/
theorem State.exists_nextGrant {c : CtxNum} (h : (s.ctx c).state.standsAt u = true) : ∃ cx, s.nextGrant u = some cx := by
  rw [State.nextGrant_eq, ← Option.isSome_iff_exists, Option.isSome_map, List.find?_isSome]
  exact ⟨_, mem_allCtxs (c - s.arbiters.get u - 1), by rwa [distance_add]⟩

end Arbiters

/-! ### The step of a command -/

/-- A request that the unit does not take now. -/
theorem State.take_of_not_takes {s : State} {c : Command} {cx : CtxNum} (h : ¬ s.takes c cx) (k : State → Out) :
    s.take c cx k = .next s := by
  rcases s.take_cases c cx k with ⟨ht, _⟩ | e
  · exact absurd ht h
  · exact e

/-- The step in which a unit takes a request is a `take`, for every command. -/
theorem exec_taking (c : Command) (cx : CtxNum) (straps : Straps) (s : State) :
    ∃ k, exec (c.taking cx straps) s = s.take c cx k := by
  cases c <;> simp only [Command.taking, exec, execRead, execWrite, execReadGroup, execWriteGroup, execTally,
    execSetIfZero, execZeroFill, execDefineSegment, execClearSegment, execInspectSegment, execAcquire, execRelease,
    execRenew, execInspectLock, execSetLock, execForceRelease, execSend, execReceive, execInspectChannel,
    execBindChannel, execUnbindChannel, execSetPortKeys, execSetTick, execEvictPort, execInspectPort, execChipReset] <;>
    exact ⟨_, rfl⟩

/-- Settles O11: the search of `nextGrant` for the first standing number, and `take` for every command. -/
theorem requestsAreTakenInTurn : Obligations.RequestsAreTakenInTurn := by
  refine ⟨fun s u cx h => ?_, fun s u c hc htick hmid hnotice => ?_, fun s c cx straps h => ?_, fun s cx h => ?_⟩
  · obtain ⟨htick, hmid, hnotice, hnext⟩ := State.grants_eq_some_iff.1 h
    obtain ⟨hstands, hfirst⟩ := State.first_of_nextGrant hnext
    obtain ⟨haborts, hnotices⟩ := State.noNoticeDue_iff.1 hnotice
    exact ⟨hstands, htick, hmid, haborts, hnotices, hfirst⟩
  · obtain ⟨cx, hnext⟩ := State.exists_nextGrant hc
    exact ⟨cx, State.grants_eq_some_iff.2 ⟨htick, hmid, hnotice, hnext⟩⟩
  · obtain ⟨k, e⟩ := exec_taking c cx straps s
    rw [e, State.take_of_not_takes h]
  · exact State.take_of_not_takes h fun s => .next (s.setForcing (some cx))

end Sys2Proof.Machine

namespace Sys2Proof.Machine

/-! ### Failed checks -/

section Checks
variable {s : State} {cx : CtxNum}

/-- A request that has been taken and fails a check ends, and nothing else changes. -/
theorem State.failed_granted (h : s.settled) (u : UnitId) (cx : CtxNum) (code : CompletionCode) :
    ∃ t, (s.granted u cx).failed cx code = .next t ∧ s.served t u cx [] [] ∧ s.ends t cx { code := code } := by
  refine ⟨_, rfl, State.served_complete h, ?_⟩
  have e : ((s.granted u cx).complete cx { code := code }).ctx cx = (s.ctx cx).completed { code := code } := by
    rw [State.complete_of_settled (by simpa using h)]
    simp
  rw [State.ends, e]
  exact Context.ended_completed _ _

/-- A manager command tests the port before all else. -/
theorem exec_taking_manager {c : Command} (hc : c.isManager = true) (cx : CtxNum) (straps : Straps) (s : State) :
    ∃ k : State → Out, exec (c.taking cx straps) s = s.take c cx fun s => s.asManager cx (k s) := by
  cases c with
  | defineSegment | clearSegment | setLock | forceRelease | bindChannel | unbindChannel | setPortKeys | setTick | evictPort
  | chipReset =>
    simp only [Command.taking, exec, execDefineSegment, execClearSegment, execSetLock, execForceRelease,
      State.forceReleaseLock, execBindChannel, execUnbindChannel, execSetPortKeys, execSetTick, execEvictPort,
      execChipReset]
    exact ⟨_, rfl⟩
  | _ => exact nomatch hc

/-- Settles O12: the privilege check comes first. -/
theorem managerCommandsNeedTheManagerPort : Obligations.ManagerCommandsNeedTheManagerPort := by
  intro s c cx straps hc hs ht hp
  have hm : c.isManager = true := by
    revert hc
    cases c <;> decide
  obtain ⟨k, e⟩ := exec_taking_manager hm cx straps s
  rw [e, State.take_of_takes ht, State.asManager_of_other (by simpa using hp)]
  exact State.failed_granted hs _ _ _

/-! ### Range (R22) -/

theorem State.onTarget_eq_failed {α : Type} {target : Option α} {k : α → Out} (h : target = none) :
    s.onTarget cx target k = s.failed cx .range := by
  rw [h, State.onTarget_none]

theorem CommandRecord.selectorValid_eq_false (r : CommandRecord) : r.selectorValid = false ↔ r.selector = .unused := by
  simp [CommandRecord.selectorValid]

theorem CommandRecord.countWithin_eq_false (r : CommandRecord) (max : Nat) :
    r.countWithin max = false ↔ ¬ r.counts max := by
  rw [← CommandRecord.countWithin_iff, Bool.not_eq_true]

/-- A data command whose segment number, selector or count is out of range. -/
theorem State.onSegment_of_outOfRange {countOk : Bool} {need : Nat} {right : Right} {k : SegNum → Segment → Nat → Out}
    (h : 64 ≤ (s.ctx cx).command.object.toNat ∨ (s.ctx cx).command.selector = .unused ∨ countOk = false) :
    s.onSegment cx countOk need right k = s.failed cx .range := by
  refine State.onTarget_eq_failed ?_
  split
  · rename_i hok
    simp only [Bool.and_eq_true, CommandRecord.selectorValid, decide_eq_true_eq] at hok
    rcases h with h | h | h
    · exact CommandRecord.objectBelow_eq_none.2 h
    · exact absurd h hok.2
    · exact Bool.noConfusion (hok.1.symm.trans h)
  · rfl

/-- A target that is looked up only if a condition holds. -/
theorem CommandRecord.ite_objectBelow_eq_none {r : CommandRecord} {n : Nat} {b : Bool}
    (h : n ≤ r.object.toNat ∨ b = false) : (if b then r.objectBelow n else none) = none := by
  cases b with
  | false => rfl
  | true => exact CommandRecord.objectBelow_eq_none.2 (h.resolve_right nofun)

theorem State.evictTarget_eq_none {r : CommandRecord} (h : 4 ≤ r.object.toNat ∨ r.object.toNat = s.managerPort.val) :
    s.evictTarget r = none := by
  unfold State.evictTarget CommandRecord.portNum
  cases hp : r.objectBelow 4 with
  | none => rfl
  | some p =>
    have hp := CommandRecord.objectBelow_eq_some.1 hp
    rcases h with h | h
    · exact absurd p.isLt (by omega)
    · exact if_pos (Fin.ext (hp.symm.trans h))

theorem Binding.valid_eq_false {w : Word}
    (h : w.extractLsb' 0 4 = 0 ∨ w.getLsbD (w.extractLsb' 4 2).toNat = true) : (bindingField w).valid = false := by
  rcases h with h | h
  · simp [Binding.valid, bindingField, sendersField, h]
  · have hin : (bindingField w).senders.getLsbD (bindingField w).receiver.val = true := by
      change (w.extractLsb' 0 4).getLsbD (w.extractLsb' 4 2).toNat = true
      rw [BitVec.getLsbD_extractLsb', Nat.zero_add, h, decide_eq_true (w.extractLsb' 4 2).isLt]
      rfl
    rw [Binding.valid, hin, Bool.not_true, Bool.and_false]

theorem defineTarget_eq_none {r : CommandRecord}
    (h : 64 ≤ r.object.toNat ∨ ¬ r.counts 4096 ∨ 16384 < (r.operand.extractLsb' 0 14).toNat + r.count.toNat) :
    defineTarget r = none := by
  refine CommandRecord.ite_objectBelow_eq_none (h.imp_right fun h => ?_)
  rw [Bool.and_eq_false_iff, CommandRecord.countWithin_eq_false]
  exact h.imp_right fun h => decide_eq_false (Nat.not_le.2 h)

theorem holderTarget_eq_none {r : CommandRecord} (h : 64 ≤ r.object.toNat ∨ 255 < r.operand.toNat) :
    holderTarget r = none :=
  CommandRecord.ite_objectBelow_eq_none (h.imp_right fun h => decide_eq_false (Nat.not_le.2 h))

/-- A grant changes no range check. -/
theorem State.outOfRange_granted (u : UnitId) (c : CtxNum) (x : Command) :
    (s.granted u c).outOfRange x ((s.granted u c).ctx cx).command ↔ s.outOfRange x (s.ctx cx).command := by
  cases x <;> simp [State.outOfRange]

/-- A request that has been taken, of the manager port where that is needed, with a field out of range. -/
theorem State.exec_of_outOfRange {c : Command} {straps : Straps} (ht : s.takes c cx)
    (hm : c.isManager = true → portOf cx = s.managerPort) (h : s.outOfRange c (s.ctx cx).command) :
    exec (c.taking cx straps) s = (s.granted c.owner cx).failed cx .range := by
  have ho := (State.outOfRange_granted (cx := cx) c.owner cx c).2 h
  have manages (hc : c.isManager = true) (k : Out) : (s.granted c.owner cx).asManager cx k = k :=
    State.asManager_of_manager (by simpa using hm hc)
  cases c with
  | read | write | tally | setIfZero =>
    simp only [Command.taking, exec, execRead, execWrite, execTally, execSetIfZero, State.take_of_takes ht]
    exact State.onSegment_of_outOfRange (ho.imp_right .inl)
  | readGroup | writeGroup | zeroFill =>
    simp only [Command.taking, exec, execReadGroup, execWriteGroup, execZeroFill, State.take_of_takes ht]
    exact State.onSegment_of_outOfRange (ho.imp_right (Or.imp_right (CommandRecord.countWithin_eq_false _ _).2))
  | inspectSegment | inspectLock | inspectChannel | inspectPort =>
    simp only [Command.taking, exec, execInspectSegment, execInspectLock, execInspectChannel, execInspectPort,
      State.take_of_takes ht]
    exact State.onTarget_eq_failed (CommandRecord.objectBelow_eq_none.2 ho)
  | clearSegment | setLock | forceRelease | unbindChannel | setPortKeys =>
    simp only [Command.taking, exec, execClearSegment, execSetLock, execForceRelease, State.forceReleaseLock,
      execUnbindChannel, execSetPortKeys, State.take_of_takes ht, manages rfl]
    exact State.onTarget_eq_failed (CommandRecord.objectBelow_eq_none.2 ho)
  | defineSegment =>
    simp only [Command.taking, exec, execDefineSegment, State.take_of_takes ht, manages rfl]
    exact State.onTarget_eq_failed (defineTarget_eq_none ho)
  | acquire | receive =>
    simp only [Command.taking, exec, execAcquire, execReceive, State.take_of_takes ht]
    exact State.onTarget_eq_failed (CommandRecord.ite_objectBelow_eq_none
      (ho.imp_right (CommandRecord.selectorValid_eq_false _).2))
  | release | renew =>
    simp only [Command.taking, exec, execRelease, execRenew, State.take_of_takes ht]
    exact State.onTarget_eq_failed (holderTarget_eq_none ho)
  | send =>
    simp only [Command.taking, exec, execSend, State.take_of_takes ht]
    refine State.onTarget_eq_failed (CommandRecord.ite_objectBelow_eq_none (ho.imp_right fun h => ?_))
    rw [Bool.and_eq_false_iff, CommandRecord.countWithin_eq_false, CommandRecord.selectorValid_eq_false]
    exact h.symm
  | bindChannel =>
    simp only [Command.taking, exec, execBindChannel, State.take_of_takes ht, manages rfl]
    exact State.onTarget_eq_failed (CommandRecord.ite_objectBelow_eq_none (ho.imp_right Binding.valid_eq_false))
  | evictPort =>
    simp only [Command.taking, exec, execEvictPort, State.take_of_takes ht, manages rfl]
    exact State.onTarget_eq_failed (State.evictTarget_eq_none ho)
  | setTick | chipReset => exact absurd h id

end Checks

/-- Settles O13: the range check comes next. -/
theorem fieldsOutOfRangeGiveRange : Obligations.FieldsOutOfRangeGiveRange := by
  intro s c cx straps hs ht hm ho
  rw [State.exec_of_outOfRange ht hm ho]
  exact State.failed_granted hs _ _ _

end Sys2Proof.Machine

namespace Sys2Proof.Machine

/-! ### Data commands (R88) -/

section DataCommands
variable {s : State} {cx : CtxNum}

/-- A data command that passes the range check and names no valid segment, or words outside it. -/
theorem State.onSegment_missing {n : SegNum} {need : Nat} {right : Right} (hsel : (s.ctx cx).command.selector ≠ .unused)
    (hn : (s.ctx cx).command.object.toNat = n.val)
    (h : (s.seg n).all (fun g => !g.reaches (s.ctx cx).command.offset.toNat need) = true)
    (k : SegNum → Segment → Nat → Out) : s.onSegment cx true need right k = s.failed cx .missing := by
  have hseg : (s.ctx cx).command.segNum = some n := CommandRecord.objectBelow_eq_some.2 hn
  unfold State.onSegment
  simp only [CommandRecord.selectorValid, hsel, ne_eq, not_false_eq_true, decide_true, Bool.and_self, if_true, hseg,
    State.onTarget_some]
  cases hg : s.seg n with
  | none => rfl
  | some g =>
    rw [hg, Option.all_some, Bool.not_eq_true', Segment.reaches, decide_eq_false_iff_not] at h
    exact if_neg h

/-- A data command that names words of a segment whose key it does not present, or that lacks the right. -/
theorem State.onSegment_protected {n : SegNum} {g : Segment} {need : Nat} {right : Right}
    (hsel : (s.ctx cx).command.selector ≠ .unused) (hn : (s.ctx cx).command.object.toNat = n.val) (hg : s.seg n = some g)
    (hr : g.reaches (s.ctx cx).command.offset.toNat need = true)
    (h : ¬ (s.presentsKeyFor cx g.key ∧ g.rights.grants right = true)) (k : SegNum → Segment → Nat → Out) :
    s.onSegment cx true need right k = s.failed cx .protected_ := by
  have hseg : (s.ctx cx).command.segNum = some n := CommandRecord.objectBelow_eq_some.2 hn
  rw [← State.keyOpens_iff, ← Bool.and_eq_true] at h
  rw [Segment.reaches, decide_eq_true_eq] at hr
  unfold State.onSegment
  simp only [CommandRecord.selectorValid, hsel, ne_eq, not_false_eq_true, decide_true, Bool.and_self, if_true, hseg,
    State.onTarget_some, hg]
  rw [if_pos hr, if_neg h]

/-- Every data command makes its checks by `onSegment`, with the right and the words that it needs. -/
theorem exec_taking_data {c : Command} {right : Right} (hc : c.dataRight = some right) (cx : CtxNum) (straps : Straps)
    (s : State) : ∃ countOk : CommandRecord → Bool,
      (∀ r, ¬ s.outOfRange c r → countOk r = true ∧ r.selector ≠ .unused) ∧ c.owner = .mu ∧
      ∃ k : State → SegNum → Segment → Nat → Out, exec (c.taking cx straps) s = s.take c cx fun s =>
        s.onSegment cx (countOk (s.ctx cx).command) (c.wordsNeeded (s.ctx cx).command) right (k s) := by
  cases c with
  | read | write | tally | setIfZero =>
    obtain rfl := Option.some.inj hc
    refine ⟨fun _ => true, fun r h => ⟨rfl, fun e => h (.inr e)⟩, rfl, ?_⟩
    simp only [Command.taking, exec, execRead, execWrite, execTally, execSetIfZero]
    exact ⟨_, rfl⟩
  | readGroup | writeGroup =>
    obtain rfl := Option.some.inj hc
    refine ⟨fun r => r.countWithin Config.bufferWords,
      fun r h => ⟨(r.countWithin_iff _).2 (not_not.1 fun hn => h (.inr (.inr hn))), fun e => h (.inr (.inl e))⟩, rfl, ?_⟩
    simp only [Command.taking, exec, execReadGroup, execWriteGroup]
    exact ⟨_, rfl⟩
  | zeroFill =>
    obtain rfl := Option.some.inj hc
    refine ⟨fun r => r.countWithin Config.maxSegment,
      fun r h => ⟨(r.countWithin_iff _).2 (not_not.1 fun hn => h (.inr (.inr hn))), fun e => h (.inr (.inl e))⟩, rfl, ?_⟩
    simp only [Command.taking, exec, execZeroFill]
    exact ⟨_, rfl⟩
  | _ => exact nomatch hc

end DataCommands

/-- Settles O14: the checks of `onSegment`, in their order. -/
theorem dataCommandsAreChecked : Obligations.DataCommandsAreChecked := by
  intro s c right cx straps n hc hs ht ho hn
  obtain ⟨countOk, hcount, hmu, k, e⟩ := exec_taking_data hc cx straps s
  obtain ⟨hok, hsel⟩ := hcount _ ho
  have hcommand : ((s.granted c.owner cx).ctx cx).command = (s.ctx cx).command := by simp
  rw [e, State.take_of_takes ht, hcommand, hok, ← hmu]
  have hsel' : ((s.granted c.owner cx).ctx cx).command.selector ≠ .unused := by rw [hcommand]; exact hsel
  have hn' : ((s.granted c.owner cx).ctx cx).command.object.toNat = n.val := by rw [hcommand]; exact hn
  have hseg : (s.granted c.owner cx).seg n = s.seg n := State.granted_seg ..
  refine ⟨fun h => ?_, fun g hg hr h => ?_⟩
  · rw [State.onSegment_missing hsel' hn' (by rw [hcommand, hseg]; exact h)]
    exact State.failed_granted hs _ _ _
  · rw [State.onSegment_protected hsel' hn' (hseg.trans hg) (by rw [hcommand]; exact hr)
      (by rw [← State.keyOpens_iff, State.granted_keyOpens, State.keyOpens_iff]; exact h)]
    exact State.failed_granted hs _ _ _

/-! ### Channel commands (R68, R71, R79) -/

section ChannelCommands
variable {s : State} {cx : CtxNum} {n : ChanNum}

/-- A SEND or RECEIVE that passes the range check makes the others by `onChannel`, in its role. -/
theorem exec_taking_channel {c : Command} (hc : c = .send ∨ c = .receive) {straps : Straps} (ht : s.takes c cx)
    (ho : ¬ s.outOfRange c (s.ctx cx).command) (hn : (s.ctx cx).command.object.toNat = n.val) :
    ∃ k, exec (c.taking cx straps) s =
      (s.granted .cu cx).onChannel cx n (if c = .send then Binding.sends else Binding.receives) k := by
  have hcommand : ((s.granted .cu cx).ctx cx).command = (s.ctx cx).command := by simp
  have hchan : (s.ctx cx).command.chanNum = some n := CommandRecord.objectBelow_eq_some.2 hn
  rcases hc with rfl | rfl
  · have hcount : (s.ctx cx).command.countWithin Config.bufferWords = true :=
      (CommandRecord.countWithin_iff _ _).2 (not_not.1 fun h => ho (.inr (.inr h)))
    have hsel : (s.ctx cx).command.selectorValid = true := decide_eq_true fun e => ho (.inr (.inl e))
    simp only [Command.taking, exec, execSend, State.take_of_takes ht, Command.owner, hcommand, hcount, hsel, hchan,
      Bool.and_self, if_true, State.onTarget_some]
    exact ⟨_, rfl⟩
  · have hsel : (s.ctx cx).command.selectorValid = true := decide_eq_true fun e => ho (.inr e)
    simp only [Command.taking, exec, execReceive, State.take_of_takes ht, Command.owner, hcommand, hsel, hchan,
      if_true, State.onTarget_some, reduceCtorEq, if_false]
    exact ⟨_, rfl⟩

/-- A SEND or RECEIVE of an unbound channel. -/
theorem State.onChannel_missing (hb : (s.chan n).binding = none) (role : Binding → Port → Bool) (k : Binding → Out) :
    s.onChannel cx n role k = s.failed cx .missing := by
  rw [State.onChannel, hb]

/-- One from a port that is not bound in the role. -/
theorem State.onChannel_wrongPort {b : Binding} (hb : (s.chan n).binding = some b) {role : Binding → Port → Bool}
    (hr : ¬ role b (portOf cx) = true) (k : Binding → Out) : s.onChannel cx n role k = s.failed cx .wrongPort := by
  rw [State.onChannel, hb]
  exact if_neg hr

/-- One with the wrong key. -/
theorem State.onChannel_protected {b : Binding} (hb : (s.chan n).binding = some b) {role : Binding → Port → Bool}
    (hr : role b (portOf cx) = true) (hk : ¬ s.keyOpens cx b.key = true) (k : Binding → Out) :
    s.onChannel cx n role k = s.failed cx .protected_ := by
  rw [State.onChannel, hb]
  exact (if_pos hr).trans (if_neg hk)

/-- INSPECT CHANNEL from a port with no part in the channel. -/
theorem State.mayInspect_eq_false (hm : portOf cx ≠ s.managerPort)
    (h : ((s.chan n).binding.all fun b => !b.senders.getLsbD (portOf cx).val && decide (b.receiver ≠ portOf cx)) = true) :
    s.mayInspect cx n = false := by
  unfold State.mayInspect
  rw [State.isManager, decide_eq_false hm, Bool.false_or]
  cases hb : (s.chan n).binding with
  | none => rfl
  | some b =>
    rw [hb, Option.all_some, Bool.and_eq_true, Bool.not_eq_true', decide_eq_true_eq] at h
    obtain ⟨hs, hr⟩ := h
    simp only [Binding.sends, Binding.receives, hs, decide_eq_false hr, Bool.or_self]

end ChannelCommands

/-- Settles O36: the checks of `onChannel`, and the binding check of INSPECT CHANNEL. -/
theorem channelCommandsAreChecked : Obligations.ChannelCommandsAreChecked := by
  intro s c cx straps n hs ht ho hn fails bound
  have hrole (b : Binding) : (if c = .send then Binding.sends else Binding.receives) b (portOf cx) = true ↔ bound b := by
    by_cases e : c = .send <;> simp [bound, e, Binding.sends, Binding.receives]
  have hkey (b : Binding) : (s.granted .cu cx).keyOpens cx b.key = true ↔ s.presentsKeyFor cx b.key := by
    rw [State.granted_keyOpens, State.keyOpens_iff]
  have hchan : (s.granted .cu cx).chan n = s.chan n := State.granted_chan ..
  have fail {code : CompletionCode} (e : exec (c.taking cx straps) s = (s.granted .cu cx).failed cx code) :
      fails code := by
    simp only [fails, e]
    exact State.failed_granted hs _ _ _
  refine ⟨fun hc hb => ?_, fun b hc hb hbound => ?_, fun b hc hb hbound hkeys => ?_, ?_⟩
  · obtain ⟨k, e⟩ := exec_taking_channel hc (straps := straps) ht ho hn
    exact fail (e.trans (State.onChannel_missing (hchan.symm ▸ hb) _ k))
  · obtain ⟨k, e⟩ := exec_taking_channel hc (straps := straps) ht ho hn
    exact fail (e.trans (State.onChannel_wrongPort (hchan.symm ▸ hb) (mt (hrole b).1 hbound) k))
  · obtain ⟨k, e⟩ := exec_taking_channel hc (straps := straps) ht ho hn
    exact fail (e.trans (State.onChannel_protected (hchan.symm ▸ hb) ((hrole b).2 hbound) (mt (hkey b).1 hkeys) k))
  · rintro rfl hm hb
    have hchan' : (s.ctx cx).command.chanNum = some n := CommandRecord.objectBelow_eq_some.2 hn
    have hmay : (s.granted .cu cx).mayInspect cx n = false :=
      State.mayInspect_eq_false (by simpa using hm) (by simpa only [State.granted_chan] using hb)
    refine fail ?_
    simp [Command.taking, exec, execInspectChannel, State.take_of_takes ht, Command.owner, hchan', hmay]

end Sys2Proof.Machine

namespace Sys2Proof.Machine

/-! ## The register window -/

/-! ### What an operation leaves as it was -/

section Keeps
variable {s t u : State} {A B : List Part}

theorem State.keepsBut.trans (h : s.keepsBut t A) (h' : t.keepsBut u A) : s.keepsBut u A := by
  refine ⟨h'.1.trans h.1, fun q hq => ?_⟩
  have e := h.2 q hq
  have e' := h'.2 q hq
  cases q with
  | messages => exact fun p => (e' p).trans (e p)
  | cuTicks => exact ⟨e'.1.trans e.1, e'.2.trans e.2⟩
  | generator =>
    obtain ⟨h1, h2, h3⟩ := e
    obtain ⟨h1', h2', h3'⟩ := e'
    exact ⟨h1'.trans h1, h2'.trans h2, h3'.trans h3⟩
  | chip =>
    obtain ⟨h1, h2, h3, h4, h5, h6⟩ := e
    obtain ⟨h1', h2', h3', h4', h5', h6'⟩ := e'
    exact ⟨h1'.trans h1, h2'.trans h2, h3'.trans h3, h4'.trans h4, h5'.trans h5, h6'.trans h6⟩
  | ports | arbiters | locks | luTicks | forcing | channels | memory | segments | keys | inspection => exact Eq.trans e' e

theorem State.keepsBut.mono (h : s.keepsBut t A) (hAB : A ⊆ B) : s.keepsBut t B :=
  ⟨h.1, fun q hq => h.2 q fun hA => hq (hAB hA)⟩

theorem State.keepsBut_refl (s : State) (A : List Part) : s.keepsBut s A :=
  ⟨rfl, fun q _ => by cases q <;> simp [State.keeps]⟩

theorem State.keepsBut_modCtx (cx : CtxNum) (f : Context → Context) (A : List Part) : s.keepsBut (s.modCtx cx f) A :=
  ⟨rfl, fun q _ => by cases q <;> simp [State.keeps]⟩

theorem State.keepsBut_mapCtxs (f : CtxNum → Context → Context) (A : List Part) : s.keepsBut (s.mapCtxs f) A :=
  ⟨by simp, fun q _ => by cases q <;> simp [State.keeps]⟩

theorem State.keepsBut_modPort (p : Port) (f : PortInterface → PortInterface) : s.keepsBut (s.modPort p f) [.ports] :=
  ⟨rfl, fun q hq => by cases q <;> simp [State.keeps] at hq ⊢⟩

theorem State.keepsBut_modLink (p : Port) (f : Links → Links) : s.keepsBut (s.modLink p f) [.messages] :=
  ⟨rfl, fun q hq => by cases q <;> simp [State.keeps] at hq ⊢⟩

theorem State.keepsPortsBut_modPort (p : Port) (f : PortInterface → PortInterface) : s.keepsPortsBut (s.modPort p f) p :=
  fun _ hq => State.modPort_port_ne _ _ _ hq

end Keeps

/-! ### Words of a frame (R155, R158) -/

section Words
variable {s : State} {p : Port} {dir : Direction} {a : WindowAddr}

@[simp] theorem State.setFrame_port_self (s : State) (p : Port) (f : Frame) :
    (s.setFrame p f).port p = { s.port p with frame := f } := State.modPort_port_self ..

theorem State.setFrame_port_ne (s : State) {p q : Port} (f : Frame) (h : q ≠ p) : (s.setFrame p f).port q = s.port q :=
  State.modPort_port_ne _ _ _ h

theorem State.setFrame_of_eq {f : Frame} (h : (s.port p).frame = f) : s.setFrame p f = s := by
  subst h
  change ({ s with ports := s.ports.put p (s.ports.at p) } : State) = s
  rw [Table.put_at_self]

/-- A word is taken: its action is made, and the frame moves on. -/
theorem State.word_eq (h : s.takesWord p dir a) {act : State → State} (hf : ((act s).port p).frame = (s.port p).frame) :
    s.word p dir a act = .next ((act s).setFrame p ((s.port p).frame.afterWord dir a)) := by
  rcases State.word_of_takesWord h act with ⟨hnone, e⟩ | ⟨hin, e⟩
  · rw [e, hnone, show Frame.none.afterWord dir a = .none from rfl, State.setFrame_of_eq (hf.trans hnone)]
  · rw [e, hin, show (Frame.inFrame dir a).afterWord dir a = .inFrame dir (nextAddr a) from rfl]

/-- What a word does is what its action does, but for the frame. -/
theorem State.word_changes (h : s.takesWord p dir a) {act : State → State}
    (hf : ((act s).port p).frame = (s.port p).frame) (ho : s.keepsPortsBut (act s) p) (hk : s.keepsBut (act s) [.ports]) :
    ∃ t, s.word p dir a act = .next t ∧ t.contexts = (act s).contexts ∧ s.wordChanges t p dir a ((act s).port p) :=
  ⟨_, State.word_eq h hf, State.setFrame_contexts .., State.setFrame_port_self .., fun q hq =>
    (State.setFrame_port_ne _ _ hq).trans (ho q hq), hk.trans (State.keepsBut_modPort p _)⟩

theorem State.ctx_of_contexts {t u : State} (h : t.contexts = u.contexts) (c : CtxNum) : t.ctx c = u.ctx c := by
  rw [State.ctx, h, State.ctx]

/-- A word whose action changes one context. -/
theorem State.word_modCtx (h : s.takesWord p dir a) {act : State → State} {cx : CtxNum} {f : Context → Context}
    (hact : act s = s.modCtx cx f) : ∃ t, s.word p dir a act = .next t ∧ (∀ c, c ≠ cx → t.ctx c = s.ctx c) ∧
      s.wordChanges t p dir a (s.port p) ∧ t.ctx cx = f (s.ctx cx) := by
  obtain ⟨t, e, hc, hw⟩ := State.word_changes h (act := act) (by rw [hact]; rfl) (by rw [hact]; exact fun _ _ => rfl)
    (by rw [hact]; exact State.keepsBut_modCtx cx f _)
  have hctx (c : CtxNum) : t.ctx c = (s.modCtx cx f).ctx c := hact ▸ State.ctx_of_contexts hc c
  have hport : (act s).port p = s.port p := by rw [hact]; rfl
  exact ⟨t, e, fun c hne => by rw [hctx, State.modCtx_ctx_ne _ _ _ hne], hport ▸ hw, by rw [hctx, State.modCtx_ctx_self]⟩

/-- A word whose action changes the interface of its port, not the frame. -/
theorem State.word_modPort (h : s.takesWord p dir a) {act : State → State} {f : PortInterface → PortInterface}
    (hact : act s = s.modPort p f) (hf : (f (s.port p)).frame = (s.port p).frame) :
    ∃ t, s.word p dir a act = .next t ∧ t.contexts = s.contexts ∧ s.wordChanges t p dir a (f (s.port p)) := by
  obtain ⟨t, e, hc, hw⟩ := State.word_changes h (act := act) (by rw [hact, State.modPort_port_self]; exact hf)
    (by rw [hact]; exact State.keepsPortsBut_modPort p f) (by rw [hact]; exact State.keepsBut_modPort p f)
  rw [hact] at hc
  rw [hact, State.modPort_port_self] at hw
  exact ⟨t, e, hc, hw⟩

end Words

/-! ### Strobes (R6 to R9) -/

section Strobes
variable {s : State} {cx : CtxNum}

theorem ctxAddr_control (c : Fin 4) : ctxAddr c controlOffset = BitVec.ofNat 7 (0x24 + 0x10 * c.val) := by
  revert c
  decide

theorem Context.acked_eq (c : Context) : c.acked = if c.state = .done
    then { c with state := .idle, result := ⟨none, 0, 0, false, false, false⟩ } else c := by
  rcases c.acked_cases with ⟨h, e⟩ | ⟨h, e⟩
  · rw [e, if_pos h]
    rfl
  · rw [e, if_neg h]

/-- Settles O50: an ACK is one update of its context. -/
theorem ackStrobe : Obligations.AckStrobe := by
  intro s cx h
  rw [← ctxAddr_control] at h ⊢
  obtain ⟨t, e, hc, hw, hcx⟩ := State.word_modCtx h (act := fun s => s.ackStrobe cx) rfl
  refine ⟨t, e, hc, hw, hcx.trans (Context.acked_eq _), ?_⟩
  rw [State.doneFlag, ctxOf_portOf_slotOf, hcx]
  rcases (s.ctx cx).acked_cases with ⟨_, e⟩ | ⟨hd, e⟩ <;> rw [e]
  · rfl
  · exact decide_eq_false hd

theorem Context.abortRequested_of_done {c : Context} (h : c.state = .done) :
    c.abortRequested = { c with result := { c.result with abortLate := true } } := by
  unfold Context.abortRequested
  split
  · rename_i hi
    exact nomatch hi.symm.trans h
  · rfl
  · rename_i hd
    exact absurd h hd

theorem Context.abortRequested_of_busy {c : Context} (hi : c.state ≠ .idle) (hd : c.state ≠ .done) :
    (c.abort = none → c.abortRequested = { c with abort := some ⟨0, false⟩ }) ∧ (c.abort ≠ none → c.abortRequested = c) := by
  unfold Context.abortRequested
  split
  · exact absurd ‹_› hi
  · exact absurd ‹_› hd
  · cases c.abort with
    | none => exact ⟨fun _ => rfl, fun h => absurd rfl h⟩
    | some n => exact ⟨nofun, fun _ => rfl⟩

/-- Settles O51: an ABORT is one update of its context, by the state of this. -/
theorem abortStrobe : Obligations.AbortStrobe := by
  intro s cx h
  rw [← ctxAddr_control] at h ⊢
  obtain ⟨t, e, hc, hw, hcx⟩ := State.word_modCtx h (act := fun s => s.abortStrobe cx) rfl
  refine ⟨t, e, hc, hw, ?_⟩
  rw [hcx]
  refine ⟨fun hi => ?_, fun hd => ?_, fun hi hd ha => ?_, fun hi hd ha => ?_⟩
  · rw [Context.abortRequested, hi]
  · exact Context.abortRequested_of_done hd
  · exact (Context.abortRequested_of_busy hi hd).1 ha
  · exact (Context.abortRequested_of_busy hi hd).2 ha

/-! ### GO (R7, R12) -/

/-- Every known code is that of a command, of the unit that R12 gives it. -/
theorem owner_of_known {code : BitVec 8} (h : 1 ≤ code.toNat) (h' : code.toNat ≤ 26) :
    ∃ k, commandOf code = some k ∧ k.owner =
      if code.toNat ≤ 10 then .mu else if code.toNat ≤ 16 then .lu else if code.toNat ≤ 21 then .cu else .su := by
  have key : ∀ n : Fin 26, (commandOf (BitVec.ofNat 8 (n.val + 1))).map Command.owner =
      some (if n.val + 1 ≤ 10 then .mu else if n.val + 1 ≤ 16 then .lu else if n.val + 1 ≤ 21 then .cu else .su) := by
    decide
  have e : code = BitVec.ofNat 8 (code.toNat - 1 + 1) := by
    rw [Nat.sub_add_cancel h, BitVec.ofNat_toNat, BitVec.setWidth_eq]
  have := key ⟨code.toNat - 1, by omega⟩
  rw [← e, Nat.sub_add_cancel h] at this
  exact Option.map_eq_some_iff.1 this

/-- No other code is. -/
theorem commandOf_of_unknown {code : BitVec 8} (h : code.toNat = 0 ∨ 26 < code.toNat) : commandOf code = none := by
  cases hc : commandOf code with
  | none => rfl
  | some k =>
    have hk : k.code = code := by simpa using List.find?_some hc
    obtain ⟨_, hlow, hhigh⟩ := Laws.UnitOwnsCode.commandOf_code k
    rw [hk] at hlow hhigh
    omega

/-- A GO that is refused: GO_REFUSED, and a window error. -/
def State.goRefused (s : State) (cx : CtxNum) (cause : ErrorCause) : State :=
  (s.modCtx cx fun c => { c with goRefused := true }).windowRefusal (portOf cx) cause (ctxAddr (slotOf cx) controlOffset)

theorem State.goStrobe_of_free (hp : (s.port (portOf cx)).state = .online) (hb : (s.ctx cx).state.busy = false) :
    s.goStrobe cx = s.modCtx cx Context.started := by
  simp [State.goStrobe, hp, hb]

theorem State.goStrobe_of_busy (hp : (s.port (portOf cx)).state = .online) (hb : (s.ctx cx).state.busy = true) :
    s.goStrobe cx = s.goRefused cx .contextBusy := by
  simp [State.goStrobe, State.goRefused, hp, hb]

theorem State.goStrobe_of_not_online (hp : (s.port (portOf cx)).state ≠ .online) :
    s.goStrobe cx = s.goRefused cx .portNotOnline := by
  unfold State.goStrobe
  split
  · exact absurd ‹_› hp
  · rfl

/-- What a GO changes first: GO_REFUSED clears, and an old result is acknowledged. -/
def Context.refreshed (c : Context) : Context :=
  { c with goRefused := false, result := if c.state = .done then ⟨none, 0, 0, false, false, false⟩ else c.result }

theorem Context.started_of_known {c : Context} {k : Command} (h : commandOf c.command.code = some k) :
    c.started = { c.refreshed with state := .pending k.owner } := by
  unfold Context.started Context.refreshed
  rcases c.acked_cases with ⟨hd, e⟩ | ⟨hd, e⟩ <;> simp only [e, h, hd, if_true, if_false]
  rfl

theorem Context.started_of_unknown {c : Context} (h : commandOf c.command.code = none) :
    c.started = c.refreshed.completed { code := .badCommand } := by
  unfold Context.started Context.refreshed
  rcases c.acked_cases with ⟨hd, e⟩ | ⟨hd, e⟩ <;> simp only [e, h, hd, if_true, if_false]
  rfl

/-- A refused GO changes GO_REFUSED and the port's window error alone. -/
theorem State.word_goRefused {cause : ErrorCause} (h : s.takesWord (portOf cx) .write (ctxAddr (slotOf cx) controlOffset))
    (hact : s.goStrobe cx = s.goRefused cx cause) :
    ∃ t, exec (.go cx) s = .next t ∧ t.ctx cx = { s.ctx cx with goRefused := true } ∧ (∀ c, c ≠ cx → t.ctx c = s.ctx c) ∧
      s.wordChanges t (portOf cx) .write (ctxAddr (slotOf cx) controlOffset)
        { s.port (portOf cx) with
          windowError := true, errorCause := cause, errorAddr := ctxAddr (slotOf cx) controlOffset } := by
  have hport : (s.goRefused cx cause).port (portOf cx) = { s.port (portOf cx) with
      windowError := true, errorCause := cause, errorAddr := ctxAddr (slotOf cx) controlOffset } :=
    State.modPort_port_self ..
  obtain ⟨t, e, hc, hw⟩ := State.word_changes h (act := fun s => s.goStrobe cx) (by rw [hact, hport])
    (by rw [hact]; exact State.keepsPortsBut_modPort _ _)
    (by rw [hact]; exact (State.keepsBut_modCtx _ _ _).trans (State.keepsBut_modPort _ _))
  have hctx (c : CtxNum) : t.ctx c = (s.modCtx cx fun c => { c with goRefused := true }).ctx c := by
    rw [State.ctx_of_contexts hc, hact]
    rfl
  refine ⟨t, e, by rw [hctx, State.modCtx_ctx_self], fun c hne => by rw [hctx, State.modCtx_ctx_ne _ _ _ hne], ?_⟩
  rw [← hport, ← hact]
  exact hw

/-- Settles O49: a GO of a free context starts it by its code; any other is refused. -/
theorem goIsTakenOrRefused : Obligations.GoIsTakenOrRefused := by
  intro s cx a h
  have ha : a = ctxAddr (slotOf cx) controlOffset := (ctxAddr_control _).symm
  rw [ha] at h
  intro code fresh free refuses taken
  have starts (hp : (s.port (portOf cx)).state = .online) (hf : free) : ∃ t, exec (.go cx) s = .next t ∧ taken t ∧
      t.ctx cx = (s.ctx cx).started := by
    have hb : (s.ctx cx).state.busy = false := by
      rcases hf with hi | hd
      · rw [hi]; rfl
      · rw [hd]; rfl
    obtain ⟨t, e, hc, hw, hcx⟩ := State.word_modCtx h (act := fun s => s.goStrobe cx) (State.goStrobe_of_free hp hb)
    exact ⟨t, e, ⟨hc, ha ▸ hw⟩, hcx⟩
  have refused (cause : ErrorCause) (hact : s.goStrobe cx = s.goRefused cx cause) :
      ∃ t, exec (.go cx) s = .next t ∧ refuses t cause := by
    simp only [refuses, ha]
    exact State.word_goRefused h hact
  refine ⟨fun hp hf hlow hhigh => ?_, fun hp hf hcode => ?_, fun hp hf => ?_, fun hp => ?_⟩
  · obtain ⟨k, hk, howner⟩ := owner_of_known hlow hhigh
    obtain ⟨t, e, ht, hcx⟩ := starts hp hf
    exact ⟨t, e, ht, by rw [hcx, Context.started_of_known hk, howner]; rfl⟩
  · obtain ⟨t, e, ht, hcx⟩ := starts hp hf
    refine ⟨t, e, ht, ?_⟩
    rw [hcx, Context.started_of_unknown (commandOf_of_unknown hcode)]
    exact Context.ended_completed _ _
  · exact refused _ (State.goStrobe_of_busy hp ((CtxState.busy_iff _).2 (not_or.1 hf)))
  · exact refused _ (State.goStrobe_of_not_online hp)

end Strobes

end Sys2Proof.Machine

namespace Sys2Proof.Machine

/-! ## Ports and their withdrawals -/

section Clearing
variable {s : State} {p : Port}

theorem ReadLatch.withoutPop_eq (l : ReadLatch) : l.withoutPop = l.afterClearing := by
  unfold ReadLatch.withoutPop ReadLatch.afterClearing
  cases h : l.source <;> simp [← h]

theorem PortInterface.cleared_keepsSerial (i : PortInterface) : i.keepsSerial i.cleared :=
  ⟨rfl, by rw [PortInterface.cleared, funext ReadLatch.withoutPop_eq]⟩

theorem PortInterface.cleared_atReset {i : PortInterface} (h : i.state = .offline) : i.cleared.atReset := by
  simp [PortInterface.atReset, PortInterface.cleared, PortInterface.reset, h]

theorem Context.reset_atReset : Context.reset.atReset := by
  simp [Context.atReset, Context.reset, CommandRecord.zero, ResultRecord.cleared]

theorem State.portResetClearing_port_self (s : State) (p : Port) : (s.portResetClearing p).port p = (s.port p).cleared := by
  simp [State.portResetClearing]

theorem State.portResetClearing_ctx (s : State) (p : Port) (c : CtxNum) :
    (s.portResetClearing p).ctx c = if portOf c = p then Context.reset else s.ctx c := by
  simp [State.portResetClearing]

theorem State.portResetClearing_keeps (s : State) (p : Port) :
    s.keepsBut (s.portResetClearing p) [.ports] ∧ s.keepsPortsBut (s.portResetClearing p) p := by
  refine ⟨(State.keepsBut_mapCtxs _ _).trans (State.keepsBut_modPort p _), fun q hq => ?_⟩
  simp [State.portResetClearing, hq]

theorem State.detachAction_of_not_online (h : (s.port p).state ≠ .online) : s.detachAction p = s := by
  unfold State.detachAction
  split
  · exact absurd ‹_› h
  · rfl

/-- Settles O43: the actions do nothing, set the mark, or clear the window, by the port state. -/
theorem portActionsElsewhere : Obligations.PortActionsElsewhere := by
  intro s p
  refine ⟨fun h hp => ?_, fun n hr hp hn => ?_, fun acks mark h hp => ?_, fun h hp => ?_⟩
  · have hact : s.detachAction p = s := State.detachAction_of_not_online hp
    obtain ⟨t, e, hc, hw⟩ := State.word_changes h (act := fun s => s.detachAction p) (by rw [hact])
      (by rw [hact]; exact fun _ _ => rfl) (by rw [hact]; exact s.keepsBut_refl _)
    rw [hact] at hc hw
    exact ⟨t, e, hw, hc⟩
  · have e : exec (.evictionOrder p) s = .next (s.modLink p fun k => { k with evictions := n }) := by
      have hact := State.detachAction_of_not_online (s := s.modLink p fun k => { k with evictions := n }) hp
      simp [exec, execEvictionOrder, State.live, hr, hn, hact]
    exact ⟨_, e, rfl, State.keepsBut_modLink p _, fun q hq => State.modLink_link_ne _ _ _ hq, State.modLink_link_self ..⟩
  · have hact : s.portResetAction p = s.modPort p fun i => { i with state := .withdrawing acks true } := by
      simp [State.portResetAction, hp]
    obtain ⟨t, e, hc, hw⟩ := State.word_modPort h (act := fun s => s.portResetAction p) hact rfl
    exact ⟨t, e, hw, hc⟩
  · have hact : s.portResetAction p = s.portResetClearing p := by simp [State.portResetAction, hp]
    obtain ⟨hk, ho⟩ := s.portResetClearing_keeps p
    obtain ⟨t, e, hc, hport, hothers, hkeeps⟩ := State.word_changes h (act := fun s => s.portResetAction p)
      (by rw [hact, State.portResetClearing_port_self]; rfl) (by rwa [hact]) (by rwa [hact])
    have hctx (c : CtxNum) : t.ctx c = if portOf c = p then Context.reset else s.ctx c := by
      rw [State.ctx_of_contexts hc, hact, State.portResetClearing_ctx]
    rw [hact, State.portResetClearing_port_self] at hport
    refine ⟨t, e, hkeeps, hothers, ?_, ?_, ?_, fun c => ?_, fun c hne => ?_⟩
    · rw [hport]
      exact PortInterface.cleared_atReset hp
    · rw [hport]
      exact (s.port p).cleared_keepsSerial
    · rw [hport]
    · rw [hctx, if_pos (portOf_ctxOf p c)]
      exact Context.reset_atReset
    · rw [hctx, if_neg hne]

end Clearing

/-! ### Acknowledgements (R139 to R142) -/

section Acknowledged
variable {s : State} {p : Port}

theorem exec_withdrawalAck {u : UnitId} (hr : s.resetHeld = false) (h : (s.link p).ackNext u) :
    exec (.withdrawalAck p u) s = .next ((s.modLink p fun k => k.withoutAck u).acknowledged p u) := by
  cases u with
  | mu | cu | su =>
    unfold Links.ackNext at h
    simp only [exec, execWithdrawalAck, State.live, hr, h, if_true, Bool.false_eq_true, if_false]
    rfl
  | lu =>
    obtain ⟨rest, hrest⟩ := List.head?_eq_some_iff.1 h
    have e : (s.modLink p fun k => { k with fromLu := rest }) = s.modLink p fun k => k.withoutAck .lu := by
      simp [State.modLink, Links.withoutAck, hrest]
    simp only [exec, execWithdrawalAck, State.live, hr, hrest, Bool.false_eq_true, if_false, e]

theorem State.portAtRest_iff :
    s.portAtRest p = true ↔ ∀ c, (s.ctx (ctxOf p c)).state = .idle ∨ (s.ctx (ctxOf p c)).state = .done := by
  simp only [State.portAtRest, State.anyOfPort, Bool.not_eq_true', List.any_eq_false, mem_allSlots, true_implies,
    CtxState.busy_iff, not_and_or, not_not]

theorem State.testWithdrawal_eq {acks : PerUnit Bool} {mark : Bool} (h : (s.port p).state = .withdrawing acks mark) :
    s.testWithdrawal p = if allAcked acks && s.portAtRest p then s.completeWithdrawal p mark else s := by
  rw [State.testWithdrawal, h]

/-- What the completion of a withdrawal leaves as it was. -/
theorem State.completeWithdrawal_keeps (s : State) (p : Port) (mark : Bool) :
    s.keepsBut (s.completeWithdrawal p mark) [.ports] ∧ s.keepsPortsBut (s.completeWithdrawal p mark) p ∧
      ∀ c, portOf c ≠ p → (s.completeWithdrawal p mark).ctx c = s.ctx c := by
  have hk : s.keepsBut ((s.modPortCtxs p Context.released).modPort p PortInterface.withdrawn) [.ports] :=
    (State.keepsBut_mapCtxs _ _).trans (State.keepsBut_modPort p _)
  have ho : s.keepsPortsBut ((s.modPortCtxs p Context.released).modPort p PortInterface.withdrawn) p :=
    fun q hq => by simp [hq]
  cases mark with
  | false => exact ⟨hk, ho, fun c hc => by simp [State.completeWithdrawal, hc]⟩
  | true =>
    obtain ⟨hk', ho'⟩ := State.portResetClearing_keeps ((s.modPortCtxs p Context.released).modPort p PortInterface.withdrawn) p
    exact ⟨hk.trans hk', fun q hq => (ho' q hq).trans (ho q hq), fun c hc => by
      simp [State.completeWithdrawal, State.portResetClearing_ctx, hc]⟩

/-- The port and its contexts after a completion without the mark. -/
theorem State.completeWithdrawal_false (s : State) (p : Port) :
    (s.completeWithdrawal p false).port p = (s.port p).withdrawn ∧
      ∀ c, (s.completeWithdrawal p false).ctx (ctxOf p c) = (s.ctx (ctxOf p c)).released := by
  simp [State.completeWithdrawal]

/-- And with the mark. -/
theorem State.completeWithdrawal_true (s : State) (p : Port) :
    (s.completeWithdrawal p true).port p = (s.port p).withdrawn.cleared ∧
      ∀ c, (s.completeWithdrawal p true).ctx (ctxOf p c) = Context.reset := by
  simp [State.completeWithdrawal, State.portResetClearing]

/-- Settles O47: the completion test after the acknowledgement has been added. -/
theorem withdrawalAcknowledged : Obligations.WithdrawalAcknowledged := by
  intro s p u acks mark hr hp ha full
  set t := (s.modLink p fun k => k.withoutAck u).modPort p fun i =>
    { i with state := .withdrawing (acks.set u true) mark } with ht
  have htp : t.port p = { s.port p with state := .withdrawing (acks.set u true) mark } := by simp [ht]
  have htc (c : CtxNum) : t.ctx c = s.ctx c := rfl
  have hfull : full ↔ (allAcked (acks.set u true) && t.portAtRest p) = true := by
    simp only [full, allAcked, Bool.and_eq_true, State.portAtRest_iff, htc, and_assoc]
  have hk : s.keepsBut t [.ports, .messages] :=
    ((State.keepsBut_modLink p _).mono (by simp)).trans ((State.keepsBut_modPort p _).mono (by simp))
  have ho : s.keepsPortsBut t p := fun q hq => by simp [ht, hq]
  have hl (q : Port) (hq : q ≠ p) : t.link q = s.link q := by simp [ht, hq]
  have hlp : t.link p = (s.link p).withoutAck u := by simp [ht]
  have e : exec (.withdrawalAck p u) s =
      .next (if allAcked (acks.set u true) && t.portAtRest p then t.completeWithdrawal p mark else t) := by
    rw [exec_withdrawalAck hr ha, State.acknowledged_eq (s := s.modLink p fun k => k.withoutAck u) hp,
      State.testWithdrawal_eq (s := t) (by rw [htp])]
  by_cases hf : full
  · rw [e, if_pos (hfull.1 hf)]
    obtain ⟨hk', ho', hc'⟩ := t.completeWithdrawal_keeps p mark
    refine ⟨_, rfl, hk.trans (hk'.mono (by simp)), fun q hq => (ho' q hq).trans (ho q hq), fun q hq => ?_, ?_,
      fun c hc => (hc' c hc).trans (htc c), fun h => absurd hf h, ?_, ?_⟩
    · rw [State.completeWithdrawal_link, hl q hq]
    · rw [State.completeWithdrawal_link, hlp]
    · rintro - rfl
      obtain ⟨hport, hctx⟩ := t.completeWithdrawal_false p
      exact ⟨by rw [hport, htp]; rfl, fun c => by rw [hctx, htc]; rfl⟩
    · rintro - rfl
      obtain ⟨hport, hctx⟩ := t.completeWithdrawal_true p
      rw [hport, htp]
      refine ⟨PortInterface.cleared_atReset rfl, rfl, PortInterface.cleared_keepsSerial _, fun c => ?_⟩
      rw [hctx]
      exact Context.reset_atReset
  · rw [e, if_neg fun h => hf (hfull.2 h)]
    exact ⟨_, rfl, hk, ho, hl, hlp, fun c _ => htc c, fun _ => ⟨rfl, htp⟩, fun h => absurd h hf, fun h => absurd h hf⟩

end Acknowledged

end Sys2Proof.Machine

namespace Sys2Proof.Machine

/-! ## Notices -/

/-! ### Completions -/

section Completions
variable {s : State}

/-- A completion changes its own context alone. -/
theorem State.complete_changes (h : s.settled) (cx : CtxNum) (r : Answer) :
    (∀ A, s.keepsBut (s.complete cx r) A) ∧ (∀ c, c ≠ cx → (s.complete cx r).ctx c = s.ctx c) ∧
      s.ends (s.complete cx r) cx r := by
  rw [State.complete_of_settled h]
  refine ⟨State.keepsBut_modCtx cx _, fun c hc => State.modCtx_ctx_ne _ _ _ hc, ?_⟩
  rw [State.ends, State.modCtx_ctx_self]
  exact Context.ended_completed _ _

theorem State.keepsContextsBut_of_eq {t : State} {cs : List CtxNum} (h : ∀ c, c ∉ cs → t.ctx c = s.ctx c) :
    s.keepsContextsBut t cs := fun c hc => by rw [h c hc]

/-- The cancellations of a port's requests write contexts alone. -/
theorem State.keepsBut_cancelAll (h : s.settled) (p : Port) (x : CtxState) (A : List Part) :
    s.keepsBut (s.cancelAll p x) A := by
  unfold State.cancelAll
  induction allSlots generalizing s with
  | nil => exact s.keepsBut_refl A
  | cons c cs ih =>
    rw [List.foldl_cons]
    split
    · exact ((State.complete_changes h _ _).1 A).trans (ih (State.complete_settled h _ _))
    · exact ih h

end Completions

theorem Context.stopFill_isActive (which : Fill → Bool) (r : StopReason) (c : Context) :
    (c.stopFill which r).state.isActive = c.state.isActive := by
  unfold Context.stopFill
  split
  · rename_i f hf
    split <;> simp [hf, CtxState.isActive]
  · rfl

/-! ### Abort notices (R16, R103) -/

theorem Fill.stopped_eq (f : Fill) (r : StopReason) : f.stopped r = f.stoppedBy r := by
  cases f with
  | mk segment start count zeroed stop => cases stop <;> rfl

/-- A running fill gets a stop reason. -/
theorem Context.stopFill_of_active {c : Context} {f : Fill} (h : c.state = .active f) (r : StopReason) :
    c.stopFill (fun _ => true) r = { c with state := .active (f.stoppedBy r) } := by
  simp [Context.stopFill, h, Fill.stopped_eq]

/-- A context without a running fill gets none. -/
theorem Context.stopFill_of_not_active {c : Context} (h : c.state.isActive = false) (which : Fill → Bool) (r : StopReason) :
    c.stopFill which r = c := by
  unfold Context.stopFill
  split
  · rename_i f hf
    rw [hf] at h
    exact nomatch h
  · rfl

/-- Settles O40: the two commands, where their notice stands. -/
theorem abortOfPendingAndOfFill : Obligations.AbortOfPendingAndOfFill := by
  refine ⟨fun s cx u hs hr hst hab hmid => ?_, fun s cx f n hr hst hab htaken => ?_⟩
  · have hmarker : (s.ctx cx).marker = true := Option.isSome_iff_ne_none.2 hab
    have e : exec (.abortNoticePending cx) s = .next (s.complete cx { code := .aborted }) := by
      simp [exec, execAbortNoticePending, State.live, hr, hst, hmarker, hmid]
    obtain ⟨hk, hc, hends⟩ := State.complete_changes hs cx { code := .aborted }
    exact ⟨_, e, hk [], State.keepsContextsBut_of_eq fun c hne => hc c (by simpa using hne), hends⟩
  · have e : exec (.fillAbort cx) s = .next (s.modCtx cx fun c =>
        { c.stopFill (fun _ => true) .aborted with abort := some { n with taken := true } }) := by
      simp [exec, execFillAbort, State.live, hr, hst, hab, htaken]
    refine ⟨_, e, State.keepsBut_modCtx cx _ _, State.keepsContextsBut_of_eq fun c hne => ?_, ?_⟩
    · exact State.modCtx_ctx_ne _ _ _ (by simpa using hne)
    · rw [State.modCtx_ctx_self, Context.stopFill_of_active hst]

/-! ### Withdrawal notices (R17, R104) -/

section Withdrawal
variable {s : State} {p : Port} {u : UnitId}

/-- The notices of the four units are one operation, with each unit's own part. -/
theorem exec_withdrawalNoticeAt (u : UnitId) (p : Port) (stage : NoticeStep) (s : State) :
    ∃ act, exec (withdrawalNoticeAt u p stage) s = s.withdrawalNotice p u stage act := by
  cases u with
  | mu =>
    simp only [withdrawalNoticeAt, exec, execMuWithdrawalNotice]
    exact ⟨_, rfl⟩
  | lu =>
    simp only [withdrawalNoticeAt, exec, execLuWithdrawalNotice]
    exact ⟨_, rfl⟩
  | cu =>
    simp only [withdrawalNoticeAt, exec, execCuWithdrawalNotice]
    exact ⟨_, rfl⟩
  | su =>
    simp only [withdrawalNoticeAt, exec, execSuWithdrawalNotice]
    exact ⟨_, rfl⟩

/-- A notice in transit arrives. -/
theorem State.withdrawalNotice_arrives (hr : s.resetHeld = false) (hn : (s.link p).notices.get u = .inTransit)
    (act : State → State) : s.withdrawalNotice p u .arrive act =
      .next (s.modLink p fun k => { k with notices := k.notices.set u (.standing 0) }) := by
  simp [State.withdrawalNotice, State.live, hr, hn]

/-- A notice that the unit takes now. -/
theorem State.withdrawalNotice_taken (h : s.takesNotice p u) (act : State → State) :
    s.withdrawalNotice p u .take act = .next (act (s.dropNotice p u)) := by
  obtain ⟨hr, hn, hmid⟩ := h
  cases hk : (s.link p).notices.get u <;> simp [State.withdrawalNotice, State.live, hr, hk, hmid, State.dropNotice] at hn ⊢

theorem State.muSettle_eq (s : State) (p : Port) : s.muSettle p =
    if (s.link p).muOwesAck && !s.anyOfPort p (fun c => c.state.isActive) then
      s.modLink p fun k => { k with muOwesAck := false, muAck := true }
    else s := rfl

theorem State.muSettle_link_ne {q : Port} (h : q ≠ p) : (s.muSettle p).link q = s.link q := by
  rw [State.muSettle_eq]
  split
  · exact State.modLink_link_ne _ _ _ h
  · rfl

theorem State.keepsBut_muSettle (p : Port) : s.keepsBut (s.muSettle p) [.messages] := by
  rw [State.muSettle_eq]
  split
  · exact State.keepsBut_modLink _ _
  · exact State.keepsBut_refl _ _

theorem State.anyOfPort_isActive :
    s.anyOfPort p (fun c => c.state.isActive) = true ↔ ∃ c : Fin 4, (s.ctx (ctxOf p c)).state.isActive = true := by
  simp [State.anyOfPort]

/-- The contexts after MU's part in a withdrawal: PENDING requests cancelled, fills stopped. -/
theorem State.ctx_muWithdraw (hs : s.settled) (p : Port) (c : CtxNum) : (s.muWithdraw p).ctx c =
    if portOf c = p then
      if (s.ctx c).state = .pending .mu then (s.ctx c).completed { code := .cancelled }
      else (s.ctx c).stopFill (fun _ => true) .cancelled
    else s.ctx c := by
  rw [State.muWithdraw, State.muSettle_ctx, State.modLink_ctx, State.modPortCtxs_ctx, State.ctx_cancelAll hs p (t := .pending .mu) nofun]
  by_cases hp : portOf c = p
  · by_cases hst : (s.ctx c).state = .pending .mu
    · rw [if_pos hp, if_pos hp, if_pos ⟨hp, hst⟩, if_pos hst]
      exact Context.stopFill_of_not_active rfl _ _
    · rw [if_pos hp, if_pos hp, if_neg fun h => hst h.2, if_neg hst]
  · rw [if_neg hp, if_neg hp, if_neg fun h => hp h.1]

/-- MU's part leaves no fill's end behind it: the running fills still run. -/
theorem State.isActive_muWithdraw (hs : s.settled) (p : Port) (c : CtxNum) :
    ((s.muWithdraw p).ctx c).state.isActive = (s.ctx c).state.isActive := by
  rw [State.ctx_muWithdraw hs]
  split
  · split
    · rename_i h
      rw [h]
      rfl
    · exact Context.stopFill_isActive _ _ _
  · rfl

/-- The messages after MU's part: the answer at once, unless a fill runs. -/
theorem State.link_muWithdraw (hs : s.settled) (p : Port) :
    ((∃ c : Fin 4, (s.ctx (ctxOf p c)).state.isActive = true) →
      (s.muWithdraw p).link p = { s.link p with muOwesAck := true }) ∧
    (¬ (∃ c : Fin 4, (s.ctx (ctxOf p c)).state.isActive = true) →
      (s.muWithdraw p).link p = { s.link p with muOwesAck := false, muAck := true }) := by
  have hact (c : Fin 4) := State.isActive_muWithdraw hs p (ctxOf p c)
  simp only [State.muWithdraw, State.muSettle_ctx] at hact ⊢
  simp only [← hact]
  rw [State.muSettle_eq, ← State.anyOfPort_isActive, State.modLink_link_self]
  refine ⟨fun h => ?_, fun h => ?_⟩
  · rw [h]
    simp
  · rw [Bool.eq_false_iff.2 h]
    simp

/-- MU's part writes contexts and its port's messages alone. -/
theorem State.muWithdraw_changes (hs : s.settled) (p : Port) :
    s.keepsBut (s.muWithdraw p) [.messages] ∧ ∀ q, q ≠ p → (s.muWithdraw p).link q = s.link q := by
  constructor
  · have hcancel := State.keepsBut_cancelAll hs p (.pending .mu) [.messages]
    refine hcancel.trans ((State.keepsBut_mapCtxs _ _).trans ((State.keepsBut_modLink _ _).trans (State.keepsBut_muSettle p)))
  · intro q hq
    rw [State.muWithdraw, State.muSettle_link_ne hq, State.modLink_link_ne _ _ _ hq, State.modPortCtxs_link,
      State.cancelAll_link]

end Withdrawal

/-- Settles O44: the notice's arrival, then MU's part. -/
theorem muWithdrawalNotice : Obligations.MuWithdrawalNotice := by
  refine ⟨fun s p u hr hn => ?_, fun s p hs ht => ?_⟩
  · obtain ⟨act, e⟩ := exec_withdrawalNoticeAt u p .arrive s
    rw [e, State.withdrawalNotice_arrives hr hn]
    exact ⟨_, rfl, rfl, State.keepsBut_modLink _ _, fun q hq => State.modLink_link_ne _ _ _ hq,
      State.modLink_link_self _ _ _⟩
  · have e : exec (.muWithdrawalNotice p .take) s = .next ((s.dropNotice p .mu).muWithdraw p) := by
      simp only [exec, execMuWithdrawalNotice]
      exact State.withdrawalNotice_taken ht _
    have hs' : (s.dropNotice p .mu).settled := hs
    obtain ⟨hkeeps, hlinks⟩ := State.muWithdraw_changes hs' p
    obtain ⟨hfills, hnone⟩ := State.link_muWithdraw hs' p
    have hctx (c : CtxNum) := State.ctx_muWithdraw hs' p c
    have hc (c : CtxNum) : (s.dropNotice p .mu).ctx c = s.ctx c := rfl
    simp only [hc] at hctx hfills hnone
    refine ⟨_, e, (State.keepsBut_modLink _ _).trans hkeeps, ?_, ?_, ?_, ?_, ?_, ?_, ?_⟩
    · intro c hp
      rw [hctx, if_neg hp]
    · intro c hp hst
      rw [State.ends, hctx, if_pos hp, if_pos hst]
      exact Context.ended_completed _ _
    · intro c f hp hst
      rw [hctx, if_pos hp, if_neg (by rw [hst]; nofun), Context.stopFill_of_active hst]
    · intro c hp hst hact
      rw [hctx, if_pos hp, if_neg hst, Context.stopFill_of_not_active hact]
    · intro q hq
      rw [hlinks q hq]
      exact State.modLink_link_ne _ _ _ hq
    · intro h
      rw [hfills h, State.dropNotice, State.modLink_link_self]
    · intro h
      rw [hnone h, State.dropNotice, State.modLink_link_self]

end Sys2Proof.Machine

namespace Sys2Proof.Machine

/-! ## Words made of fields

`field a x` places `x` at bit `a` of a word. What a bit range of such a word reads is said here once; a register word is
an OR of fields that do not overlap. -/

section Fields
variable {n : Nat} {a k m : Nat}

theorem getLsbD_field (a : Nat) (x : BitVec n) (i : Nat) :
    (field a x).getLsbD i = (decide (i < 32) && decide (a ≤ i) && x.getLsbD (i - a)) := by
  unfold field
  rw [BitVec.getLsbD_shiftLeft, BitVec.getLsbD_setWidth]
  by_cases h : i < 32
  · have hlt : i - a < 32 := by omega
    by_cases ha : a ≤ i
    · simp [h, ha, hlt]
    · simp [h, ha, Nat.not_le.1 ha]
  · simp [h]

theorem getLsbD_flag (a : Nat) (b : Bool) (i : Nat) : (flag a b).getLsbD i = (decide (i < 32) && decide (i = a) && b) := by
  unfold flag
  rw [getLsbD_field, BitVec.getLsbD_ofBool]
  by_cases h : i = a
  · simp [h]
  · by_cases ha : a ≤ i
    · have : i - a ≠ 0 := by omega
      simp [h, this]
    · simp [h, ha]

/-- A field reads back at its place. -/
@[simp] theorem extractLsb'_field_self (x : BitVec n) (h : a + n ≤ 32) : (field a x).extractLsb' a n = x := by
  refine BitVec.eq_of_getLsbD_eq fun i hi => ?_
  have h1 : a + i < 32 := by omega
  rw [BitVec.getLsbD_extractLsb', getLsbD_field]
  simp [hi, h1]

/-- Beside a field its word reads 0. -/
@[simp] theorem extractLsb'_field_of_disjoint (x : BitVec n) (h : k + m ≤ a ∨ a + n ≤ k) : (field a x).extractLsb' k m = 0#m := by
  refine BitVec.eq_of_getLsbD_eq fun i hi => ?_
  rw [BitVec.getLsbD_extractLsb', getLsbD_field, BitVec.getLsbD_zero]
  rcases h with h | h
  · have h1 : ¬ a ≤ k + i := by omega
    simp [h1]
  · have h1 : n ≤ k + i - a := by omega
    simp [BitVec.getLsbD_of_ge x _ h1]

/-- Beside a flag its word reads 0. -/
@[simp] theorem extractLsb'_flag_of_disjoint (b : Bool) (h : k + m ≤ a ∨ a + 1 ≤ k) : (flag a b).extractLsb' k m = 0#m :=
  extractLsb'_field_of_disjoint _ h

/-- The bits of a field, and of a flag. -/
@[simp] theorem getElem_field (x : BitVec n) (hk : k < 32) : (field a x)[k] = (decide (a ≤ k) && x.getLsbD (k - a)) := by
  rw [← BitVec.getLsbD_eq_getElem, getLsbD_field, decide_eq_true hk, Bool.true_and]

@[simp] theorem getElem_flag (b : Bool) (hk : k < 32) : (flag a b)[k] = (decide (k = a) && b) := by
  rw [← BitVec.getLsbD_eq_getElem, getLsbD_flag, decide_eq_true hk, Bool.true_and]

/-- A range of a word, placed where it was, is the word under the range's mask. -/
theorem field_extractLsb' (w : Word) (a n : Nat) :
    field a (w.extractLsb' a n) = w &&& field a (BitVec.allOnes n) := by
  refine BitVec.eq_of_getLsbD_eq fun i hi => ?_
  rw [BitVec.getLsbD_and, getLsbD_field, getLsbD_field, BitVec.getLsbD_extractLsb', BitVec.getLsbD_allOnes]
  by_cases ha : a ≤ i
  · rw [Nat.add_sub_cancel' ha]
    cases w.getLsbD i <;> simp [hi, ha]
  · simp [ha]

/-- A bit of a word, placed where it was, is the word under the bit's mask. -/
theorem flag_getLsbD (w : Word) (a : Nat) : flag a (w.getLsbD a) = w &&& flag a true := by
  refine BitVec.eq_of_getLsbD_eq fun i _ => ?_
  rw [BitVec.getLsbD_and, getLsbD_flag, getLsbD_flag]
  by_cases h : i = a
  · rw [h]
    cases w.getLsbD a <;> simp
  · simp [h]

/-- A field at bit 0 is the value itself, in a word. -/
theorem field_zero (x : BitVec n) : field 0 x = x.setWidth 32 := by
  simp [field]

end Fields

end Sys2Proof.Machine

namespace Sys2Proof.Machine

/-! ## INSPECT PORT item by item (R127) -/

section Inspect
variable {s : State} {cx : CtxNum} {p : Port} {g : Inspection}

/-- The answer's VALUE packs the port state and the four context states. -/
theorem packsInspection_answer (a : BitVec 2) (b : Table (BitVec 3) 4) (n : Nat) :
    packsInspection (inspectPortAnswer a b n).value a b.at := by
  refine ⟨?_, ?_, ?_, ?_⟩
  · simp [inspectPortAnswer, BitVec.extractLsb'_or]
  · simp [inspectPortAnswer, BitVec.extractLsb'_or]
  · rintro ⟨c, hc⟩
    interval_cases c <;> simp [inspectPortAnswer, BitVec.extractLsb'_or]
  · simp [inspectPortAnswer, BitVec.extractLsb'_or]

/-- The step that has read nothing yet. -/
def Inspection.fresh (cx : CtxNum) (p : Port) : Inspection := ⟨cx, p, none, none, none⟩

/-- The port that a command names. -/
theorem CommandRecord.portNum_eq {r : CommandRecord} (h : r.object.toNat = p.val) : r.portNum = some p :=
  CommandRecord.objectBelow_eq_some.2 h

theorem Inspection.fresh_lacks (cx : CtxNum) (p : Port) (i : InspectItem) : (Inspection.fresh cx p).lacks i := by
  cases i <;> rfl

theorem Inspection.read_lacks {i j : InspectItem} (g : Inspection) (s : State) :
    (g.read i s).lacks j ↔ j ≠ i ∧ g.lacks j := by
  cases i <;> cases j <;> simp [Inspection.read, Inspection.lacks]

/-- The state with SU's step of an INSPECT PORT replaced. -/
def State.inspecting (s : State) (x : Option Inspection) : State := { s with inspection := x }

@[simp] theorem State.inspecting_ctx (x : Option Inspection) (c : CtxNum) : (s.inspecting x).ctx c = s.ctx c := rfl

@[simp] theorem State.inspecting_resetHeld (x : Option Inspection) : (s.inspecting x).resetHeld = s.resetHeld := rfl

theorem State.inspecting_inspecting (x y : Option Inspection) : (s.inspecting x).inspecting y = s.inspecting y := rfl

theorem State.inspecting_of_eq {x : Option Inspection} (h : s.inspection = x) : s.inspecting x = s := by
  rw [← h]
  rfl

theorem State.keepsBut_inspecting (x : Option Inspection) : s.keepsBut (s.inspecting x) [.inspection] := by
  refine ⟨rfl, fun q hq => ?_⟩
  cases q <;> simp_all [State.keeps, State.inspecting, State.link]

theorem State.inspectionStands_lacks {i : InspectItem} (h : g.lacks i) :
    s.inspectionStands g = s.inspecting (some g) :=
  State.inspectionStands_of_lacks s h

/-- With no item lacking, all three have been read. -/
theorem Inspection.exists_of_not_lacks (h : ∀ i, ¬ g.lacks i) :
    ∃ a b n, g.portState = some a ∧ g.contexts = some b ∧ g.locks = some n := by
  obtain ⟨a, ha⟩ := Option.ne_none_iff_exists'.1 (h .portState)
  obtain ⟨b, hb⟩ := Option.ne_none_iff_exists'.1 (h .contextStates)
  obtain ⟨n, hn⟩ := Option.ne_none_iff_exists'.1 (h .locksHeld)
  exact ⟨a, b, n, ha, hb, hn⟩

/-- With no item lacking the step ends. -/
theorem State.inspectionStands_complete {a : BitVec 2} {b : Table (BitVec 3) 4} {n : Nat} (ha : g.portState = some a)
    (hb : g.contexts = some b) (hn : g.locks = some n) :
    s.inspectionStands g = (s.inspecting none).complete g.ctx (inspectPortAnswer a b n) :=
  State.inspectionStands_of_read s ha hb hn

/-- A read looks at the board alone, not at the step that it is of. -/
theorem Inspection.read_inspecting (g : Inspection) (i : InspectItem) (s : State) (x : Option Inspection) :
    g.read i (s.inspecting x) = g.read i s := by
  cases i <;> rfl

/-- A request that SU takes leaves what the items read as it was. -/
theorem Inspection.readsItem_granted (g h : Inspection) (i : InspectItem) (u : UnitId) (cx : CtxNum) :
    (s.granted u cx).readsItem g h i ↔ s.readsItem g h i := by
  simp [State.readsItem, State.locksOf]

/-- The first read takes the request. -/
theorem exec_inspectItem_first (ht : s.takes .inspectPort cx) (hp : (s.ctx cx).command.object.toNat = p.val)
    (i : InspectItem) : exec (.inspectPort cx (.item i)) s =
      .next ((s.granted .su cx).inspecting (some ((Inspection.fresh cx p).read i (s.granted .su cx)))) := by
  have hn : s.inspection = none := State.inspection_of_takes ht rfl
  have hport : ((s.granted .su cx).ctx cx).command.portNum = some p :=
    CommandRecord.portNum_eq (by simpa using hp)
  have hlacks : ∃ j, ((Inspection.fresh cx p).read i (s.granted .su cx)).lacks j := by
    cases i with
    | portState => exact ⟨.contextStates, (Inspection.read_lacks _ _).2 ⟨nofun, rfl⟩⟩
    | contextStates => exact ⟨.locksHeld, (Inspection.read_lacks _ _).2 ⟨nofun, rfl⟩⟩
    | locksHeld => exact ⟨.portState, (Inspection.read_lacks _ _).2 ⟨nofun, rfl⟩⟩
  obtain ⟨j, hj⟩ := hlacks
  simp only [exec, execInspectPort, State.inspectItem, hn]
  rw [State.take_of_takes ht]
  simp only [Command.owner, hport, State.onTarget]
  exact congrArg _ ((s.granted .su cx).inspectionStands_lacks hj)

/-- A later read is of the step that the first one began. -/
theorem exec_inspectItem_next (hr : s.resetHeld = false) (hg : s.inspection = some g) (hcx : g.ctx = cx)
    (hst : (s.ctx cx).state = .pending .su) (hcode : (s.ctx cx).command.code = 0x19) (i : InspectItem) :
    exec (.inspectPort cx (.item i)) s = .next (s.inspectionStands (g.read i s)) := by
  have hcode' : (s.ctx cx).command.code = Command.inspectPort.code := hcode
  simp only [exec, execInspectPort, State.inspectItem, hg]
  rw [State.live, hr, if_neg (by simp), if_pos ⟨hcx, hst, hcode'⟩]

/-- The command as one step. -/
theorem exec_inspectPort_whole (ht : s.takes .inspectPort cx) (hp : (s.ctx cx).command.object.toNat = p.val) :
    exec (.inspectPort cx .whole) s = .next ((s.granted .su cx).complete cx
      (inspectPortAnswer (s.port p).state.bits ((s.granted .su cx).portContexts p) ((s.granted .su cx).locksHeld p))) := by
  have hport : ((s.granted .su cx).ctx cx).command.portNum = some p :=
    CommandRecord.portNum_eq (by simpa using hp)
  simp only [exec, execInspectPort]
  rw [State.take_of_takes ht]
  simp only [Command.owner, hport, State.onTarget, State.granted_port]

/-- Three reads of three items, in any order, read them all. -/
theorem Inspection.read_all {i j k : InspectItem} (hij : i ≠ j) (hjk : j ≠ k) (hik : i ≠ k) (cx : CtxNum) (p : Port)
    (s : State) : (((Inspection.fresh cx p).read i s).read j s).read k s =
      ⟨cx, p, some (s.port p).state.bits, some (s.portContexts p), some (s.locksHeld p)⟩ := by
  cases i <;> cases j <;> cases k <;> first | contradiction | rfl

/-- A later read of the step in which SU has taken the request. -/
theorem exec_inspectItem_taken (hr : s.resetHeld = false) (hst : (s.ctx cx).state = .pending .su)
    (hcode : (s.ctx cx).command.code = 0x19) (hcx : g.ctx = cx) (i : InspectItem) :
    exec (.inspectPort cx (.item i)) ((s.granted .su cx).inspecting (some g)) =
      .next (((s.granted .su cx).inspecting (some g)).inspectionStands (g.read i (s.granted .su cx))) := by
  have h := exec_inspectItem_next (s := (s.granted .su cx).inspecting (some g)) (by simpa using hr) rfl hcx (by simpa using hst)
    (by simpa using hcode) i
  rwa [Inspection.read_inspecting] at h

/-- The three reads with nothing between them are the whole command. -/
theorem exec_inspectItems (ht : s.takes .inspectPort cx) (hp : (s.ctx cx).command.object.toNat = p.val)
    {i j k : InspectItem} (hij : i ≠ j) (hjk : j ≠ k) (hik : i ≠ k) {t u : State}
    (e₁ : exec (.inspectPort cx (.item i)) s = .next t) (e₂ : exec (.inspectPort cx (.item j)) t = .next u) :
    exec (.inspectPort cx (.item k)) u = exec (.inspectPort cx .whole) s := by
  obtain ⟨hr, hst, hcode, -⟩ := id ht
  have hn : (s.granted .su cx).inspection = none := by
    rw [State.granted_inspection]
    exact State.inspection_of_takes ht rfl
  have hk : (((Inspection.fresh cx p).read i (s.granted .su cx)).read j (s.granted .su cx)).lacks k := by
    rw [Inspection.read_lacks, Inspection.read_lacks]
    exact ⟨hjk.symm, hik.symm, Inspection.fresh_lacks cx p k⟩
  rw [exec_inspectItem_first ht hp] at e₁
  have ht' := Host.Outcome.next.inj e₁
  subst ht'
  rw [exec_inspectItem_taken hr hst hcode (by simp [Inspection.fresh]), State.inspectionStands_lacks hk] at e₂
  have hu := Host.Outcome.next.inj e₂
  subst hu
  rw [State.inspecting_inspecting, exec_inspectItem_taken hr hst hcode (by simp [Inspection.fresh]),
    exec_inspectPort_whole ht hp, Inspection.read_all hij hjk hik, State.inspectionStands_complete rfl rfl rfl,
    State.inspecting_inspecting, State.inspecting_of_eq hn, State.granted_port]

theorem State.keepsBut_granted (u : UnitId) (cx : CtxNum) : s.keepsBut (s.granted u cx) [.arbiters] := by
  refine ⟨by simp, fun q hq => ?_⟩
  cases q <;> simp_all [State.keeps]

/-- SU has taken the request and is within its step. -/
theorem State.served_inspecting (cx : CtxNum) (x : Option Inspection) :
    s.served ((s.granted .su cx).inspecting x) .su cx [.inspection] [] := by
  refine ⟨s.granted_arbiters .su cx, ?_, fun c _ => ?_⟩
  · exact ((State.keepsBut_granted .su cx).mono (by simp)).trans ((State.keepsBut_inspecting x).mono (by simp))
  · rw [State.inspecting_ctx, State.granted_ctx, Context.countGrant_seen]

end Inspect

/-- Settles O22: the first read, a read that leaves items, the last read, and the three in a row. -/
theorem inspectPortItemByItem : Obligations.InspectPortItemByItem := by
  intro s cx p hs hp
  refine ⟨fun ht i => ?_, fun g i hr hg hcx hst hcode hl => ?_, fun i j k t u ht hij hjk hik e₁ e₂ => ?_⟩
  · have e := exec_inspectItem_first ht hp i
    refine ⟨_, (Inspection.fresh cx p).read i (s.granted .su cx), e, ?_, ?_, rfl, ?_⟩
    · exact State.served_inspecting cx _
    · rw [State.inspecting_ctx, State.granted_ctx, Context.countGrant_seen]
    · exact (Inspection.readsItem_granted _ _ _ _ _).1 (Inspection.read_of_lacks _ (Inspection.fresh_lacks cx p i))
  · have e := exec_inspectItem_next hr hg hcx hst hcode i
    refine ⟨fun ⟨j, hj, hlj⟩ => ?_, fun hlast => ?_⟩
    · rw [State.inspectionStands_lacks ((Inspection.read_lacks g s).2 ⟨hj, hlj⟩)] at e
      exact ⟨_, _, e, State.keepsBut_inspecting _, rfl, rfl, Inspection.read_of_lacks s hl⟩
    · obtain ⟨a, b, n, ha, hb, hn⟩ := Inspection.exists_of_not_lacks (g := g.read i s) fun j hj =>
        hlast j ((Inspection.read_lacks g s).1 hj).1 ((Inspection.read_lacks g s).1 hj).2
      rw [State.inspectionStands_complete ha hb hn, Inspection.read_ctx, hcx] at e
      obtain ⟨hkeeps, hothers, hends⟩ := State.complete_changes (s := s.inspecting none) hs cx (inspectPortAnswer a b n)
      refine ⟨_, _, a, b, n, _, e, (State.keepsBut_inspecting none).trans (hkeeps _), ?_, ?_, Inspection.read_of_lacks s hl,
        ha, hb, hn, packsInspection_answer a b n, hends⟩
      · exact State.keepsContextsBut_of_eq fun c hc => hothers c (by simpa using hc)
      · exact (hkeeps []).2 .inspection (by simp)
  · exact exec_inspectItems ht hp hij hjk hik e₁ e₂

end Sys2Proof.Machine

namespace Sys2Proof.Machine

/-! ## Words written to CONTROL, words of DATA (R4, R6, R11, R156) -/

section Control
variable {s : State} {p : Port} {act : State → State}

/-- What a register of a context block reads. -/
theorem State.windowRead_ctxAddr (s : State) (p : Port) (c : Fin 4) (k : Fin 16) :
    s.windowRead p (ctxAddr c k.val) = (s.ctx (ctxOf p c)).registerWord (ctxRegisterAt k.val) := by
  rw [State.windowRead, registerAt_ctxAddr]

/-- What a word written to a context block does. -/
theorem State.writeWord_ctxAddr (s : State) (p : Port) (c : Fin 4) (k : Fin 16) (w : Word) :
    s.writeWord p (ctxAddr c k.val) w = s.writeCtxRegister p c (ctxAddr c k.val) w (ctxRegisterAt k.val) := by
  rw [State.writeWord, registerAt_ctxAddr]

/-- An action that neither reads nor writes the frame of port `p`, and does not reset the part. -/
def BesideFrame (p : Port) (act : State → State) : Prop :=
  (∀ s f, act (s.setFrame p f) = (act s).setFrame p f) ∧ ∀ s, (act s).resetHeld = s.resetHeld

theorem Table.put_put {α : Type} {n : Nat} (t : Table α n) (i : Fin n) (x y : α) : (t.put i x).put i y = t.put i y :=
  Vector.set_set ..

theorem State.modPort_modPort (s : State) (p : Port) (f g : PortInterface → PortInterface) :
    (s.modPort p f).modPort p g = s.modPort p (g ∘ f) := by
  simp [State.modPort, State.port, Table.put_put]

theorem State.setFrame_setFrame (s : State) (p : Port) (f g : Frame) : (s.setFrame p f).setFrame p g = s.setFrame p g :=
  State.modPort_modPort ..

theorem BesideFrame.frame (h : BesideFrame p act) (s : State) : ((act s).port p).frame = (s.port p).frame := by
  have e := h.1 s (s.port p).frame
  rw [State.setFrame_of_eq rfl] at e
  rw [e, State.setFrame_port_self]

theorem BesideFrame.comp {act' : State → State} (h : BesideFrame p act) (h' : BesideFrame p act') :
    BesideFrame p fun s => act' (act s) :=
  ⟨fun s f => (congrArg act' (h.1 s f)).trans (h'.1 _ f), fun s => (h'.2 _).trans (h.2 s)⟩

theorem BesideFrame.strobe (h : BesideFrame p act) (b : Bool) : BesideFrame p (strobe b act) := by
  cases b with
  | false => exact ⟨fun _ _ => rfl, fun _ => rfl⟩
  | true => exact h

theorem besideFrame_modCtx (p : Port) (cx : CtxNum) (f : Context → Context) : BesideFrame p fun s => s.modCtx cx f :=
  ⟨fun _ _ => rfl, fun _ => rfl⟩

theorem besideFrame_goStrobe (cx : CtxNum) : BesideFrame (portOf cx) fun s => s.goStrobe cx := by
  have hstate (s : State) (f : Frame) : ((s.setFrame (portOf cx) f).port (portOf cx)).state = (s.port (portOf cx)).state := by
    rw [State.setFrame_port_self]
  have hrefuse (s : State) (f : Frame) (cause : ErrorCause) :
      (s.setFrame (portOf cx) f).goRefused cx cause = (s.goRefused cx cause).setFrame (portOf cx) f := by
    have hctx (f' : Context → Context) := (besideFrame_modCtx (portOf cx) cx f').1 s f
    simp only [State.goRefused, State.windowRefusal, State.setFrame, State.modPort_modPort] at hctx ⊢
    rw [hctx, State.modPort_modPort]
    rfl
  constructor
  · intro s f
    dsimp only
    by_cases hp : (s.port (portOf cx)).state = .online
    · cases hb : (s.ctx cx).state.busy with
      | false =>
        rw [State.goStrobe_of_free hp hb, State.goStrobe_of_free ((hstate s f).trans hp) (by simpa using hb)]
        exact (besideFrame_modCtx _ _ _).1 s f
      | true =>
        rw [State.goStrobe_of_busy hp hb, State.goStrobe_of_busy ((hstate s f).trans hp) (by simpa using hb), hrefuse]
    · rw [State.goStrobe_of_not_online hp, State.goStrobe_of_not_online (by rwa [hstate]), hrefuse]
  · intro s
    dsimp only [State.goStrobe]
    split
    · split <;> rfl
    · rfl

/-- A single strobe, a frame of its own, if its bit is 1. -/
theorem runIf_setFrame (h : BesideFrame p act) (hr : s.resetHeld = false) {i : Instr} {a : WindowAddr}
    (hi : ∀ s, exec i s = s.word p .write a act) (b : Bool) :
    runIf b i (.next (s.setFrame p .none)) = .next ((strobe b act s).setFrame p .none) := by
  cases b with
  | false => rfl
  | true =>
    have ht : (s.setFrame p .none).takesWord p .write a := ⟨by simpa using hr, .inl (by rw [State.setFrame_port_self])⟩
    rw [runIf, hi, State.word_eq ht (h.frame _), h.1, State.setFrame_port_self]
    exact congrArg _ (State.setFrame_setFrame ..)

/-- What a word written to CONTROL fires. -/
def State.fireStrobes (s : State) (cx : CtxNum) (w : Word) : State :=
  strobe (w.getLsbD 2) (fun s => s.abortStrobe cx)
    (strobe (w.getLsbD 1) (fun s => s.goStrobe cx) (strobe (w.getLsbD 0) (fun s => s.ackStrobe cx) s))

theorem State.writeWord_control (s : State) (p : Port) (c : Fin 4) (w : Word) :
    s.writeWord p (ctxAddr c controlOffset) w = s.fireStrobes (ctxOf p c) w :=
  State.writeWord_ctxAddr s p c 4 w

/-- A CONTROL word in a frame, and its strobes in frames of their own. -/
theorem controlWord_strobes {cx : CtxNum} (h : s.takesWord (portOf cx) .write (ctxAddr (slotOf cx) controlOffset)) (w : Word) :
    exec (.registerWrite (portOf cx) (.address (ctxAddr (slotOf cx) controlOffset)) w) s =
        .next ((s.fireStrobes cx w).setFrame (portOf cx)
          ((s.port (portOf cx)).frame.afterWord .write (ctxAddr (slotOf cx) controlOffset))) ∧
      runIf (w.getLsbD 2) (.abort cx) (runIf (w.getLsbD 1) (.go cx)
        (runIf (w.getLsbD 0) (.ack cx) (.next (s.setFrame (portOf cx) .none)))) =
          .next ((s.fireStrobes cx w).setFrame (portOf cx) .none) := by
  have hr : s.resetHeld = false := h.1
  have hack : BesideFrame (portOf cx) fun s => s.ackStrobe cx := besideFrame_modCtx _ _ _
  have hgo := besideFrame_goStrobe cx
  have habort : BesideFrame (portOf cx) fun s => s.abortStrobe cx := besideFrame_modCtx _ _ _
  have hack' := hack.strobe (w.getLsbD 0)
  have hgo' := hack'.comp (hgo.strobe (w.getLsbD 1))
  have hall := hgo'.comp (habort.strobe (w.getLsbD 2))
  constructor
  · have hact := State.writeWord_control s (portOf cx) (slotOf cx) w
    rw [ctxOf_portOf_slotOf] at hact
    rw [← hact]
    exact State.word_eq h (act := fun s => s.writeWord _ _ w) (by rw [hact]; exact hall.frame s)
  · rw [runIf_setFrame hack hr (i := .ack cx) (fun _ => rfl),
      runIf_setFrame hgo ((hack'.2 s).trans hr) (i := .go cx) (fun _ => rfl),
      runIf_setFrame habort ((hgo'.2 s).trans hr) (i := .abort cx) (fun _ => rfl)]
    rfl

/-- Settles O52: each strobe acts beside the frame, so a frame of its own or one for all is the same. -/
theorem controlWordFiresStrobesInOrder : Obligations.ControlWordFiresStrobesInOrder := by
  intro s p c w a h cx
  have ha : a = ctxAddr c controlOffset := (ctxAddr_control c).symm
  have hp : portOf cx = p := portOf_ctxOf p c
  have hc : slotOf cx = c := slotOf_ctxOf p c
  rw [ha] at h ⊢
  obtain ⟨e₁, e₂⟩ := controlWord_strobes (s := s) (cx := cx) (by rwa [hp, hc]) w
  rw [hp, hc] at e₁
  rw [hp] at e₂
  exact ⟨State.windowRead_ctxAddr s p c 4, _, _, e₁, e₂, (State.setFrame_setFrame ..).symm⟩

end Control

end Sys2Proof.Machine

namespace Sys2Proof.Machine

/-! ## Read words, and the words of DATA (R4, R11, R156) -/

section DataWords
variable {s : State} {p : Port} {a : WindowAddr}

theorem ctxAddr_data (c : Fin 4) : ctxAddr c dataOffset = BitVec.ofNat 7 (0x29 + 0x10 * c.val) := by
  revert c
  decide

/-- A word whose action changes one context and the interface of its port, not the frame. -/
theorem State.word_modPort_modCtx {dir : Direction} (h : s.takesWord p dir a) {act : State → State} {cx : CtxNum}
    {f : Context → Context} {g : PortInterface → PortInterface} (hact : act s = (s.modPort p g).modCtx cx f)
    (hg : (g (s.port p)).frame = (s.port p).frame) :
    ∃ t, s.word p dir a act = .next t ∧ (∀ c, c ≠ cx → t.ctx c = s.ctx c) ∧ t.ctx cx = f (s.ctx cx) ∧
      s.wordChanges t p dir a (g (s.port p)) := by
  have hport : (act s).port p = g (s.port p) := by
    rw [hact]
    exact State.modPort_port_self ..
  obtain ⟨t, e, hc, hw⟩ := State.word_changes h (act := act) (by rw [hport, hg])
    (by rw [hact]; exact State.keepsPortsBut_modPort p g)
    (by rw [hact]; exact (State.keepsBut_modPort p g).trans (State.keepsBut_modCtx _ _ _))
  have hctx (c : CtxNum) : t.ctx c = (s.modCtx cx f).ctx c := by
    rw [State.ctx_of_contexts hc, hact]
    rfl
  exact ⟨t, e, fun c hne => by rw [hctx, State.modCtx_ctx_ne _ _ _ hne], by rw [hctx, State.modCtx_ctx_self], hport ▸ hw⟩

/-- What a complete read word leaves in its port: nothing latched, and the value sent. -/
def PortInterface.withSent (v : Word) (i : PortInterface) : PortInterface := { i with latch := none, sent := some v }

/-- What a complete word of DATA does to its context's index. -/
def Context.advanced (c : Context) : Context := { c with index := c.index + 1 }

theorem State.sendLatched_register {b : WindowAddr} {v : Word} (h : (s.port p).latch = some ⟨.register b, v⟩) :
    s.sendLatched p = s.modPort p (PortInterface.withSent v) := by
  rw [State.sendLatched, h]
  rfl

theorem State.sendLatched_data {cx : CtxNum} {v : Word} (h : (s.port p).latch = some ⟨.data cx, v⟩) :
    s.sendLatched p = (s.modPort p (PortInterface.withSent v)).modCtx cx Context.advanced := by
  rw [State.sendLatched, h]
  rfl

theorem State.latchWord_latch (s : State) (p : Port) (l : ReadLatch) : ((s.latchWord p l).port p).latch = some l := by
  rw [State.latchWord, State.modPort_port_self]

theorem State.latchWord_withSent (s : State) (p : Port) (l : ReadLatch) (v : Word) :
    (s.latchWord p l).modPort p (PortInterface.withSent v) = s.modPort p (PortInterface.withSent v) :=
  State.modPort_modPort ..

/-- The three commands of a read word, where it is its turn. -/
theorem State.readWord_whole (h : s.sendsWord p a) :
    s.readWord p a .whole = s.word p .read a fun s => (s.latchWord p (s.readLatch p a)).sendLatched p := by
  rw [State.readWord, if_pos h.2]

theorem State.readWord_firstBit (h : s.beginsWord p a) :
    s.readWord p a .firstBit = .next (s.latchWord p (s.readLatch p a)) := by
  obtain ⟨hr, hf, hl⟩ := h
  rw [State.readWord, if_pos ⟨hr, hf, hl⟩]

theorem State.readWord_lastBit {l : ReadLatch} (h : s.endsWord p a l) (hl : l.source.sameRegister (s.readSource p a) = true) :
    s.readWord p a .lastBit = s.word p .read a fun s => s.sendLatched p := by
  obtain ⟨hr, hf, hlatch⟩ := h
  rw [State.readWord, if_pos ⟨hf, by rw [PortInterface.sending, hlatch]; exact hl⟩]

theorem State.endsWord.takesWord {l : ReadLatch} (h : s.endsWord p a l) : s.takesWord p .read a := ⟨h.1, .inr h.2.1⟩

/-- The first bit of a read word writes the latch alone. -/
theorem State.latchWord_changes (s : State) (p : Port) (l : ReadLatch) :
    (s.latchWord p l).contexts = s.contexts ∧ s.keepsPortsBut (s.latchWord p l) p ∧ s.keepsBut (s.latchWord p l) [.ports] ∧
      (s.latchWord p l).port p = { s.port p with latch := some l } :=
  ⟨rfl, State.keepsPortsBut_modPort p _, State.keepsBut_modPort p _, State.modPort_port_self ..⟩

/-- A read word at a register that is neither LOG nor DATA. -/
theorem readLatch_of_plain (h : ¬ isLogAddr a) (h' : ¬ isDataAddr a) :
    s.readLatch p a = ⟨.register a, s.windowRead p a⟩ := by
  rw [State.readLatch, State.readSource_of_plain s h h']

/-- A read word at DATA. -/
theorem readLatch_data (s : State) (cx : CtxNum) : s.readLatch (portOf cx) (ctxAddr (slotOf cx) dataOffset) =
    ⟨.data cx, (s.ctx cx).buffer.at (s.ctx cx).index⟩ := by
  have h : s.windowRead (portOf cx) (ctxAddr (slotOf cx) dataOffset) =
      (s.ctx (ctxOf (portOf cx) (slotOf cx))).registerWord .data := State.windowRead_ctxAddr s _ _ 9
  rw [State.readLatch, State.readSource_data, h, ctxOf_portOf_slotOf, Context.registerWord]

/-- A locked register of a context that is not busy takes its word. -/
theorem State.word_lockedWrite_of_free {c : Fin 4} {f : Context → Context} {act : State → State}
    (h : s.takesWord p .write a) (hact : act s = s.lockedWrite p c a f) (hb : (s.ctx (ctxOf p c)).state.busy = false) :
    ∃ t, s.word p .write a act = .next t ∧ (∀ x, x ≠ ctxOf p c → t.ctx x = s.ctx x) ∧ s.wordChanges t p .write a (s.port p) ∧
      t.ctx (ctxOf p c) = f (s.ctx (ctxOf p c)) := by
  refine State.word_modCtx h ?_
  rw [hact, State.lockedWrite, hb]
  rfl

/-- One of a busy context refuses it. -/
theorem State.word_lockedWrite_of_busy {c : Fin 4} {f : Context → Context} {act : State → State}
    (h : s.takesWord p .write a) (hact : act s = s.lockedWrite p c a f) (hb : (s.ctx (ctxOf p c)).state.busy = true) :
    ∃ t, s.word p .write a act = .next t ∧ t.contexts = s.contexts ∧ s.wordChanges t p .write a
      { s.port p with windowError := true, errorCause := .contextLocked, errorAddr := a } := by
  refine State.word_modPort h (f := fun i => { i with windowError := true, errorCause := .contextLocked, errorAddr := a })
    ?_ rfl
  rw [hact, State.lockedWrite, hb]
  rfl

theorem CtxState.busy_eq_false_of_not {t : CtxState} (h : ¬ (t ≠ .idle ∧ t ≠ .done)) : t.busy = false :=
  Bool.eq_false_iff.2 fun hb => h (t.busy_iff.1 hb)

end DataWords

/-- Settles O55: reads by the part of the word that they are, writes by whether the context is busy. -/
theorem dataRegisterAccess : Obligations.DataRegisterAccess := by
  refine ⟨fun s p a hlog hdata => ⟨fun h => ?_, fun h => ?_, fun v h => ?_⟩, fun s cx => ?_⟩
  · simp only [exec, execDataRead]
    rw [State.readWord_whole h]
    refine State.word_modPort h.1 (f := PortInterface.withSent (s.windowRead p a)) ?_ rfl
    rw [readLatch_of_plain hlog hdata, State.sendLatched_register (State.latchWord_latch ..), State.latchWord_withSent]
  · simp only [exec, execDataRead]
    rw [State.readWord_firstBit h, readLatch_of_plain hlog hdata]
    exact ⟨_, rfl, State.latchWord_changes ..⟩
  · simp only [exec, execDataRead]
    rw [State.readWord_lastBit h (by simp [State.readSource_of_plain s hlog hdata, LatchedSource.sameRegister])]
    exact State.word_modPort h.takesWord (f := PortInterface.withSent v) (State.sendLatched_register h.2.2) rfl
  · have ha : ctxAddr (slotOf cx) dataOffset = BitVec.ofNat 7 (0x29 + 0x10 * (slotOf cx).val) := ctxAddr_data _
    rw [← ha]
    intro p a busy
    refine ⟨fun h => ?_, fun h => ?_, fun v h => ?_, fun w h => ⟨fun hb => ?_, fun hb => ?_⟩⟩
    · simp only [exec, execDataRead]
      rw [State.readWord_whole h]
      refine State.word_modPort_modCtx h.1 (f := Context.advanced) (g := PortInterface.withSent _) ?_ rfl
      rw [readLatch_data, State.sendLatched_data (State.latchWord_latch ..), State.latchWord_withSent]
    · simp only [exec, execDataRead]
      rw [State.readWord_firstBit h, readLatch_data]
      exact ⟨_, rfl, State.latchWord_changes ..⟩
    · simp only [exec, execDataRead]
      rw [State.readWord_lastBit h (by simp [a, p, State.readSource_data, LatchedSource.sameRegister])]
      exact State.word_modPort_modCtx h.takesWord (f := Context.advanced) (g := PortInterface.withSent v)
        (State.sendLatched_data h.2.2) rfl
    · have hcx : ctxOf p (slotOf cx) = cx := ctxOf_portOf_slotOf cx
      simp only [exec, execDataWrite]
      obtain ⟨t, e, hc, hw, ht⟩ := State.word_lockedWrite_of_free (c := slotOf cx) (f := Context.dataWritten w) h
        (act := fun s => s.lockedWrite p (slotOf cx) a (Context.dataWritten w)) rfl
        (by rw [hcx]; exact CtxState.busy_eq_false_of_not hb)
      rw [hcx] at hc ht
      refine ⟨t, e, hc, hw, ?_, fun i => ?_, ?_⟩ <;> rw [ht]
      · rfl
      · exact Table.at_put ..
      · rfl
    · have hcx : ctxOf p (slotOf cx) = cx := ctxOf_portOf_slotOf cx
      simp only [exec, execDataWrite]
      exact State.word_lockedWrite_of_busy (c := slotOf cx) h rfl (by rw [hcx]; exact (CtxState.busy_iff _).2 hb)

end Sys2Proof.Machine

namespace Sys2Proof.Machine

/-! ## What the registers read (R160 to R165) -/

section Reads
variable {s : State} {p : Port}

theorem State.chipStatusWord_shows (s : State) :
    s.chipStatusWord.extractLsb' 0 16 = s.epoch ∧ s.chipStatusWord.extractLsb' 16 2 = s.periodCode ∧
      s.chipStatusWord.getLsbD 18 = s.period.isSome ∧ s.chipStatusWord.getLsbD 19 = decide (s.phase = .ready) ∧
      s.chipStatusWord.extractLsb' 20 2 = BitVec.ofNat 2 s.managerPort.val ∧ s.chipStatusWord.extractLsb' 22 10 = 0 := by
  refine ⟨?_, ?_, ?_, ?_, ?_, ?_⟩ <;> simp [State.chipStatusWord, BitVec.extractLsb'_or, Bool.beq_eq_decide_eq]

/-- The bits of an acknowledgement set. -/
theorem ackBits_shows (acks : PerUnit Bool) : (ackBits acks)[0] = acks.mu ∧ (ackBits acks)[1] = acks.lu ∧
    (ackBits acks)[2] = acks.cu ∧ (ackBits acks)[3] = acks.su := by
  have key : ∀ mu lu cu su : Bool, let x := ackBits ⟨mu, lu, cu, su⟩
      x[0] = mu ∧ x[1] = lu ∧ x[2] = cu ∧ x[3] = su := by
    decide
  exact key acks.mu acks.lu acks.cu acks.su

/-- The bits of EVENT FLAGS 0. -/
theorem getLsbD_sixBits : ∀ a b c d e f : Bool,
    let x : BitVec 6 := BitVec.ofBool a ++ (BitVec.ofBool b ++ (BitVec.ofBool c ++ (BitVec.ofBool d ++
      (BitVec.ofBool e ++ BitVec.ofBool f))))
    x.getLsbD 0 = f ∧ x.getLsbD 1 = e ∧ x.getLsbD 2 = d ∧ x.getLsbD 3 = c ∧ x.getLsbD 4 = b ∧ x.getLsbD 5 = a := by
  decide

theorem State.portStatusWord_shows (s : State) (p : Port) : s.showsPortStatus p (s.portStatusWord p) := by
  unfold State.showsPortStatus State.portStatusWord
  cases (s.port p).state with
  | offline | online => simp [BitVec.extractLsb'_or, PortState.bits]
  | withdrawing acks mark =>
    obtain ⟨h0, h1, h2, h3⟩ := ackBits_shows acks
    simp [BitVec.extractLsb'_or, PortState.bits, h0, h1, h2, h3]

theorem State.flags0_shows (s : State) (p : Port) :
    (∀ c : Fin 4, (field 0 (s.flags0 p)).getLsbD c.val = decide ((s.ctx (ctxOf p c)).state = .done)) ∧
      (field 0 (s.flags0 p)).getLsbD 4 = (s.port p).leaseLost ∧ (field 0 (s.flags0 p)).getLsbD 5 = (s.port p).windowError ∧
      (field 0 (s.flags0 p)).extractLsb' 6 26 = 0 := by
  have hbit {k : Nat} (hk : k < 32) : (field 0 (s.flags0 p)).getLsbD k = (s.flags0 p).getLsbD k := by
    rw [getLsbD_field, decide_eq_true hk]
    simp
  obtain ⟨h0, h1, h2, h3, h4, h5⟩ := getLsbD_sixBits (s.port p).windowError (s.port p).leaseLost (s.doneFlag p 3)
    (s.doneFlag p 2) (s.doneFlag p 1) (s.doneFlag p 0)
  refine ⟨?_, (hbit (by decide)).trans h4, (hbit (by decide)).trans h5, by simp⟩
  rintro ⟨c, hc⟩
  rw [hbit (by omega)]
  interval_cases c
  · exact h0
  · exact h1
  · exact h2
  · exact h3

theorem ErrorCause.bits_eq (e : ErrorCause) : e.bits = BitVec.ofNat 3 (causeValue e) := by
  cases e <;> rfl

theorem CtxState.bits_eq (t : CtxState) : t.bits = BitVec.ofNat 3 (stateValues t).1 := by
  cases t <;> rfl

theorem CtxState.ownerBits_eq (t : CtxState) : ownerBits t.owner = BitVec.ofNat 3 (stateValues t).2 := by
  cases t with
  | idle | active _ | done => rfl
  | pending u | waiting u => cases u <;> rfl

theorem resultCode_eq (r : Option CompletionCode) : field 0 (resultCodeBits r) = BitVec.ofNat 32 (codeValue r) := by
  cases r with
  | none => rfl
  | some c => cases c <;> rfl

theorem Context.stateWord_shows (x : Context) :
    (x.registerWord .state).extractLsb' 0 3 = BitVec.ofNat 3 (stateValues x.state).1 ∧
      (x.registerWord .state).getLsbD 3 = false ∧
      (x.registerWord .state).extractLsb' 4 3 = BitVec.ofNat 3 (stateValues x.state).2 ∧
      (x.registerWord .state).getLsbD 7 = false ∧ (x.registerWord .state).getLsbD 8 = x.abort.isSome ∧
      (x.registerWord .state).getLsbD 9 = x.goRefused ∧ (x.registerWord .state).extractLsb' 10 22 = 0 := by
  rw [← CtxState.bits_eq, ← CtxState.ownerBits_eq]
  refine ⟨?_, ?_, ?_, ?_, ?_, ?_, ?_⟩ <;> simp [Context.registerWord, BitVec.extractLsb'_or, Context.marker]

theorem Context.auxWord_shows (x : Context) :
    (x.registerWord .resultAux).extractLsb' 0 16 = x.result.aux ∧
      (x.registerWord .resultAux).getLsbD 16 = x.result.abortLate ∧
      (x.registerWord .resultAux).getLsbD 17 = x.result.priorRevoked ∧
      (x.registerWord .resultAux).getLsbD 18 = x.result.saturated ∧
      (x.registerWord .resultAux).extractLsb' 19 13 = 0 := by
  refine ⟨?_, ?_, ?_, ?_, ?_⟩ <;> simp [Context.registerWord, BitVec.extractLsb'_or]

/-- The registers of the whole port. -/
theorem State.showsGlobals_all (s : State) (p : Port) : s.showsGlobals p := by
  refine ⟨rfl, s.chipStatusWord_shows, s.portStatusWord_shows p, s.flags0_shows p, field_zero _, field_zero _, ?_, ?_⟩
  · have e : s.windowRead p 0x0B = field 0 (s.port p).errorCause.bits ||| field 8 (s.port p).errorAddr := rfl
    dsimp only
    rw [e, ← ErrorCause.bits_eq]
    simp [BitVec.extractLsb'_or]
  · have e : s.windowRead p 0x0D = field 0 (BitVec.ofNat 4 (s.port p).log.length) ||| flag 8 (s.port p).overflow := rfl
    dsimp only
    rw [e]
    simp [BitVec.extractLsb'_or]

/-- The registers of each context. -/
theorem State.showsContext_all (s : State) (p : Port) (c : Fin 4) : s.showsContext p c := by
  have hr (k : Nat) (hk : k < 16) : s.windowRead p (BitVec.ofNat 7 (0x20 + 0x10 * c.val + k)) =
      (s.ctx (ctxOf p c)).registerWord (ctxRegisterAt k) := State.windowRead_ctxAddr s p c ⟨k, hk⟩
  unfold State.showsContext
  simp only [hr, Nat.reduceLT]
  exact ⟨rfl, (s.ctx (ctxOf p c)).stateWord_shows, resultCode_eq _, rfl, (s.ctx (ctxOf p c)).auxWord_shows, rfl, rfl⟩

theorem registerAt_of_isUnimplemented {a : WindowAddr} (h : isUnimplemented a) :
    registerAt a = .unimplemented ∨ ∃ c, registerAt a = .context c .unimplemented := by
  have key : ∀ a : WindowAddr, isUnimplemented a →
      registerAt a = .unimplemented ∨ ∃ c, registerAt a = .context c .unimplemented := by
    unfold isUnimplemented
    decide
  exact key a h

theorem State.windowRead_of_isUnimplemented {a : WindowAddr} (h : isUnimplemented a) : s.windowRead p a = 0 := by
  unfold State.windowRead
  rcases registerAt_of_isUnimplemented h with e | ⟨c, e⟩ <;> rw [e]
  rfl

end Reads

end Sys2Proof.Machine

namespace Sys2Proof.Machine

/-! ## Words written to the registers (R155, R157, R158, R160, R163) -/

section Writes
variable {s : State} {p : Port} {a : WindowAddr} {w : Word}

/-! ### A command record reads back -/

theorem modeOfBit_beq (b : Bool) : (modeOfBit b == .wait) = b := by
  cases b <;> rfl

theorem priorityOfBit_beq (b : Bool) : (priorityOfBit b == .urgent) = b := by
  cases b <;> rfl

theorem selectorOfBits_bits : ∀ b : BitVec 2, (selectorOfBits b).bits = b := by
  decide

/-- A selector by its two bits. -/
theorem selectorOfBits_eq : ∀ b : BitVec 2, selectorOfBits b =
    if b.getLsbD 1 then (if b.getLsbD 0 then .unused else .override) else if b.getLsbD 0 then .alternate else .primary := by
  decide

theorem CommandRecord.withCommand_eq (r : CommandRecord) (w : Word) : r.withCommand w = { r with
    code := w.extractLsb' 0 8
    mode := if w.getLsbD 8 then .wait else .nowait
    priority := if w.getLsbD 9 then .urgent else .normal
    selector := if w.getLsbD 11 then (if w.getLsbD 10 then .unused else .override)
      else if w.getLsbD 10 then .alternate else .primary } := by
  have h : selectorOfBits (w.extractLsb' 10 2) = _ := selectorOfBits_eq _
  rw [BitVec.getLsbD_extractLsb', BitVec.getLsbD_extractLsb'] at h
  rw [CommandRecord.withCommand, h]
  rfl

theorem CommandRecord.commandWord_withCommand (r : CommandRecord) (w : Word) :
    (r.withCommand w).commandWord = w &&& 0xFFF#32 := by
  have hmask : field 0 (BitVec.allOnes 8) ||| flag 8 true ||| flag 9 true ||| field 10 (BitVec.allOnes 2) = 0xFFF#32 := by
    decide
  simp only [CommandRecord.commandWord, CommandRecord.withCommand, modeOfBit_beq, priorityOfBit_beq, selectorOfBits_bits,
    field_extractLsb', flag_getLsbD, ← BitVec.and_or_distrib_left, hmask]

theorem CommandRecord.targetWord_withTarget (r : CommandRecord) (w : Word) :
    (r.withTarget w).targetWord = w &&& 0x0FFF00FF#32 := by
  have hmask : field 0 (BitVec.allOnes 8) ||| field 16 (BitVec.allOnes 12) = 0x0FFF00FF#32 := by decide
  simp only [CommandRecord.targetWord, CommandRecord.withTarget, field_extractLsb', ← BitVec.and_or_distrib_left, hmask]

theorem CommandRecord.paramWord_withParam (r : CommandRecord) (w : Word) :
    (r.withParam w).paramWord = w &&& 0x1FFFFFFF#32 := by
  have hmask : field 0 (BitVec.allOnes 16) ||| field 16 (BitVec.allOnes 13) = 0x1FFFFFFF#32 := by decide
  simp only [CommandRecord.paramWord, CommandRecord.withParam, field_extractLsb', ← BitVec.and_or_distrib_left, hmask]

/-- DATA INDEX reads back its four bits. -/
theorem indexWord_eq (w : Word) : BitVec.ofNat 32 (w.extractLsb' 0 4).toFin.val = w &&& 0xF#32 := by
  have hmask : field 0 (BitVec.allOnes 4) = 0xF#32 := by decide
  rw [← hmask, ← field_extractLsb', field_zero, BitVec.val_toFin, BitVec.ofNat_toNat]

/-! ### The locked registers -/

/-- The offsets of the registers that a word replaces: COMMAND, TARGET, OPERAND, PARAM and DATA INDEX. -/
def recordOffset (k : Fin 5) : Fin 16 := if k = 4 then 10 else ⟨k.val, by omega⟩

theorem ctxAddr_recordOffset (c : Fin 4) (k : Fin 5) :
    ctxAddr c (recordOffset k).val = BitVec.ofNat 7 (0x20 + 0x10 * c.val + if k = 4 then 10 else k.val) := by
  revert c k
  decide

/-- What a word written to the `k`-th of them does to its context. -/
def Context.recordWritten (k : Fin 5) (w : Word) (x : Context) : Context :=
  match k with
  | 0 => { x with command := x.command.withCommand w }
  | 1 => { x with command := x.command.withTarget w }
  | 2 => { x with command := x.command.withOperand w }
  | 3 => { x with command := x.command.withParam w }
  | 4 => { x with index := (w.extractLsb' 0 4).toFin }

theorem State.writeWord_record (s : State) (p : Port) (c : Fin 4) (k : Fin 5) (w : Word) :
    s.writeWord p (ctxAddr c (recordOffset k).val) w =
      s.lockedWrite p c (ctxAddr c (recordOffset k).val) (Context.recordWritten k w) := by
  rw [State.writeWord_ctxAddr]
  match k with
  | 0 | 1 | 2 | 3 | 4 => rfl

theorem Context.registerWord_recordWritten (k : Fin 5) (w : Word) (x : Context) :
    (x.recordWritten k w).registerWord (ctxRegisterAt (recordOffset k).val) =
      w &&& [0xFFF#32, 0x0FFF00FF#32, 0xFFFFFFFF#32, 0x1FFFFFFF#32, 0xF#32].getD k.val 0 := by
  match k with
  | 0 => exact x.command.commandWord_withCommand w
  | 1 => exact x.command.targetWord_withTarget w
  | 2 => exact (BitVec.and_allOnes (x := w)).symm
  | 3 => exact x.command.paramWord_withParam w
  | 4 => exact indexWord_eq w

/-- The record's fields that a word replaces, as O59 names them. -/
theorem Context.recordWritten_eq (k : Fin 5) (w : Word) (x : Context) : x.recordWritten k w = { x with
    index := if k = 4 then (x.recordWritten k w).index else x.index
    command := if k = 0 then x.command.withCommand w else if k = 1 then x.command.withTarget w
      else if k = 2 then x.command.withOperand w else if k = 3 then x.command.withParam w else x.command } := by
  match k with
  | 0 | 1 | 2 | 3 | 4 => rfl

/-! ### The registers that ignore a word -/

/-- A register that a written word leaves as it is. -/
def Register.ignoresWords : Register → Bool
  | .ident | .chipStatus | .portStatus | .windowErrorCause | .log | .unimplemented => true
  | .context _ .state | .context _ .resultCode | .context _ .resultValue | .context _ .resultAux
  | .context _ .unimplemented => true
  | _ => false

theorem State.writeWord_of_ignores (h : (registerAt a).ignoresWords = true) : s.writeWord p a w = s := by
  unfold State.writeWord
  cases hr : registerAt a with
  | ident | chipStatus | portStatus | windowErrorCause | log | unimplemented => rfl
  | context c r =>
    rw [hr] at h
    cases r with
    | state | resultCode | resultValue | resultAux | unimplemented => rfl
    | _ => exact nomatch h
  | _ =>
    rw [hr] at h
    exact nomatch h

theorem ignoresWords_of_readOnly : ∀ a : WindowAddr, a.toNat ∈ [0x00, 0x01, 0x03, 0x0B, 0x0C] ∨ isUnimplemented a ∨
    (0x20 ≤ a.toNat ∧ a.toNat < 0x60 ∧ 5 ≤ a.toNat % 16 ∧ a.toNat % 16 ≤ 8) → (registerAt a).ignoresWords = true := by
  unfold isUnimplemented
  decide

/-- A word that is ignored moves the frame on, and does nothing else. -/
theorem exec_registerWrite_of_ignores (h : s.takesWord p .write a) (hi : (registerAt a).ignoresWords = true) :
    ∃ t, exec (.registerWrite p (.address a) w) s = .next t ∧ t.contexts = s.contexts ∧
      s.wordChanges t p .write a (s.port p) := by
  have hact : s.writeWord p a w = s := State.writeWord_of_ignores hi
  obtain ⟨t, e, hc, hw⟩ := State.word_changes h (act := fun s => s.writeWord p a w) (by rw [hact])
    (by rw [hact]; exact fun _ _ => rfl) (by rw [hact]; exact State.keepsBut_refl _ _)
  rw [hact] at hc hw
  exact ⟨t, e, hc, hw⟩

/-! ### Words that are the commands of other rows -/

theorem exec_registerWrite_eventEnables (s : State) (p : Port) (k : Fin 3) (w : Word) :
    exec (.registerWrite p (.address (BitVec.ofNat 7 (7 + k.val))) w) s = exec (.eventEnablesWrite p k w) s := by
  simp only [exec, execRegisterWrite, execEventEnablesWrite]
  match k with
  | 0 | 1 | 2 => rfl

theorem exec_registerWrite_data (s : State) (p : Port) (c : Fin 4) (w : Word) :
    exec (.registerWrite p (.address (BitVec.ofNat 7 (0x29 + 0x10 * c.val))) w) s = exec (.dataWrite (ctxOf p c) w) s := by
  have hact (s : State) : s.writeWord p (ctxAddr c dataOffset) w =
      s.lockedWrite p c (ctxAddr c dataOffset) (Context.dataWritten w) := s.writeWord_ctxAddr p c 9 w
  simp only [exec, execRegisterWrite, execDataWrite, portOf_ctxOf, slotOf_ctxOf, ← ctxAddr_data, hact]

end Writes

/-- Settles O59: the registers read one by one; a written word by the kind of register that it reaches. -/
theorem registerWordsReplaceRegisters : Obligations.RegisterWordsReplaceRegisters := by
  refine ⟨fun s p => ⟨s.showsGlobals_all p, s.showsContext_all p, fun a => State.windowRead_of_isUnimplemented⟩,
    fun s p w => ⟨⟨?_, ?_, fun k => ?_, ?_, fun c => ?_⟩, fun c k => ?_, fun a ha h => ?_, fun a hf => ?_, fun hf => ?_⟩⟩
  · simp only [exec, execRegisterWrite, execDataFlagClear]
    rfl
  · simp only [exec, execRegisterWrite, execSpaceFlagClear]
    rfl
  · exact exec_registerWrite_eventEnables s p k w
  · simp only [exec, execRegisterWrite, execIntConfigWrite]
    rfl
  · exact exec_registerWrite_data s p c w
  · intro cx a free r h
    have ha : ctxAddr c (recordOffset k).val = a := ctxAddr_recordOffset c k
    rw [← ha] at h ⊢
    simp only [exec, execRegisterWrite]
    refine ⟨fun hfree => ?_, fun hbusy => ?_⟩
    · obtain ⟨t, e, hc, hw, ht⟩ := State.word_lockedWrite_of_free (act := fun s => s.writeWord p _ w) h
        (s.writeWord_record p c k w) (CtxState.busy_eq_false_of_not fun hb => hfree.elim hb.1 hb.2)
      refine ⟨t, e, hc, hw, ?_, ?_⟩
      · rw [State.windowRead_ctxAddr, ht, Context.registerWord_recordWritten]
      · rw [ht]
        refine (Context.recordWritten_eq k w _).trans ?_
        rw [CommandRecord.withCommand_eq]
        cases w.getLsbD 11 <;> cases w.getLsbD 10 <;> rfl
    · exact State.word_lockedWrite_of_busy (act := fun s => s.writeWord p _ w) h (s.writeWord_record p c k w)
        ((CtxState.busy_iff _).2 (not_or.1 hbusy))
  · exact exec_registerWrite_of_ignores h (ignoresWords_of_readOnly a ha)
  · simp only [exec, execRegisterWrite, hf]
  · simp only [exec, execRegisterWrite]

end Sys2Proof.Machine

namespace Sys2Proof.Machine

/-! ## Requests that a unit takes and answers

What a command has been shown to do in the state right after the arbiter's grant, it has done in the state before it. -/

section Granted
variable {s t : State} {u : UnitId} {cx : CtxNum} {A : List Part} {cs : List CtxNum}

/-- A grant does not show in how a context ends. -/
@[simp] theorem State.granted_ends (s t : State) (u : UnitId) (cx c : CtxNum) (r : Answer) (ws : List Word) :
    (s.granted u cx).ends t c r ws ↔ s.ends t c r ws := by
  simp [State.ends]

/-- What has happened since the grant is what the served request has changed. -/
theorem State.served_of_granted (hA : Part.arbiters ∉ A) (hk : (s.granted u cx).keepsBut t A)
    (hc : ∀ c, c ∉ cx :: cs → t.ctx c = (s.granted u cx).ctx c) : s.served t u cx A cs := by
  refine ⟨(hk.2 .arbiters hA).trans (s.granted_arbiters u cx), ?_, fun c hne => ?_⟩
  · exact ((State.keepsBut_granted u cx).mono (by simp)).trans (hk.mono (by simp))
  · rw [hc c hne, State.granted_ctx, Context.countGrant_seen]

/-- A request that ends at once changes nothing else. -/
theorem State.complete_granted (hs : s.settled) (u : UnitId) (cx : CtxNum) (r : Answer) :
    s.served ((s.granted u cx).complete cx r) u cx [] [] ∧ s.ends ((s.granted u cx).complete cx r) cx r := by
  obtain ⟨-, -, hends⟩ := State.complete_changes ((s.granted_settled u cx).2 hs) cx r
  exact ⟨State.served_complete hs, (s.granted_ends _ u cx cx r []).1 hends⟩

end Granted

/-! ### Updates and the parts they leave -/

section Parts
variable {s t : State} {A : List Part}

theorem State.keepsBut_modLock (l : LockNum) (f : Lock → Lock) : s.keepsBut (s.modLock l f) [.locks] :=
  ⟨rfl, fun q hq => by cases q <;> simp [State.keeps] at hq ⊢⟩

theorem State.keepsBut_mapLocks (f : Lock → Lock) : s.keepsBut (s.mapLocks f) [.locks] :=
  ⟨s.mapLocks_pending f, fun q hq => by cases q <;> simp [State.keeps] at hq ⊢⟩

theorem State.keepsBut_mapChans (f : Channel → Channel) : s.keepsBut (s.mapChans f) [.channels] :=
  ⟨s.mapChans_pending f, fun q hq => by cases q <;> simp [State.keeps] at hq ⊢⟩

theorem State.keepsBut_setForcing (x : Option CtxNum) : s.keepsBut (s.setForcing x) [.forcing] :=
  ⟨rfl, fun q hq => by cases q <;> simp [State.keeps] at hq ⊢⟩

theorem State.keepsBut_sendLu (p : Port) (m : LuMessage) : s.keepsBut (s.sendLu p m) [.messages] :=
  State.keepsBut_modLink _ _

theorem State.keepsLocksBut_modLock (s : State) (l : LockNum) (f : Lock → Lock) : s.keepsLocksBut (s.modLock l f) l :=
  fun _ hk => State.modLock_lock_ne _ _ _ hk

/-- What leaves the port interfaces makes no withdrawal complete. -/
theorem State.keepsBut.settled (h : s.keepsBut t A) (hA : Part.ports ∉ A) (hs : s.settled) : t.settled :=
  (State.settled_congr (h.2 .ports hA)).2 hs

end Parts

/-! ### Targets -/

theorem CommandRecord.lockNum_eq {r : CommandRecord} {l : LockNum} (h : r.object.toNat = l.val) : r.lockNum = some l :=
  CommandRecord.objectBelow_eq_some.2 h

theorem CommandRecord.chanNum_eq {r : CommandRecord} {n : ChanNum} (h : r.object.toNat = n.val) : r.chanNum = some n :=
  CommandRecord.objectBelow_eq_some.2 h

theorem CommandRecord.segNum_eq {r : CommandRecord} {n : SegNum} (h : r.object.toNat = n.val) : r.segNum = some n :=
  CommandRecord.objectBelow_eq_some.2 h

theorem holderTarget_eq_some {r : CommandRecord} {l : LockNum} (h : r.object.toNat = l.val) (hn : r.operand.toNat ≤ 255) :
    holderTarget r = some l := by
  rw [holderTarget, decide_eq_true hn, if_pos rfl, CommandRecord.lockNum_eq h]

end Sys2Proof.Machine

namespace Sys2Proof.Machine

/-! ## Waits that are aborted (R43, R78) -/

/-- Settles O41: the two commands, each the end of one wait. -/
theorem abortOfAWait : Obligations.AbortOfAWait := by
  have marked {c : Context} (h : c.abort ≠ none) : c.marker = true := Option.isSome_iff_ne_none.2 h
  refine ⟨fun s cx hs hr hst hab hmid => ?_, fun s cx hs hr hst hab hmid => ?_⟩
  · have e : exec (.lockWaitAbort cx) s =
        .next ((s.mapLocks fun k => { k with queue := leaveQueue cx k.queue }).complete cx { code := .aborted }) := by
      rw [exec, execLockWaitAbort, State.live, hr, if_neg (by simp), if_pos ⟨hst, marked hab, hmid⟩]
    obtain ⟨hkeeps, hothers, hends⟩ := State.complete_changes
      (s := s.mapLocks fun k => { k with queue := leaveQueue cx k.queue }) (by simpa using hs) cx { code := .aborted }
    refine ⟨_, e, (State.keepsBut_mapLocks _).trans (hkeeps _), State.keepsContextsBut_of_eq fun c hc => ?_,
      fun k => ?_, ?_⟩
    · rw [hothers c (by simpa using hc), State.mapLocks_ctx]
    · rw [State.complete_lock, State.mapLocks_lock, leaveQueue]
    · rwa [State.ends, State.mapLocks_ctx] at hends
  · have e : exec (.channelWaitAbort cx) s = .next ((s.leaveChannels cx).complete cx { code := .aborted }) := by
      rw [exec, execChannelWaitAbort, State.live, hr, if_neg (by simp), if_pos ⟨hst, marked hab, hmid⟩]
    obtain ⟨hkeeps, hothers, hends⟩ := State.complete_changes (s := s.leaveChannels cx)
      ((s.mapChans_settled _).2 hs) cx { code := .aborted }
    refine ⟨_, e, (State.keepsBut_mapChans _).trans (hkeeps _), State.keepsContextsBut_of_eq fun c hc => ?_,
      fun k => ?_, ?_⟩
    · rw [hothers c (by simpa using hc), State.leaveChannels, State.mapChans_ctx]
    · rw [State.complete_chan, State.leaveChannels, State.mapChans_chan, leaveEntries, leaveEntries]
    · rwa [State.ends, State.leaveChannels, State.mapChans_ctx] at hends

end Sys2Proof.Machine

namespace Sys2Proof.Machine

/-! ## The four INSPECT commands (R40, R79, R102, R127) -/

section Inspects
variable {s : State} {cx : CtxNum}

theorem exec_inspectLock {l : LockNum} (ht : s.takes .inspectLock cx) (hl : (s.ctx cx).command.object.toNat = l.val) :
    exec (.inspectLock cx) s = .next ((s.granted .lu cx).complete cx
      { code := .ok, value := (s.lock l).inspectWord, aux := (s.lock l).waiterCount }) := by
  simp [exec, execInspectLock, State.take_of_takes ht, Command.owner, CommandRecord.lockNum_eq hl]

/-- The manager port, the sender ports and the receiver port of a channel may inspect it. -/
theorem State.mayInspect_eq_true {n : ChanNum} (h : portOf cx = s.managerPort ∨ ∃ b, (s.chan n).binding = some b ∧
    (b.senders.getLsbD (portOf cx).val = true ∨ b.receiver = portOf cx)) : s.mayInspect cx n = true := by
  unfold State.mayInspect State.isManager
  rcases h with h | ⟨b, hb, h | h⟩
  · rw [decide_eq_true h, Bool.true_or]
  · simp [hb, Binding.sends, h]
  · simp [hb, Binding.receives, h]

theorem exec_inspectChannel {n : ChanNum} (ht : s.takes .inspectChannel cx)
    (hn : (s.ctx cx).command.object.toNat = n.val) (hm : portOf cx = s.managerPort ∨ ∃ b, (s.chan n).binding = some b ∧
      (b.senders.getLsbD (portOf cx).val = true ∨ b.receiver = portOf cx)) :
    exec (.inspectChannel cx) s = .next ((s.granted .cu cx).complete cx
      { code := .ok, value := (s.chan n).inspectWord, aux := (s.chan n).counter }) := by
  have hmay : (s.granted .cu cx).mayInspect cx n = true := State.mayInspect_eq_true (by simpa using hm)
  simp [exec, execInspectChannel, State.take_of_takes ht, Command.owner, CommandRecord.chanNum_eq hn, hmay]

theorem exec_inspectSegment {n : SegNum} (ht : s.takes .inspectSegment cx)
    (hn : (s.ctx cx).command.object.toNat = n.val) :
    exec (.inspectSegment cx) s = .next ((s.granted .mu cx).complete cx
      { code := .ok, value := segmentInspectWord (s.seg n) (s.isManager cx),
        aux := segmentInspectAux (s.seg n) (s.isManager cx) }) := by
  simp [exec, execInspectSegment, State.take_of_takes ht, Command.owner, CommandRecord.segNum_eq hn]

/-- The locks of a port, counted by INSPECT PORT and listed. -/
theorem State.locksHeld_eq (s : State) (p : Port) : s.locksHeld p = (s.locksOf p).length := by
  unfold State.locksHeld State.locksOf
  refine congrArg List.length (List.filter_congr fun l _ => ?_)
  cases (s.lock l).holder <;> simp [Bool.beq_eq_decide_eq]

theorem State.portContexts_at (s : State) (p : Port) (c : Fin 4) :
    (s.portContexts p).at c = (s.ctx (ctxOf p c)).state.bits := by
  simp [State.portContexts, Table.at, Vector.get_eq_getElem]

end Inspects

/-- What VALUE packs for INSPECT LOCK (R167). -/
theorem Lock.inspectWord_fields (k : Lock) :
    k.inspectWord.getLsbD 0 = k.holder.isSome ∧ k.inspectWord.getLsbD 1 = k.revoked ∧
      k.inspectWord.extractLsb' 2 2 = 0 ∧
      k.inspectWord.extractLsb' 4 4 = BitVec.ofNat 4 ((k.holder.map Fin.val).getD 0) ∧
      k.inspectWord.extractLsb' 8 8 = k.generation ∧ k.inspectWord.extractLsb' 16 16 = k.lease := by
  simp [Lock.inspectWord, BitVec.extractLsb'_or]

/-- What VALUE packs for INSPECT CHANNEL (R167). -/
theorem Channel.inspectWord_fields (c : Channel) :
    c.inspectWord.getLsbD 0 = c.binding.isSome ∧ c.inspectWord.getLsbD 1 = false ∧
      c.inspectWord.extractLsb' 2 2 = BitVec.ofNat 2 c.slots.length ∧ c.inspectWord.extractLsb' 4 4 = 0 ∧
      c.inspectWord.extractLsb' 8 4 = BitVec.ofNat 4 c.senders.length ∧
      c.inspectWord.extractLsb' 12 3 = BitVec.ofNat 3 c.receivers.length ∧ c.inspectWord.extractLsb' 15 17 = 0 := by
  simp [Channel.inspectWord, BitVec.extractLsb'_or]

/-- What VALUE packs for INSPECT SEGMENT of a valid entry (R167). -/
theorem segmentInspectWord_fields (g : Segment) (manager : Bool) :
    let v := segmentInspectWord (some g) manager
    v.getLsbD 0 = true ∧ v.getLsbD 1 = g.rights.read ∧ v.getLsbD 2 = g.rights.write ∧
      v.getLsbD 3 = g.rights.atomic ∧ v.extractLsb' 4 13 = g.length ∧ v.extractLsb' 17 3 = 0 ∧
      v.extractLsb' 20 12 = if manager then g.key else 0 := by
  cases manager <;> simp [segmentInspectWord, BitVec.extractLsb'_or]

/-- Settles O21: each command ends with its packed word, and the word reads back field by field. -/
theorem inspectCommandsReport : Obligations.InspectCommandsReport := by
  intro s cx hs
  refine ⟨fun l ht hl => ?_, fun n ht hn hm => ?_, fun n ht hn => ?_, fun p ht hp => ?_⟩
  · obtain ⟨hserved, hends⟩ := State.complete_granted hs .lu cx
      { code := .ok, value := (s.lock l).inspectWord, aux := (s.lock l).waiterCount }
    exact ⟨_, _, exec_inspectLock ht hl, hserved, hends, (s.lock l).inspectWord_fields⟩
  · obtain ⟨hserved, hends⟩ := State.complete_granted hs .cu cx
      { code := .ok, value := (s.chan n).inspectWord, aux := (s.chan n).counter }
    exact ⟨_, _, exec_inspectChannel ht hn hm, hserved, hends, (s.chan n).inspectWord_fields⟩
  · obtain ⟨hserved, hends⟩ := State.complete_granted hs .mu cx
      { code := .ok, value := segmentInspectWord (s.seg n) (s.isManager cx),
        aux := segmentInspectAux (s.seg n) (s.isManager cx) }
    refine ⟨_, _, _, exec_inspectSegment ht hn, hserved, hends, fun hnone => ?_, fun g hg => ?_⟩
    · rw [hnone]
      exact ⟨rfl, rfl⟩
    · obtain ⟨h0, h1, h2, h3, hlength, hgap, hkey⟩ := segmentInspectWord_fields g (s.isManager cx)
      rw [hg]
      refine ⟨h0, h1, h2, h3, hlength, hgap, ?_, ?_⟩
      · simpa [State.isManager] using hkey
      · simp [segmentInspectAux, State.isManager]
  · have hlocks : (s.granted .su cx).locksHeld p = (s.locksOf p).length := by
      simp [State.locksHeld_eq, State.locksOf]
    have hcontexts : ((s.granted .su cx).portContexts p).at = fun c => (s.ctx (ctxOf p c)).state.bits :=
      funext fun c => by simp [State.portContexts_at]
    have e := exec_inspectPort_whole ht hp
    rw [hlocks] at e
    obtain ⟨hserved, hends⟩ := State.complete_granted hs .su cx
      (inspectPortAnswer (s.port p).state.bits ((s.granted .su cx).portContexts p) (s.locksOf p).length)
    have hpacks := packsInspection_answer (s.port p).state.bits ((s.granted .su cx).portContexts p) (s.locksOf p).length
    rw [hcontexts] at hpacks
    exact ⟨_, _, e, hserved, hends, hpacks⟩

end Sys2Proof.Machine

namespace Sys2Proof.Machine

/-! ## The lock commands of a context (R30 to R39) -/

/-! ### What the operations on a lock change -/

section LockOperations
variable {s t : State} {l : LockNum} {cx : CtxNum} {A : List Part}

/-- One lock has become `k`; every other lock is as it was. -/
structure State.SetsLock (s t : State) (l : LockNum) (k : Lock) : Prop where
  lock : t.lock l = k
  others : s.keepsLocksBut t l

theorem State.setsLock_modLock (l : LockNum) (f : Lock → Lock) : s.SetsLock (s.modLock l f) l (f (s.lock l)) :=
  ⟨State.modLock_lock_self _ _ _, s.keepsLocksBut_modLock l f⟩

/-- An update of a context leaves the locks. -/
theorem State.SetsLock.modCtx {k : Lock} (h : s.SetsLock t l k) (cx : CtxNum) (f : Context → Context) :
    s.SetsLock (t.modCtx cx f) l k := ⟨h.lock, h.others⟩

/-- A completion leaves the locks. -/
theorem State.SetsLock.complete {k : Lock} (h : s.SetsLock t l k) (cx : CtxNum) (r : Answer) :
    s.SetsLock (t.complete cx r) l k :=
  ⟨(t.complete_lock cx r l).trans h.lock, fun j hj => (t.complete_lock cx r j).trans (h.others j hj)⟩

/-- A grant leaves the locks. -/
theorem State.setsLock_granted {u : UnitId} {k : Lock} : (s.granted u cx).SetsLock t l k ↔ s.SetsLock t l k := by
  constructor <;> rintro ⟨hl, ho⟩ <;> exact ⟨hl, fun j hj => by simpa using ho j hj⟩

/-- A lock is rewritten and a request ends. -/
theorem State.modLock_complete_changes (hs : s.settled) (l : LockNum) (f : Lock → Lock) (cx : CtxNum) (r : Answer) :
    let t := (s.modLock l f).complete cx r
    s.keepsBut t [.locks] ∧ s.SetsLock t l (f (s.lock l)) ∧ (∀ c, c ≠ cx → t.ctx c = s.ctx c) ∧ s.ends t cx r := by
  obtain ⟨hkeeps, hothers, hends⟩ := State.complete_changes ((s.modLock_settled l f).2 hs) cx r
  exact ⟨(State.keepsBut_modLock l f).trans (hkeeps _), (State.setsLock_modLock l f).complete cx r, hothers, hends⟩

/-- A granted request that rewrites a lock and ends. -/
theorem State.modLock_complete_granted (hs : s.settled) (u : UnitId) (l : LockNum) (f : Lock → Lock) (cx : CtxNum)
    (r : Answer) :
    let t := ((s.granted u cx).modLock l f).complete cx r
    s.served t u cx [.locks] [] ∧ s.SetsLock t l (f (s.lock l)) ∧ s.ends t cx r := by
  obtain ⟨hkeeps, hlock, hothers, hends⟩ :=
    State.modLock_complete_changes ((s.granted_settled u cx).2 hs) l f cx r
  rw [State.granted_lock] at hlock
  exact ⟨State.served_of_granted (by simp) hkeeps fun c hc => hothers c (by simpa using hc),
    State.setsLock_granted.1 hlock, (State.granted_ends ..).1 hends⟩

/-- A FREE lock is granted to who asks for it (R30, R34). -/
theorem State.grantLock_eq (s : State) (l : LockNum) (cx : CtxNum) :
    s.grantLock l cx = (s.modLock l fun k => k.heldBy cx k.queue).complete cx
      ((s.lock l).grantAnswer (s.lock l).queue.length (s.lock l).revoked) := rfl

end LockOperations

/-! ### ACQUIRE (R32 to R35) -/

section Acquire
variable {s : State} {cx : CtxNum} {l : LockNum}

/-- An ACQUIRE of an object in range comes to the key comparison. -/
theorem exec_acquire (ht : s.takes .acquire cx) (hsel : (s.ctx cx).command.selector ≠ .unused)
    (hl : (s.ctx cx).command.object.toNat = l.val) : exec (.acquire cx) s =
      if s.keyOpens cx (s.lock l).key then .next ((s.granted .lu cx).acquireLock l cx)
      else (s.granted .lu cx).failed cx .protected_ := by
  simp [exec, execAcquire, State.take_of_takes ht, Command.owner, CommandRecord.selectorValid, hsel,
    CommandRecord.lockNum_eq hl]

/-- The key that is presented opens the lock. -/
theorem exec_acquire_opens (ht : s.takes .acquire cx) (hsel : (s.ctx cx).command.selector ≠ .unused)
    (hl : (s.ctx cx).command.object.toNat = l.val) (hk : s.presentsKeyFor cx (s.lock l).key) :
    exec (.acquire cx) s = .next ((s.granted .lu cx).acquireLock l cx) := by
  rw [exec_acquire ht hsel hl, if_pos ((s.keyOpens_iff cx _).2 hk)]

theorem State.acquireLock_free (h : (s.lock l).holder = none) : s.acquireLock l cx = s.grantLock l cx := by
  rw [State.acquireLock, h]

theorem State.acquireLock_self (h : (s.lock l).holder = some cx) : s.acquireLock l cx =
    s.complete cx { code := .self, value := (s.lock l).generationWord, aux := (s.lock l).waiterCount } := by
  simp [State.acquireLock, h]

theorem State.acquireLock_nowait {h : CtxNum} (hh : (s.lock l).holder = some h) (hne : h ≠ cx)
    (hm : (s.ctx cx).command.mode = .nowait) : s.acquireLock l cx =
      s.complete cx { code := .busy, value := ctxWord h, aux := (s.lock l).waiterCount } := by
  simp [State.acquireLock, hh, hne, hm]

theorem State.acquireLock_wait {h : CtxNum} (hh : (s.lock l).holder = some h) (hne : h ≠ cx)
    (hm : (s.ctx cx).command.mode = .wait) : s.acquireLock l cx = s.parkWaiter l cx := by
  simp [State.acquireLock, hh, hne, hm]

/-- The entry that a parked request makes in its queue (R26). -/
def State.entryOf (s : State) (cx : CtxNum) : Waiter :=
  ⟨cx, (s.ctx cx).command.priority, (s.ctx cx).command.timeout⟩

theorem State.parkWaiter_eq (s : State) (l : LockNum) (cx : CtxNum) :
    s.parkWaiter l cx = (s.modLock l fun k => { k with queue := joinQueue k.queue (s.entryOf cx) }).modCtx cx
      fun c => { c with state := .waiting .lu } := rfl

/-- A request that parks changes its context and its lock. -/
theorem State.parkWaiter_changes (s : State) (l : LockNum) (cx : CtxNum) :
    let t := s.parkWaiter l cx
    s.keepsBut t [.locks] ∧ (∀ c, c ≠ cx → t.ctx c = s.ctx c) ∧
      t.ctx cx = { s.ctx cx with state := .waiting .lu } ∧
      s.SetsLock t l { s.lock l with queue := joinQueue (s.lock l).queue (s.entryOf cx) } := by
  rw [State.parkWaiter_eq]
  exact ⟨(State.keepsBut_modLock l _).trans (State.keepsBut_modCtx cx _ _), fun _ hc => State.modCtx_ctx_ne _ _ _ hc,
    State.modCtx_ctx_self _ _ _, (State.setsLock_modLock l _).modCtx cx _⟩

/-- Where an entry joins a queue that is ordered by class (R26, R27). -/
theorem joinQueue_eq {us ns : List Waiter} (hu : ∀ x ∈ us, x.priority = .urgent) (hn : ∀ x ∈ ns, x.priority = .normal)
    (w : Waiter) :
    joinQueue (us ++ ns) w = if w.priority = .urgent then us ++ w :: ns else us ++ ns ++ [w] := by
  cases hw : w.priority with
  | urgent => rw [joinQueue_urgent hw hu hn, if_pos rfl]
  | normal => rw [joinQueue_normal hw, if_neg nofun]

end Acquire

/-- Settles O23: the grant of a lock for which no one waits. -/
theorem acquireOfAFreeLock : Obligations.AcquireOfAFreeLock := by
  intro s cx l hs hk ht hsel hl hkey hfree
  obtain ⟨hempty, -, -⟩ := (s.lock l).consistent_iff.1 hk
  obtain ⟨hqueue, -⟩ := hempty hfree
  have e : exec (.acquire cx) s = .next (((s.granted .lu cx).modLock l fun k => k.heldBy cx k.queue).complete cx
      ((s.lock l).grantAnswer 0 (s.lock l).revoked)) := by
    rw [exec_acquire_opens ht hsel hl hkey, State.acquireLock_free (by simpa using hfree), State.grantLock_eq,
      State.granted_lock, hqueue, List.length_nil]
  obtain ⟨hserved, ⟨hlock, hothers⟩, hends⟩ := State.modLock_complete_granted hs .lu l (fun k => k.heldBy cx k.queue) cx
    ((s.lock l).grantAnswer 0 (s.lock l).revoked)
  exact ⟨_, e, hserved, hothers, by rw [hlock, hqueue], hends⟩

/-- Settles O24: the key comparison, then the cases of the holder and of the mode. -/
theorem acquireOfAHeldLock : Obligations.AcquireOfAHeldLock := by
  intro s cx l hs ht hsel hl
  refine ⟨fun hkey => ?_, fun hkey hh => ?_, fun h hkey hh hne hm => ?_, fun h us ns hkey hh hne hm hq hu hn => ?_⟩
  · rw [exec_acquire ht hsel hl, if_neg (mt (s.keyOpens_iff cx _).1 hkey)]
    exact State.failed_granted hs _ _ _
  · refine ⟨_, exec_acquire_opens ht hsel hl hkey, ?_⟩
    rw [State.acquireLock_self (by simpa using hh), State.granted_lock]
    exact State.complete_granted hs .lu cx _
  · refine ⟨_, exec_acquire_opens ht hsel hl hkey, ?_⟩
    rw [State.acquireLock_nowait (by simpa using hh) hne (by simpa using hm), State.granted_lock]
    exact State.complete_granted hs .lu cx _
  · refine ⟨_, exec_acquire_opens ht hsel hl hkey, ?_⟩
    rw [State.acquireLock_wait (by simpa using hh) hne (by simpa using hm)]
    obtain ⟨hkeeps, hothers, hctx, hset⟩ := State.parkWaiter_changes (s.granted .lu cx) l cx
    obtain ⟨hlock, hlocks⟩ := State.setsLock_granted.1 hset
    refine ⟨State.served_of_granted (by simp) hkeeps fun c hc => hothers c (by simpa using hc), hlocks, ?_, ?_⟩
    · rw [hctx, State.granted_ctx, ← (s.ctx cx).countGrant_seen .lu]
      rfl
    · have hentry : (s.granted .lu cx).entryOf cx = s.entryOf cx := by simp [State.entryOf]
      rw [hlock, State.granted_lock, hentry, hq, joinQueue_eq hu hn]
      rfl

/-! ### RELEASE and RENEW (R36 to R39, R52) -/

section Holder
variable {s : State} {cx : CtxNum} {l : LockNum}

/-- A RELEASE or RENEW in range comes to the two tests of R36. -/
theorem exec_taking_holder {c : Command} (hc : c = .release ∨ c = .renew) {straps : Straps} (ht : s.takes c cx)
    (hl : (s.ctx cx).command.object.toNat = l.val) (hn : (s.ctx cx).command.operand.toNat ≤ 255) :
    ∃ ok, exec (c.taking cx straps) s =
      (s.granted .lu cx).judgeHolder l cx (s.ctx cx).command.operand ok := by
  rcases hc with rfl | rfl
  · simp only [Command.taking, exec, execRelease, State.take_of_takes ht, Command.owner, State.granted_ctx,
      Context.countGrant_command, holderTarget_eq_some hl hn, State.onTarget_some]
    exact ⟨_, rfl⟩
  · simp only [Command.taking, exec, execRenew, State.take_of_takes ht, Command.owner, State.granted_ctx,
      Context.countGrant_command, holderTarget_eq_some hl hn, State.onTarget_some]
    exact ⟨_, rfl⟩

theorem State.judgeHolder_late {named : Word} (h : (s.lock l).isCurrent named = false) (ok : Out) :
    s.judgeHolder l cx named ok =
      .next (s.complete cx { code := .late, value := (s.lock l).generationWord, aux := (s.lock l).waiterCount }) := by
  simp [State.judgeHolder, h]

theorem State.judgeHolder_notHolder {named : Word} (h : (s.lock l).isCurrent named = true)
    (hh : (s.lock l).holder ≠ some cx) (ok : Out) : s.judgeHolder l cx named ok =
      .next (s.complete cx { code := .notHolder, value := (s.lock l).generationWord, aux := (s.lock l).waiterCount }) := by
  simp [State.judgeHolder, h, hh]

/-- The holder that names the current generation passes both tests. -/
theorem State.judgeHolder_ok (hh : (s.lock l).holder = some cx) (ok : Out) :
    s.judgeHolder l cx ((s.lock l).generation.setWidth 32) ok = ok := by
  have hcurrent : (s.lock l).isCurrent ((s.lock l).generation.setWidth 32) = true :=
    ((s.lock l).isCurrent_iff _).2 ⟨rfl, by simp [hh]⟩
  simp [State.judgeHolder, hcurrent, hh]

end Holder

/-- Settles O26: each of the two tests of R36, failed. -/
theorem lateAndNotHolder : Obligations.LateAndNotHolder := by
  intro s c cx straps l hc hs ht hl hn k current answer
  obtain ⟨ok, e⟩ := exec_taking_holder hc (straps := straps) ht hl hn
  have hlock : (s.granted .lu cx).lock l = k := State.granted_lock ..
  refine ⟨fun hlate => ?_, fun hcurrent hh => ?_⟩
  · have hlate : k.isCurrent (s.ctx cx).command.operand = false := by
      rwa [← Bool.not_eq_true, Lock.isCurrent_iff]
    rw [e, State.judgeHolder_late (by rwa [hlock]), hlock]
    exact ⟨_, rfl, State.complete_granted hs .lu cx _⟩
  · rw [e, State.judgeHolder_notHolder (by rwa [hlock, Lock.isCurrent_iff]) (by rwa [hlock]), hlock]
    exact ⟨_, rfl, State.complete_granted hs .lu cx _⟩

end Sys2Proof.Machine

namespace Sys2Proof.Machine

/-! ### A lock that its holder gives up (R38, R39) -/

section HolderEnds
variable {s t : State} {cx : CtxNum} {l : LockNum}

/-- A request ends after changes that have left its context as it was. -/
theorem State.complete_after (ht : t.settled) (hcx : t.ctx cx = s.ctx cx) (r : Answer) :
    (∀ A, t.keepsBut (t.complete cx r) A) ∧ (∀ c, c ≠ cx → (t.complete cx r).ctx c = t.ctx c) ∧
      s.ends (t.complete cx r) cx r := by
  obtain ⟨hkeeps, hothers, hends⟩ := State.complete_changes ht cx r
  rw [State.ends, hcx] at hends
  exact ⟨hkeeps, hothers, hends⟩

/-- The holder's RELEASE of the current generation. -/
theorem exec_release_ok (ht : s.takes .release cx) (hl : (s.ctx cx).command.object.toNat = l.val)
    (hh : (s.lock l).holder = some cx) (hn : (s.ctx cx).command.operand = (s.lock l).generation.setWidth 32) :
    exec (.release cx) s = .next (((s.granted .lu cx).handOff l).complete cx
      { code := .ok, value := (s.ctx cx).command.operand, aux := (((s.granted .lu cx).handOff l).lock l).waiterCount }) := by
  have hrange : (s.ctx cx).command.operand.toNat ≤ 255 := by
    rw [hn, BitVec.toNat_setWidth]
    omega
  have hok := State.judgeHolder_ok (s := s.granted .lu cx) (by simpa using hh)
  simp only [State.granted_lock, ← hn] at hok
  simp only [exec, execRelease, State.take_of_takes ht, Command.owner, State.granted_ctx, Context.countGrant_command,
    holderTarget_eq_some hl hrange, State.onTarget_some, hok]

/-- The holder's RENEW of the current generation. -/
theorem exec_renew_ok (ht : s.takes .renew cx) (hl : (s.ctx cx).command.object.toNat = l.val)
    (hh : (s.lock l).holder = some cx) (hn : (s.ctx cx).command.operand = (s.lock l).generation.setWidth 32) :
    exec (.renew cx) s = .next (((s.granted .lu cx).modLock l fun k => { k with lease := k.period }).complete cx
      { code := .ok, value := (s.lock l).period.setWidth 32, aux := (s.lock l).waiterCount }) := by
  have hrange : (s.ctx cx).command.operand.toNat ≤ 255 := by
    rw [hn, BitVec.toNat_setWidth]
    omega
  have hok := State.judgeHolder_ok (s := s.granted .lu cx) (by simpa using hh)
  simp only [State.granted_lock, ← hn] at hok
  simp only [exec, execRenew, State.take_of_takes ht, Command.owner, State.granted_ctx, Context.countGrant_command,
    holderTarget_eq_some hl hrange, State.onTarget_some, hok, State.granted_lock]

theorem State.handOff_of_nil (hq : (s.lock l).queue = []) : s.handOff l = s.modLock l Lock.freed := by
  rw [State.handOff, hq]

theorem State.handOff_of_cons {w : Waiter} {rest : List Waiter} (hq : (s.lock l).queue = w :: rest) :
    s.handOff l = (s.modLock l fun k => k.heldBy w.ctx rest).complete w.ctx
      ((s.lock l).grantAnswer rest.length (s.lock l).revoked) := by
  rw [State.handOff, hq]
  exact State.grantHead_eq hq

/-- A holder's request that hands its lock to the head waiter: both contexts end. -/
theorem State.handOff_complete_changes (hs : s.settled) {w : Waiter} {rest : List Waiter}
    (hq : (s.lock l).queue = w :: rest) (hne : w.ctx ≠ cx) (r : Answer) :
    let t := (s.handOff l).complete cx r
    s.keepsBut t [.locks] ∧ s.SetsLock t l ((s.lock l).heldBy w.ctx rest) ∧
      (∀ c, c ∉ [cx, w.ctx] → t.ctx c = s.ctx c) ∧
      s.ends t w.ctx ((s.lock l).grantAnswer rest.length (s.lock l).revoked) ∧ s.ends t cx r := by
  rw [State.handOff_of_cons hq]
  obtain ⟨hkeeps, hset, hothers, hgranted⟩ := State.modLock_complete_changes hs l (fun k => k.heldBy w.ctx rest) w.ctx
    ((s.lock l).grantAnswer rest.length (s.lock l).revoked)
  obtain ⟨hkeeps', hothers', hends⟩ := State.complete_after (hkeeps.settled (by simp) hs) (hothers cx hne.symm) r
  refine ⟨hkeeps.trans (hkeeps' _), hset.complete cx r, fun c hc => ?_, ?_, hends⟩
  · simp only [List.mem_cons, List.not_mem_nil, or_false, not_or] at hc
    rw [hothers' c hc.1, hothers c hc.2]
  · rwa [State.ends, hothers' _ hne]

end HolderEnds

/-- Settles O25: a RELEASE with no waiter, one with a head waiter, and a RENEW. -/
theorem holderReleasesAndRenews : Obligations.HolderReleasesAndRenews := by
  intro s cx l hs hsound hl hh hn k
  obtain ⟨hconsistent, -, -⟩ := hsound
  obtain ⟨-, hheld, -⟩ := (s.lock l).consistent_iff.1 hconsistent
  obtain ⟨hrevoked, hwaiters⟩ := hheld cx hh
  have hlock : (s.granted .lu cx).lock l = k := State.granted_lock ..
  refine ⟨fun ht hq => ?_, fun w rest ht hq => ?_, fun ht => ?_⟩
  · have e := exec_release_ok ht hl hh hn
    have hcount : (k.freed).waiterCount = 0 := by simp [Lock.waiterCount, Lock.freed, hq, auxOf]
    rw [State.handOff_of_nil (by rwa [hlock]), State.modLock_lock_self, hlock, hcount] at e
    obtain ⟨hserved, hset, hends⟩ := State.modLock_complete_granted hs .lu l Lock.freed cx
      { code := .ok, value := (s.ctx cx).command.operand }
    exact ⟨_, e, hserved, hset.others, hset.lock, hends⟩
  · have e := exec_release_ok ht hl hh hn
    have hafter : (((s.granted .lu cx).handOff l).lock l).waiterCount = BitVec.ofNat 16 rest.length := by
      rw [State.handOff_of_cons (by rwa [hlock]), State.complete_lock, State.modLock_lock_self]
      rfl
    rw [hafter] at e
    obtain ⟨hkeeps, hset, hothers, hgranted, hends⟩ := State.handOff_complete_changes (l := l)
      ((s.granted_settled .lu cx).2 hs) (by rwa [hlock]) (hwaiters w (List.mem_of_mem_head? (congrArg List.head? hq)))
      { code := .ok, value := (s.ctx cx).command.operand, aux := BitVec.ofNat 16 rest.length }
    rw [hlock] at hset hgranted
    rw [show k.revoked = false from hrevoked] at hgranted
    obtain ⟨hset, hlocks⟩ := State.setsLock_granted.1 hset
    exact ⟨_, e, State.served_of_granted (by simp) hkeeps hothers, hlocks, hset, (State.granted_ends ..).1 hgranted,
      (State.granted_ends ..).1 hends⟩
  · obtain ⟨hserved, hset, hends⟩ := State.modLock_complete_granted hs .lu l (fun k => { k with lease := k.period }) cx
      { code := .ok, value := k.period.setWidth 32, aux := k.waiterCount }
    exact ⟨_, exec_renew_ok ht hl hh hn, hserved, hset.others, hset.lock, hends⟩

end Sys2Proof.Machine

namespace Sys2Proof.Machine

/-! ## Revocation (R50) -/

/-- The context of the head waiter, if there is one. -/
def headContexts (q : List Waiter) : List CtxNum := q.head?.toList.map Waiter.ctx

section Revocation
variable {s t s' t' : State} {l : LockNum} {h cx : CtxNum} {cause : RevocationCause} {epoch : BitVec 16}

/-- All that a revocation of lock `l`, HELD by `h`, changes. -/
structure State.Revokes (s t : State) (l : LockNum) (h : CtxNum) (cause : RevocationCause) (epoch : BitVec 16) : Prop where
  keeps : s.keepsBut t [.locks, .messages]
  locks : s.keepsLocksBut t l
  lost : s.losesLock t l (s.lock l).queue
  contexts : ∀ c, c ∉ headContexts (s.lock l).queue → t.ctx c = s.ctx c
  links : ∀ q, q ≠ portOf h → t.link q = s.link q
  link : t.link (portOf h) = { s.link (portOf h) with
    fromLu := (s.link (portOf h)).fromLu ++ [.record ((s.lock l).lossRecord l cause epoch)] }

/-- A revocation with no waiter leaves the lock FREE; with waiters it hands it to the first. -/
theorem State.revokes_revoke (hs : s.settled) (hh : (s.lock l).holder = some h) (cause : RevocationCause)
    (epoch : BitVec 16) : s.Revokes (s.revoke l cause epoch) l h cause epoch := by
  cases hq : (s.lock l).queue with
  | nil =>
    rw [State.revoke_of_held hh, State.grantHead_of_nil (by simpa [Lock.freed] using hq)]
    exact {
      keeps := ((State.keepsBut_modLock l _).mono (by simp)).trans ((State.keepsBut_sendLu _ _).mono (by simp))
      locks := fun k hk => by rw [State.sendLu_lock, State.modLock_lock_ne _ _ _ hk]
      lost := by
        rw [hq, State.losesLock, State.sendLu_lock, State.modLock_lock_self, Lock.freed, hq]
      contexts := fun _ _ => rfl
      links := fun _ hne => State.modLink_link_ne _ _ _ hne
      link := State.modLink_link_self _ _ _ }
  | cons w rest =>
    rw [State.revoke_eq hh hq]
    obtain ⟨hkeeps, hset, hothers, hends⟩ := State.modLock_complete_changes
      (s := s.sendLu (portOf h) (.record ((s.lock l).lossRecord l cause epoch))) ((s.sendLu_settled _ _).2 hs) l
      (fun k => k.heldBy w.ctx rest) w.ctx ((s.lock l).grantAnswer rest.length true)
    exact {
      keeps := ((State.keepsBut_sendLu _ _).mono (by simp)).trans (hkeeps.mono (by simp))
      locks := hset.others
      lost := by
        rw [hq]
        exact ⟨hset.lock, hends⟩
      contexts := fun c hc => hothers c (by simpa [headContexts, hq] using hc)
      links := fun q hne => by
        rw [State.complete_link, State.modLock_link]
        exact State.modLink_link_ne _ _ _ hne
      link := by
        rw [State.complete_link, State.modLock_link]
        exact State.modLink_link_self _ _ _ }

/-- Whether a lock has been lost to its head waiter is seen at the lock, but for the queue that it had, and at that
waiter's context. -/
theorem State.losesLock.congr {q : List Waiter} (hloss : s.losesLock t l q)
    (hl : ∃ x, s.lock l = { s'.lock l with queue := x }) (hl' : t'.lock l = t.lock l)
    (hc : ∀ c ∈ headContexts q, s'.ctx c = s.ctx c ∧ t'.ctx c = t.ctx c) : s'.losesLock t' l q := by
  obtain ⟨x, hx⟩ := hl
  cases q with
  | nil =>
    rw [State.losesLock, hx] at hloss
    exact hl'.trans hloss
  | cons w rest =>
    obtain ⟨hlock, hends⟩ := hloss
    obtain ⟨hcs, hct⟩ := hc w.ctx (by simp [headContexts])
    refine ⟨hl'.trans (by rw [hlock, hx]; rfl), ?_⟩
    rw [State.ends, hcs, hct]
    rw [hx] at hends
    exact hends

/-- A grant does not show in the loss of a lock. -/
theorem State.granted_losesLock {u : UnitId} {q : List Waiter} :
    (s.granted u cx).losesLock t l q ↔ s.losesLock t l q := by
  cases q <;> simp [State.losesLock]

end Revocation

/-! ### The manager's lock commands (R41, R42, R124) -/

section Forced
variable {s t : State} {l : LockNum} {h cx : CtxNum} {u : UnitId}

/-- A FORCE RELEASE of `cx` has revoked lock `l`, HELD by `h`, and has ended (R42). -/
def State.ForcesOut (s t : State) (cx : CtxNum) (l : LockNum) (h : CtxNum) : Prop :=
  s.keepsLocksBut t l ∧ s.losesLock t l (s.lock l).queue ∧ s.keepsMessagesBut t (portOf h) ∧
    (t.link (portOf h)).seen = { (s.link (portOf h)).seen with
      fromLu := (s.link (portOf h)).fromLu ++ [.record ((s.lock l).lossRecord l .forced s.epoch)] } ∧
    s.ends t cx { code := .ok, value := (s.lock l).generation.setWidth 32, aux := 1 }

theorem State.granted_forcesOut : (s.granted u cx).ForcesOut t cx l h ↔ s.ForcesOut t cx l h := by
  have hseen (p : Port) : ((s.granted u cx).link p).seen = (s.link p).seen := by
    rw [State.granted_link, Links.countGrant_seen]
  have hfrom (p : Port) : ((s.granted u cx).link p).fromLu = (s.link p).fromLu := by
    rw [State.granted_link]
  simp only [State.ForcesOut, State.keepsLocksBut, State.keepsMessagesBut, State.granted_lock, State.granted_losesLock,
    State.granted_ends, State.granted_epoch, hseen, hfrom]

/-- Who waits for a lock is not PENDING. -/
theorem State.lockSound.waiter_ne (hl : s.lockSound l) (hp : (s.ctx cx).state = .pending .lu) :
    ∀ w ∈ (s.lock l).queue, w.ctx ≠ cx := by
  rintro w hw rfl
  obtain ⟨-, hwaiting, -⟩ := hl
  exact nomatch hp.symm.trans (hwaiting w hw)

/-- What a revocation and the end of the request that asked for it change. -/
theorem State.revoke_complete_changes (hs : s.settled) (hh : (s.lock l).holder = some h)
    (hw : ∀ w ∈ (s.lock l).queue, w.ctx ≠ cx) :
    let t := (s.revoke l .forced s.epoch).complete cx { code := .ok, value := (s.lock l).generationWord, aux := 1 }
    s.keepsBut t [.locks, .messages] ∧ (∀ c, c ∉ cx :: headContexts (s.lock l).queue → t.ctx c = s.ctx c) ∧
      s.ForcesOut t cx l h := by
  have hrevokes := State.revokes_revoke hs hh .forced s.epoch
  have hhead : ∀ c ∈ headContexts (s.lock l).queue, c ≠ cx := by
    intro c hc
    obtain ⟨w, hmem, rfl⟩ := List.mem_map.1 hc
    exact hw w (List.mem_of_mem_head? (Option.mem_toList.1 hmem))
  obtain ⟨hkeeps, hothers, hends⟩ := State.complete_after (hrevokes.keeps.settled (by simp) hs)
    (hrevokes.contexts cx fun hc => hhead cx hc rfl)
    { code := .ok, value := (s.lock l).generationWord, aux := 1 }
  refine ⟨hrevokes.keeps.trans (hkeeps _), fun c hc => ?_, fun k hk => ?_, ?_, fun q hq => ?_, ?_, hends⟩
  · rw [List.mem_cons, not_or] at hc
    rw [hothers c hc.1, hrevokes.contexts c hc.2]
  · rw [State.complete_lock, hrevokes.locks k hk]
  · exact hrevokes.lost.congr ⟨_, rfl⟩ (State.complete_lock ..) fun c hc => ⟨rfl, hothers c (hhead c hc)⟩
  · rw [State.complete_link, hrevokes.links q hq]
  · rw [State.complete_link, hrevokes.link]
    rfl

/-- A FORCE RELEASE of a FREE lock. -/
theorem State.forceReleaseLock_free (hm : portOf cx = s.managerPort) (hl : (s.ctx cx).command.object.toNat = l.val)
    (hh : (s.lock l).holder = none) : s.forceReleaseLock cx =
      .next (s.complete cx { code := .ok, value := (s.lock l).generationWord }) := by
  simp [State.forceReleaseLock, State.asManager_of_manager hm, CommandRecord.lockNum_eq hl, hh]

/-- A FORCE RELEASE of a HELD lock. -/
theorem State.forceReleaseLock_held (hm : portOf cx = s.managerPort) (hl : (s.ctx cx).command.object.toNat = l.val)
    (hh : (s.lock l).holder = some h) : s.forceReleaseLock cx = .next ((s.revoke l .forced s.epoch).complete cx
      { code := .ok, value := (s.lock l).generationWord, aux := 1 }) := by
  simp [State.forceReleaseLock, State.asManager_of_manager hm, CommandRecord.lockNum_eq hl, hh]

theorem exec_forceRelease_starts (ht : s.takes .forceRelease cx) :
    exec (.forceRelease (.starts cx)) s = .next ((s.granted .lu cx).setForcing (some cx)) := by
  simp only [exec, execForceRelease, State.take_of_takes ht, Command.owner]

theorem exec_forceRelease_whole (ht : s.takes .forceRelease cx) :
    exec (.forceRelease (.whole cx)) s = (s.granted .lu cx).forceReleaseLock cx := by
  simp only [exec, execForceRelease, State.take_of_takes ht, Command.owner]

theorem exec_forceRelease_ends (hr : s.resetHeld = false) (hf : s.forcing = some cx)
    (hst : (s.ctx cx).state = .pending .lu) (hc : (s.ctx cx).command.code = 0x10) :
    exec (.forceRelease (.ends cx)) s = (s.setForcing none).forceReleaseLock cx := by
  have hc' : (s.ctx cx).command.code = Command.forceRelease.code := hc
  simp only [exec, execForceRelease, State.live, hr, Bool.false_eq_true, if_false]
  rw [if_pos ⟨hf, hst, hc'⟩]

/-- The step of a FORCE RELEASE that LU begins and leaves is forgotten. -/
theorem State.setForcing_of_eq {x : Option CtxNum} (hf : s.forcing = x) (y : Option CtxNum) :
    (s.setForcing y).setForcing x = s := by
  rw [← hf]
  rfl

/-- The two parts of a FORCE RELEASE with nothing between them are the whole step. -/
theorem exec_forceRelease_parts (ht : s.takes .forceRelease cx) (e : exec (.forceRelease (.starts cx)) s = .next t) :
    exec (.forceRelease (.ends cx)) t = exec (.forceRelease (.whole cx)) s := by
  obtain ⟨hr, hst, hcode, -⟩ := id ht
  have hfree : (s.granted .lu cx).forcing = none := by
    rw [State.granted_forcing]
    exact (State.free_of_takes ht rfl).2
  rw [exec_forceRelease_starts ht] at e
  obtain rfl := Host.Outcome.next.inj e
  have hst' : (((s.granted .lu cx).setForcing (some cx)).ctx cx).state = .pending .lu := by
    rw [State.setForcing_ctx, State.granted_ctx, Context.countGrant_state]
    exact hst
  have hcode' : (((s.granted .lu cx).setForcing (some cx)).ctx cx).command.code = 0x10 := by
    rw [State.setForcing_ctx, State.granted_ctx, Context.countGrant_command]
    exact hcode
  rw [exec_forceRelease_ends (by simpa using hr) rfl hst' hcode', State.setForcing_of_eq hfree, exec_forceRelease_whole ht]

/-- LU begins the step of a FORCE RELEASE. -/
theorem State.served_setForcing (s : State) (cx : CtxNum) (x : Option CtxNum) :
    s.served ((s.granted .lu cx).setForcing x) .lu cx [.forcing] [] :=
  State.served_of_granted (by simp) (State.keepsBut_setForcing x) fun c _ => State.setForcing_ctx _ x c

theorem exec_setLock (ht : s.takes .setLock cx) (hm : portOf cx = s.managerPort)
    (hl : (s.ctx cx).command.object.toNat = l.val) : exec (.setLock cx) s =
      .next (((s.granted .lu cx).modLock l fun k => { k with
        key := lockKeyField (s.ctx cx).command.operand
        period := leasePeriodField (s.ctx cx).command.operand }).complete cx { code := .ok }) := by
  simp [exec, execSetLock, State.take_of_takes ht, Command.owner, State.asManager_of_manager, hm,
    CommandRecord.lockNum_eq hl]

/-- A FORCE RELEASE taken whole. -/
theorem exec_forceRelease_whole_changes (hs : s.settled) (hsound : s.lockSound l) (hm : portOf cx = s.managerPort)
    (hl : (s.ctx cx).command.object.toNat = l.val) (ht : s.takes .forceRelease cx) :
    ((s.lock l).holder = none → ∃ t, exec (.forceRelease (.whole cx)) s = .next t ∧ s.served t .lu cx [] [] ∧
      s.ends t cx { code := .ok, value := (s.lock l).generation.setWidth 32 }) ∧
    ∀ h, (s.lock l).holder = some h → ∃ t, exec (.forceRelease (.whole cx)) s = .next t ∧
      s.served t .lu cx [.locks, .messages] (headContexts (s.lock l).queue) ∧ s.ForcesOut t cx l h := by
  obtain ⟨-, hst, -, -⟩ := id ht
  have hlock : (s.granted .lu cx).lock l = s.lock l := State.granted_lock ..
  have hm' : portOf cx = (s.granted .lu cx).managerPort := by simpa using hm
  have hl' : ((s.granted .lu cx).ctx cx).command.object.toNat = l.val := by simpa using hl
  rw [exec_forceRelease_whole ht]
  refine ⟨fun hh => ?_, fun h hh => ?_⟩
  · rw [State.forceReleaseLock_free hm' hl' (by rwa [hlock]), hlock]
    exact ⟨_, rfl, State.complete_granted hs .lu cx _⟩
  · obtain ⟨hkeeps, hothers, hforces⟩ := State.revoke_complete_changes (cx := cx) ((s.granted_settled .lu cx).2 hs)
      (by rwa [hlock]) (by rw [hlock]; exact hsound.waiter_ne hst)
    exact ⟨_, State.forceReleaseLock_held hm' hl' (by rwa [hlock]),
      State.served_of_granted (by simp) hkeeps fun c hc => hothers c (by rwa [hlock]), State.granted_forcesOut.1 hforces⟩

/-- The end of the step of a FORCE RELEASE. -/
theorem exec_forceRelease_ends_changes (hs : s.settled) (hsound : s.lockSound l) (hm : portOf cx = s.managerPort)
    (hl : (s.ctx cx).command.object.toNat = l.val) (hr : s.resetHeld = false) (hf : s.forcing = some cx)
    (hst : (s.ctx cx).state = .pending .lu) (hc : (s.ctx cx).command.code = 0x10) :
    ((s.lock l).holder = none → ∃ t, exec (.forceRelease (.ends cx)) s = .next t ∧ s.keepsBut t [.forcing] ∧
      s.keepsContextsBut t [cx] ∧ t.forcing = none ∧
      s.ends t cx { code := .ok, value := (s.lock l).generation.setWidth 32 }) ∧
    ∀ h, (s.lock l).holder = some h → ∃ t, exec (.forceRelease (.ends cx)) s = .next t ∧
      s.keepsBut t [.forcing, .locks, .messages] ∧ s.keepsContextsBut t (cx :: headContexts (s.lock l).queue) ∧
      t.forcing = none ∧ s.ForcesOut t cx l h := by
  have hs' : (s.setForcing none).settled := hs
  have hkeeps : s.keepsBut (s.setForcing none) [.forcing] := State.keepsBut_setForcing none
  rw [exec_forceRelease_ends hr hf hst hc]
  refine ⟨fun hh => ?_, fun h hh => ?_⟩
  · obtain ⟨hkeeps', hothers, hends⟩ := State.complete_changes hs' cx
      { code := .ok, value := (s.lock l).generation.setWidth 32 }
    exact ⟨_, State.forceReleaseLock_free (s := s.setForcing none) hm hl hh, hkeeps.trans (hkeeps' _),
      State.keepsContextsBut_of_eq fun c hc => hothers c (by simpa using hc), (hkeeps' []).2 .forcing (by simp), hends⟩
  · obtain ⟨hkeeps', hothers, hforces⟩ := State.revoke_complete_changes (l := l) (h := h) (cx := cx) hs' hh
      (hsound.waiter_ne hst)
    exact ⟨_, State.forceReleaseLock_held (s := s.setForcing none) hm hl hh,
      (hkeeps.mono (by simp)).trans (hkeeps'.mono (by simp)), State.keepsContextsBut_of_eq hothers,
      hkeeps'.2 .forcing (by simp), hforces⟩

end Forced

/-- Settles O27: the parts of a FORCE RELEASE, SET LOCK, and the revocation from either state in which LU makes it. -/
theorem managerLockCommands : Obligations.ManagerLockCommands := by
  refine ⟨fun s t cx ht e => exec_forceRelease_parts ht e, fun s cx ht => ?_, fun s cx l hs hsound hm hl => ?_⟩
  · refine ⟨_, exec_forceRelease_starts ht, s.served_setForcing cx _, State.setForcing_forcing _ _, ?_, ?_⟩
    · rw [State.setForcing_ctx, State.granted_ctx, Context.countGrant_seen]
    · rw [State.midStep_lu, State.setForcing_forcing, Option.isSome_some, Bool.or_true]
  · refine ⟨fun ht => ?_, fun ht => ?_, fun h ht => ?_, fun ⟨hr, hf, hst, hc⟩ => ?_, fun h ⟨hr, hf, hst, hc⟩ => ?_⟩
    · obtain ⟨hserved, ⟨hlock, hlocks⟩, hends⟩ := State.modLock_complete_granted hs .lu l (fun k => { k with
        key := lockKeyField (s.ctx cx).command.operand
        period := leasePeriodField (s.ctx cx).command.operand }) cx { code := .ok }
      exact ⟨_, exec_setLock ht hm hl, hserved, hlocks, hlock, hends⟩
    · exact (exec_forceRelease_whole_changes hs hsound hm hl ht).1
    · exact (exec_forceRelease_whole_changes hs hsound hm hl ht).2 h
    · exact (exec_forceRelease_ends_changes hs hsound hm hl hr hf hst hc).1
    · exact (exec_forceRelease_ends_changes hs hsound hm hl hr hf hst hc).2 h

end Sys2Proof.Machine

namespace Sys2Proof.Machine

/-! ## LU's part in the withdrawal of a port (R44) -/

/-! ### The revocation of a port's locks, one after the other -/

theorem mem_headContexts {q : List Waiter} {c : CtxNum} : c ∈ headContexts q ↔ q.head?.map Waiter.ctx = some c := by
  cases q <;> simp [headContexts, eq_comm]

theorem mem_map_ctx_of_mem_headContexts {q : List Waiter} {c : CtxNum} (h : c ∈ headContexts q) : c ∈ q.map Waiter.ctx := by
  cases q with
  | nil => exact nomatch h
  | cons w rest => exact List.mem_cons.2 (.inl (List.mem_singleton.1 h))

theorem Lock.heldByPort_eq (k : Lock) (p : Port) : k.heldByPort p = k.holder.any fun h => portOf h == p := by
  unfold Lock.heldByPort
  cases k.holder <;> simp [Bool.beq_eq_decide_eq]

theorem Lock.heldByPort_iff (k : Lock) (p : Port) : k.heldByPort p = true ↔ ∃ h, k.holder = some h ∧ portOf h = p := by
  rw [Lock.heldByPort_eq]
  cases k.holder <;> simp

/-- The locks of `ls` that a context of `p` holds are revoked, in their order. -/
def State.revokeHeld (s : State) (p : Port) (ls : List LockNum) : State :=
  ls.foldl (fun s l => if (s.lock l).heldByPort p then s.revoke l .withdrawn s.epoch else s) s

section RevokeHeld
variable {s t u : State} {p : Port} {l : LockNum} {ls : List LockNum} {h : CtxNum}

theorem State.revokePort_eq (s : State) (p : Port) : s.revokePort p = s.revokeHeld p allLocks := rfl

theorem State.revokeHeld_cons_of_held (hl : (s.lock l).heldByPort p = true) :
    s.revokeHeld p (l :: ls) = (s.revoke l .withdrawn s.epoch).revokeHeld p ls := by
  rw [State.revokeHeld, List.foldl_cons, if_pos hl, State.revokeHeld]

theorem State.revokeHeld_cons_of_not_held (hl : (s.lock l).heldByPort p = false) :
    s.revokeHeld p (l :: ls) = s.revokeHeld p ls := by
  rw [State.revokeHeld, List.foldl_cons, if_neg (Bool.eq_false_iff.1 hl), State.revokeHeld]

/-- The records of the locks of `ls` that a context of `p` holds. -/
def State.withdrawnRecords (s : State) (p : Port) (ls : List LockNum) : List LuMessage :=
  (ls.filter fun l => (s.lock l).heldByPort p).map fun l => .record ((s.lock l).lossRecord l .withdrawn s.epoch)

theorem State.withdrawnRecords_cons_of_held (hl : (s.lock l).heldByPort p = true) : s.withdrawnRecords p (l :: ls) =
    .record ((s.lock l).lossRecord l .withdrawn s.epoch) :: s.withdrawnRecords p ls := by
  simp [State.withdrawnRecords, hl]

theorem State.withdrawnRecords_cons_of_not_held (hl : (s.lock l).heldByPort p = false) :
    s.withdrawnRecords p (l :: ls) = s.withdrawnRecords p ls := by
  simp [State.withdrawnRecords, hl]

/-- The records are those of the same locks in a state that has the same epoch. -/
theorem State.withdrawnRecords_congr (hlock : ∀ k ∈ ls, u.lock k = s.lock k) (hepoch : u.epoch = s.epoch) :
    u.withdrawnRecords p ls = s.withdrawnRecords p ls := by
  unfold State.withdrawnRecords
  rw [List.filter_congr fun k hk => by rw [hlock k hk], hepoch]
  exact List.map_congr_left fun k hk => by rw [hlock k (List.mem_filter.1 hk).1]

/-- All that the revocation of the locks of `ls` that a context of `p` holds changes. -/
structure State.RevokesHeld (s t : State) (p : Port) (ls : List LockNum) : Prop where
  keeps : s.keepsBut t [.locks, .messages]
  lost : ∀ l ∈ ls, (s.lock l).heldByPort p = true → s.losesLock t l (s.lock l).queue
  locks : ∀ l, ¬ (l ∈ ls ∧ (s.lock l).heldByPort p = true) → t.lock l = s.lock l
  contexts : ∀ c, (∀ l ∈ ls, (s.lock l).heldByPort p = true → c ∉ headContexts (s.lock l).queue) → t.ctx c = s.ctx c
  links : ∀ q, q ≠ p → t.link q = s.link q
  link : t.link p = { s.link p with fromLu := (s.link p).fromLu ++ s.withdrawnRecords p ls }

/-- A lock that no context of the port holds is passed over. -/
theorem State.RevokesHeld.cons_of_not_held (hl : (s.lock l).heldByPort p = false) (ht : s.RevokesHeld t p ls) :
    s.RevokesHeld t p (l :: ls) where
  keeps := ht.keeps
  lost k hk hheld := by
    rcases List.mem_cons.1 hk with rfl | hk
    · exact nomatch hl.symm.trans hheld
    · exact ht.lost k hk hheld
  locks k hk := ht.locks k fun ⟨hmem, hheld⟩ => hk ⟨List.mem_cons_of_mem _ hmem, hheld⟩
  contexts c hc := ht.contexts c fun k hk => hc k (List.mem_cons_of_mem _ hk)
  links := ht.links
  link := by
    rw [ht.link, State.withdrawnRecords_cons_of_not_held hl]

/-- A lock that a context of the port holds is revoked before the others, whose waiters it does not share. -/
theorem State.RevokesHeld.cons_of_held (hr : s.Revokes u l h .withdrawn s.epoch) (hh : (s.lock l).holder = some h)
    (hp : portOf h = p) (hnot : l ∉ ls)
    (hapart : ∀ k ∈ ls, ∀ c ∈ headContexts (s.lock k).queue, c ∉ headContexts (s.lock l).queue)
    (ht : u.RevokesHeld t p ls) : s.RevokesHeld t p (l :: ls) := by
  have hheld : (s.lock l).heldByPort p = true := ((s.lock l).heldByPort_iff p).2 ⟨h, hh, hp⟩
  have hsame : ∀ k ∈ ls, u.lock k = s.lock k := fun k hk => hr.locks k fun e => hnot (e ▸ hk)
  have hepoch : u.epoch = s.epoch := (hr.keeps.2 .generator (by simp)).2.2
  refine ⟨hr.keeps.trans ht.keeps, fun k hk hk' => ?_, fun k hk => ?_, fun c hc => ?_, fun q hq => ?_, ?_⟩
  · rcases List.mem_cons.1 hk with rfl | hk
    · refine hr.lost.congr ⟨_, rfl⟩ (ht.locks k fun hmem => hnot hmem.1) fun c hc => ⟨rfl, ht.contexts c ?_⟩
      exact fun j hj _ hcj => hapart j hj c (hsame j hj ▸ hcj) hc
    · have hlost := ht.lost k hk (by rwa [hsame k hk])
      rw [hsame k hk] at hlost
      exact hlost.congr ⟨_, hsame k hk⟩ rfl fun c hc => ⟨(hr.contexts c (hapart k hk c hc)).symm, rfl⟩
  · have hne : k ≠ l := by
      rintro rfl
      exact hk ⟨List.mem_cons_self, hheld⟩
    rw [ht.locks k fun ⟨hmem, hk'⟩ => hk ⟨List.mem_cons_of_mem _ hmem, by rwa [← hsame k hmem]⟩, hr.locks k hne]
  · rw [ht.contexts c fun k hk hk' => ?_, hr.contexts c (hc l List.mem_cons_self hheld)]
    rw [hsame k hk] at hk' ⊢
    exact hc k (List.mem_cons_of_mem _ hk) hk'
  · rw [ht.links q hq, hr.links q (hp ▸ hq)]
  · have hlink := hp ▸ hr.link
    rw [ht.link, State.withdrawnRecords_congr hsame hepoch, hlink, State.withdrawnRecords_cons_of_held hheld]
    simp

/-- The locks of a port are revoked one by one. -/
theorem State.revokesHeld_revokeHeld (hs : s.settled) (hn : ls.Nodup)
    (hw : (ls.flatMap fun l => (s.lock l).queue.map Waiter.ctx).Nodup) : s.RevokesHeld (s.revokeHeld p ls) p ls := by
  induction ls generalizing s with
  | nil =>
    exact {
      keeps := State.keepsBut_refl _ _
      lost := nofun
      locks := fun _ _ => rfl
      contexts := fun _ _ => rfl
      links := fun _ _ => rfl
      link := by simp [State.revokeHeld, State.withdrawnRecords] }
  | cons l ls ih =>
    obtain ⟨hnot, hn⟩ := List.nodup_cons.1 hn
    rw [List.flatMap_cons, List.nodup_append] at hw
    obtain ⟨-, hrest, hapart⟩ := hw
    cases hheld : (s.lock l).heldByPort p with
    | false =>
      rw [State.revokeHeld_cons_of_not_held hheld]
      exact (ih hs hn hrest).cons_of_not_held hheld
    | true =>
      obtain ⟨h, hh, hp⟩ := ((s.lock l).heldByPort_iff p).1 hheld
      have hr := State.revokes_revoke hs hh .withdrawn s.epoch
      have hsame : ∀ k ∈ ls, (s.revoke l .withdrawn s.epoch).lock k = s.lock k :=
        fun k hk => hr.locks k fun e => hnot (e ▸ hk)
      rw [State.revokeHeld_cons_of_held hheld]
      refine State.RevokesHeld.cons_of_held hr hh hp hnot (fun k hk c hc hc' => ?_)
        (ih (hr.keeps.settled (by simp) hs) hn ?_)
      · exact hapart c (mem_map_ctx_of_mem_headContexts hc') c
          (List.mem_flatMap.2 ⟨k, hk, mem_map_ctx_of_mem_headContexts hc⟩) rfl
      · rwa [List.flatMap_congr fun k hk => by rw [hsame k hk]]

end RevokeHeld

/-! ### The requests and waiters of the port -/

section CancelLu
variable {s : State} {p : Port}

/-- The requests of port `p` at LU, PENDING and WAITING, have been cancelled. -/
def State.cancelLu (s : State) (p : Port) : State :=
  ((s.cancelAll p (.pending .lu)).mapLocks fun k => { k with queue := leaveQueueOfPort p k.queue }).cancelAll p
    (.waiting .lu)

theorem State.luWithdraw_eq (s : State) (p : Port) :
    s.luWithdraw p = ((s.cancelLu p).revokePort p).sendLu p .acknowledge := rfl

theorem State.cancelLu_lock (s : State) (p : Port) (l : LockNum) : (s.cancelLu p).lock l =
    { s.lock l with queue := leaveQueueOfPort p (s.lock l).queue } := by
  simp [State.cancelLu]

theorem State.cancelLu_link (s : State) (p q : Port) : (s.cancelLu p).link q = s.link q := by
  simp [State.cancelLu]

theorem State.settled_cancelAll (hs : s.settled) (p : Port) (x : CtxState) : (s.cancelAll p x).settled :=
  (State.keepsBut_cancelAll hs p x []).settled (by simp) hs

theorem State.keepsBut_cancelLu (hs : s.settled) (p : Port) : s.keepsBut (s.cancelLu p) [.locks] :=
  (State.keepsBut_cancelAll hs p _ _).trans ((State.keepsBut_mapLocks _).trans
    (State.keepsBut_cancelAll ((State.mapLocks_settled _ _).2 (State.settled_cancelAll hs p _)) p _ _))

theorem State.cancelLu_ctx (hs : s.settled) (p : Port) (c : CtxNum) : (s.cancelLu p).ctx c =
    if portOf c = p ∧ ((s.ctx c).state = .pending .lu ∨ (s.ctx c).state = .waiting .lu) then
      (s.ctx c).completed { code := .cancelled }
    else s.ctx c := by
  have hs' := (State.mapLocks_settled _ fun k => { k with queue := leaveQueueOfPort p k.queue }).2
    (State.settled_cancelAll hs p (.pending .lu))
  rw [State.cancelLu, State.ctx_cancelAll hs' p (t := .waiting .lu) nofun, State.mapLocks_ctx,
    State.ctx_cancelAll hs p (t := .pending .lu) nofun]
  by_cases hp : portOf c = p
  · by_cases hst : (s.ctx c).state = .pending .lu
    · simp [hp, hst, Context.completed]
    · simp [hp, hst]
  · simp [hp]

/-- The contexts that still wait do so at one lock each. -/
theorem State.cancelLu_nodup (hn : s.lockEntries.Nodup) (p : Port) :
    (allLocks.flatMap fun l => ((s.cancelLu p).lock l).queue.map Waiter.ctx).Nodup := by
  refine hn.sublist (List.Sublist.flatMap_right allLocks fun l _ => ?_)
  rw [State.cancelLu_lock]
  exact List.filter_sublist.map _

end CancelLu

/-! ### The whole step -/

section LuWithdraw
variable {s : State} {p : Port} {l : LockNum} {c : CtxNum}

/-- A lock that a context of the port holds is so once the port's requests have been cancelled. -/
theorem State.cancelLu_heldByPort (s : State) (p : Port) (l : LockNum) :
    ((s.cancelLu p).lock l).heldByPort p = (s.lock l).heldByPort p := by
  rw [State.cancelLu_lock, Lock.heldByPort_eq, Lock.heldByPort_eq]

/-- No context of the port is left in a queue. -/
theorem portOf_ne_of_mem_leaveQueueOfPort {q : List Waiter} (h : c ∈ headContexts (leaveQueueOfPort p q)) :
    portOf c ≠ p := by
  obtain ⟨w, hw, rfl⟩ := List.mem_map.1 (mem_map_ctx_of_mem_headContexts h)
  exact of_decide_eq_true (List.mem_filter.1 hw).2

theorem State.revokesHeld_cancelLu (hs : s.settled) (hn : s.lockEntries.Nodup) (p : Port) :
    (s.cancelLu p).RevokesHeld ((s.cancelLu p).revokePort p) p allLocks := by
  rw [State.revokePort_eq]
  exact State.revokesHeld_revokeHeld ((State.keepsBut_cancelLu hs p).settled (by simp) hs) (List.nodup_finRange 64)
    (State.cancelLu_nodup hn p)

theorem State.keepsBut_luWithdraw (hs : s.settled) (hn : s.lockEntries.Nodup) (p : Port) :
    s.keepsBut (s.luWithdraw p) [.messages, .locks] := by
  rw [State.luWithdraw_eq]
  exact ((State.keepsBut_cancelLu hs p).mono (by simp)).trans
    (((State.revokesHeld_cancelLu hs hn p).keeps.mono (by simp)).trans ((State.keepsBut_sendLu _ _).mono (by simp)))

/-- A context that no lock passes to is left as the cancellations left it. -/
theorem State.luWithdraw_ctx (hs : s.settled) (hn : s.lockEntries.Nodup)
    (hc : ∀ l, (s.lock l).heldByPort p = true → c ∉ headContexts (leaveQueueOfPort p (s.lock l).queue)) :
    (s.luWithdraw p).ctx c = (s.cancelLu p).ctx c := by
  rw [State.luWithdraw_eq, State.sendLu_ctx]
  refine (State.revokesHeld_cancelLu hs hn p).contexts c fun l _ hl => ?_
  rw [State.cancelLu_heldByPort] at hl
  rw [State.cancelLu_lock]
  exact hc l hl

/-- The port's requests at LU end with CANCELLED. -/
theorem State.luWithdraw_cancels (hs : s.settled) (hn : s.lockEntries.Nodup) (hp : portOf c = p)
    (hst : (s.ctx c).state = .pending .lu ∨ (s.ctx c).state = .waiting .lu) :
    s.ends (s.luWithdraw p) c { code := .cancelled } := by
  rw [State.ends, State.luWithdraw_ctx hs hn fun _ _ hc => portOf_ne_of_mem_leaveQueueOfPort hc hp,
    State.cancelLu_ctx hs, if_pos ⟨hp, hst⟩]
  exact Context.ended_completed _ _

/-- What the revocations take from a state `u`, they take from a state that shows the same but for the lock's queue. -/
theorem State.RevokesHeld.losesLock {u t : State} {q : List Waiter} (hr : u.RevokesHeld t p allLocks)
    (hl : (u.lock l).heldByPort p = true) (hlock : u.lock l = { s.lock l with queue := q })
    (hctx : ∀ c ∈ headContexts q, u.ctx c = s.ctx c) : s.losesLock t l q := by
  have hlost := hr.lost l (mem_allLocks l) hl
  rw [show (u.lock l).queue = q by rw [hlock]] at hlost
  exact hlost.congr ⟨q, hlock⟩ rfl fun c hc => ⟨(hctx c hc).symm, rfl⟩

/-- A message does not show in the loss of a lock. -/
theorem State.sendLu_losesLock {t : State} {q : List Waiter} (h : s.losesLock t l q) (p : Port) (m : LuMessage) :
    s.losesLock (t.sendLu p m) l q :=
  h.congr ⟨_, rfl⟩ (t.sendLu_lock p m l) fun c _ => ⟨rfl, t.sendLu_ctx p m c⟩

/-- A lock of the port passes to its head waiter of another port, or is left FREE. -/
theorem State.luWithdraw_losesLock (hs : s.settled) (hn : s.lockEntries.Nodup) (hl : (s.lock l).heldByPort p = true) :
    s.losesLock (s.luWithdraw p) l (leaveQueueOfPort p (s.lock l).queue) := by
  rw [State.luWithdraw_eq]
  refine State.sendLu_losesLock (State.RevokesHeld.losesLock (State.revokesHeld_cancelLu hs hn p) ?_
    (State.cancelLu_lock s p l) fun c hc => ?_) p _
  · rwa [State.cancelLu_heldByPort]
  · rw [State.cancelLu_ctx hs, if_neg fun h => portOf_ne_of_mem_leaveQueueOfPort hc h.1]

/-- Another lock loses the port's waiters alone. -/
theorem State.luWithdraw_lock (hs : s.settled) (hn : s.lockEntries.Nodup) (hl : (s.lock l).heldByPort p = false) :
    (s.luWithdraw p).lock l = { s.lock l with queue := leaveQueueOfPort p (s.lock l).queue } := by
  rw [State.luWithdraw_eq, State.sendLu_lock, (State.revokesHeld_cancelLu hs hn p).locks l, State.cancelLu_lock]
  rw [State.cancelLu_heldByPort, hl]
  simp

theorem State.luWithdraw_link_ne (hs : s.settled) (hn : s.lockEntries.Nodup) {q : Port} (hq : q ≠ p) :
    (s.luWithdraw p).link q = s.link q := by
  rw [State.luWithdraw_eq, State.sendLu, State.modLink_link_ne _ _ _ hq,
    (State.revokesHeld_cancelLu hs hn p).links q hq, State.cancelLu_link]

theorem State.withdrawnRecords_cancelLu (hs : s.settled) (p : Port) (ls : List LockNum) :
    (s.cancelLu p).withdrawnRecords p ls = s.withdrawnRecords p ls := by
  have hepoch : (s.cancelLu p).epoch = s.epoch := ((State.keepsBut_cancelLu hs p).2 .generator (by simp)).2.2
  unfold State.withdrawnRecords
  rw [List.filter_congr fun l _ => State.cancelLu_heldByPort s p l, hepoch]
  exact List.map_congr_left fun l _ => by rw [State.cancelLu_lock]; rfl

/-- The port is sent the records in increasing lock number, and the acknowledgement behind them. -/
theorem State.luWithdraw_link_self (hs : s.settled) (hn : s.lockEntries.Nodup) : (s.luWithdraw p).link p =
    { s.link p with fromLu := (s.link p).fromLu ++ s.withdrawnRecords p allLocks ++ [.acknowledge] } := by
  rw [State.luWithdraw_eq, State.sendLu, State.modLink_link_self, (State.revokesHeld_cancelLu hs hn p).link,
    State.withdrawnRecords_cancelLu hs, State.cancelLu_link]

end LuWithdraw

/-- A notice that has left its unit shows in no context and in no lock. -/
theorem State.dropNotice_ends (s t : State) (p : Port) (u : UnitId) (c : CtxNum) (r : Answer) :
    (s.dropNotice p u).ends t c r ↔ s.ends t c r := Iff.rfl

theorem State.dropNotice_losesLock (s t : State) (p : Port) (u : UnitId) (l : LockNum) (q : List Waiter) :
    (s.dropNotice p u).losesLock t l q ↔ s.losesLock t l q := Iff.rfl

/-- Settles O45: the cancellations, the revocation of the port's locks one by one, and the acknowledgement. -/
theorem luWithdrawalNotice : Obligations.LuWithdrawalNotice := by
  intro s p hs hcons ht held left
  have e : exec (.luWithdrawalNotice p .take) s = .next ((s.dropNotice p .lu).luWithdraw p) := by
    simp only [exec, execLuWithdrawalNotice]
    exact State.withdrawalNotice_taken ht _
  have hs' : (s.dropNotice p .lu).settled := hs
  obtain ⟨⟨hn, -⟩, -⟩ := hcons
  have hn : (s.dropNotice p .lu).lockEntries.Nodup := hn
  have hlock (l : LockNum) : (s.dropNotice p .lu).lock l = s.lock l := rfl
  have hctx (c : CtxNum) : (s.dropNotice p .lu).ctx c = s.ctx c := rfl
  have hheld (l : LockNum) : ((s.dropNotice p .lu).lock l).heldByPort p = held l := Lock.heldByPort_eq _ p
  refine ⟨_, e, ?_, fun c hp hst => ?_, fun l hl => ?_, fun l hl => ?_, fun c hc hhead => ?_, fun q hq => ?_, ?_⟩
  · exact ((State.keepsBut_modLink _ _).mono (by simp)).trans (State.keepsBut_luWithdraw hs' hn p)
  · exact (State.dropNotice_ends ..).1 (State.luWithdraw_cancels hs' hn hp hst)
  · exact (State.dropNotice_losesLock ..).1 (State.luWithdraw_losesLock hs' hn (hheld l ▸ hl))
  · rw [State.luWithdraw_lock hs' hn (hheld l ▸ hl), hlock]
    rfl
  · rw [State.luWithdraw_ctx hs' hn fun l hl hmem => hhead l (hheld l ▸ hl) (mem_headContexts.1 hmem),
      State.cancelLu_ctx hs', hctx, if_neg hc]
  · rw [State.luWithdraw_link_ne hs' hn hq]
    exact State.modLink_link_ne _ _ _ hq
  · have hrecords : (s.dropNotice p .lu).withdrawnRecords p allLocks =
        (allLocks.filter held).map fun l => .record ((s.lock l).lossRecord l .withdrawn s.epoch) := by
      unfold State.withdrawnRecords
      rw [List.filter_congr fun l _ => hheld l]
      rfl
    rw [State.luWithdraw_link_self hs' hn, hrecords, State.dropNotice, State.modLink_link_self]

end Sys2Proof.Machine

namespace Sys2Proof.Machine

/-! ## Messages that arrive at a PI (R58, R75, R82) -/

section Arrive
variable {s : State} {p : Port} {n : ChanNum}

/-- A PI takes a message: the messages and the interface of its port change, and nothing else. -/
theorem State.modLink_modPort_changes (s : State) (p : Port) (f : Links → Links) (g : PortInterface → PortInterface) :
    ((s.modLink p f).modPort p g).contexts = s.contexts ∧ s.keepsBut ((s.modLink p f).modPort p g) [.ports, .messages] ∧
      s.keepsPortsBut ((s.modLink p f).modPort p g) p ∧
      (∀ q, q ≠ p → ((s.modLink p f).modPort p g).link q = s.link q) ∧
      ((s.modLink p f).modPort p g).link p = f (s.link p) ∧ ((s.modLink p f).modPort p g).port p = g (s.port p) :=
  ⟨rfl, ((State.keepsBut_modLink p f).mono (by simp)).trans ((State.keepsBut_modPort p g).mono (by simp)),
    State.keepsPortsBut_modPort p g, fun _ hq => State.modLink_link_ne _ _ _ hq, State.modLink_link_self ..,
    State.modPort_port_self ..⟩

/-- CU's first message about a channel stands behind those about other channels. -/
theorem nextAbout_of_append {before after : List CuMessage} {m : CuMessage} (hb : ∀ x ∈ before, x.channel ≠ n)
    (hm : m.channel = n) :
    nextAbout n (before ++ m :: after) = some m ∧ withoutNextAbout n (before ++ m :: after) = before ++ after := by
  induction before with
  | nil => simp [nextAbout, withoutNextAbout, hm]
  | cons x before ih =>
    obtain ⟨hx, hb⟩ := List.forall_mem_cons.1 hb
    obtain ⟨hnext, hrest⟩ := ih hb
    exact ⟨by simpa [nextAbout, hx] using hnext, by simp [withoutNextAbout, hx, hrest]⟩

theorem PortState.inService_eq (x : PortState) : x.inService = decide (x ≠ .offline) := by
  cases x <;> rfl

@[simp] theorem getElem_chanBit (n k : ChanNum) (h : k.val < 16) : (chanBit n)[k.val] = decide (k = n) := by
  simp [chanBit, BitVec.getElem_twoPow, Fin.ext_iff]

/-- A setting is not taken while the port is OFFLINE. -/
theorem PortInterface.takeCu_setting_of_offline {i : PortInterface} {m : CuMessage} (ho : i.state = .offline)
    (hm : m.set = true) : i.takeCu m = i := by
  cases h : m.kind <;> simp [PortInterface.takeCu, PortState.inService_eq, ho, hm, h]

/-- What a setting or a clearing from CU does to the flags of its port: the one flag that it names becomes what it says,
unless it is a setting and the port is OFFLINE. -/
theorem PortInterface.takeCu_flags (i : PortInterface) (m : CuMessage) (k : ChanNum) :
    let takes := m.set = false ∨ i.state ≠ .offline
    i.takeCu m = { i with dataFlags := (i.takeCu m).dataFlags, spaceFlags := (i.takeCu m).spaceFlags } ∧
      (i.takeCu m).dataFlags.getLsbD k.val =
        (if m.kind = .data ∧ k = m.channel ∧ takes then m.set else i.dataFlags.getLsbD k.val) ∧
      (i.takeCu m).spaceFlags.getLsbD k.val =
        (if m.kind = .space ∧ k = m.channel ∧ takes then m.set else i.spaceFlags.getLsbD k.val) := by
  obtain ⟨c, kind, set⟩ := m
  cases kind <;> cases set
  case data.false | space.false => by_cases hk : k = c <;> simp [PortInterface.takeCu, hk]
  case data.true | space.true =>
    by_cases ho : i.state = .offline
    · rw [PortInterface.takeCu_setting_of_offline ho rfl]
      exact ⟨rfl, by simp [ho], by simp [ho]⟩
    · by_cases hk : k = c <;> simp [PortInterface.takeCu, PortState.inService_eq, ho, hk]

/-- The arrival of CU's next message about channel `n`, as the command of its sort. -/
theorem exec_flagArrival (hr : s.resetHeld = false) {m : CuMessage} (hm : nextAbout n (s.link p).fromCu = some m) :
    exec (if m.set then .flagSettingArrival p n else .flagClearingArrival p n) s =
      .next ((s.modLink p fun k => { k with fromCu := withoutNextAbout n k.fromCu }).modPort p fun i => i.takeCu m) := by
  cases h : m.set <;>
    simp [exec, execFlagSettingArrival, execFlagClearingArrival, State.live, hr, State.takeCuMessage, hm, h]

end Arrive

/-- Settles O48: a record, then a setting or clearing, each taken from the messages and written to the port interface. -/
theorem recordsAndFlagsArrive : Obligations.RecordsAndFlagsArrive := by
  refine ⟨fun s p r rest hr hq => ?_, fun s p n before after m hr hq hb hm => ?_⟩
  · have e : exec (.revocationRecordArrival p) s = .next ((s.modLink p fun k => { k with fromLu := rest }).modPort p
        fun i => i.takeRecord r) := by
      simp [exec, execRevocationRecordArrival, State.live, hr, hq]
    exact ⟨_, e, State.modLink_modPort_changes ..⟩
  · obtain ⟨hnext, hrest⟩ := nextAbout_of_append (after := after) hb hm
    obtain ⟨hc, hk, hp, ho, hlink, hport⟩ := s.modLink_modPort_changes p
      (fun k => { k with fromCu := withoutNextAbout n k.fromCu }) fun i => i.takeCu m
    refine ⟨_, exec_flagArrival hr (by rw [hq, hnext]), hc, hk, hp, ho, by rw [hlink, hq, hrest], ?_⟩
    rw [hport, ← hm]
    exact ⟨((s.port p).takeCu_flags m 0).1, fun k => ((s.port p).takeCu_flags m k).2⟩

end Sys2Proof.Machine

namespace Sys2Proof.Machine

/-! ## Read words of LOG (R57, R59, R156, R162) -/

section LogWords
variable {s : State} {p : Port}

/-- What a complete word of LOG does to its port: the value has been sent, and the oldest record leaves the log if the
word carries one. -/
def PortInterface.logSent (pops : Bool) (v : Word) (i : PortInterface) : PortInterface :=
  { i with latch := none, sent := some v, log := if pops then i.log.tail else i.log }

theorem State.sendLatched_log {pops : Bool} {v : Word} (h : (s.port p).latch = some ⟨.log pops, v⟩) :
    s.sendLatched p = s.modPort p (PortInterface.logSent pops v) := by
  rw [State.sendLatched, h]
  cases pops
  · rfl
  · exact State.modPort_modPort s p (PortInterface.withSent v) fun i => { i with log := i.log.tail }

theorem readLatch_log (s : State) (p : Port) :
    s.readLatch p 0x0C = ⟨.log (decide ((s.port p).log ≠ [])), (s.port p).logWord⟩ := by
  rw [State.readLatch, State.readSource_log]
  cases h : (s.port p).log <;> rfl

/-- The fields of a record in LOG. -/
theorem RevocationRecord.word_fields (r : RevocationRecord) :
    r.word.extractLsb' 0 6 = BitVec.ofNat 6 r.lock.val ∧ r.word.extractLsb' 8 8 = r.generation ∧
      r.word.extractLsb' 16 16 = r.epoch ∧ r.word.extractLsb' 6 2 = r.cause.bits := by
  simp [RevocationRecord.word, BitVec.extractLsb'_or]

/-- LOG shows the oldest record, or 0. -/
theorem PortInterface.logWord_shows (i : PortInterface) :
    (i.log = [] → i.logWord = 0) ∧ ∀ r rest, i.log = r :: rest → i.logWord = r.word := by
  refine ⟨fun h => ?_, fun r rest h => ?_⟩ <;> rw [PortInterface.logWord, h]

end LogWords

/-- Settles O56, by the part of the word. -/
theorem logReadPopsTheOldest : Obligations.LogReadPopsTheOldest := by
  intro s p shows
  have hshows : shows (s.port p).logWord := by
    obtain ⟨hempty, holdest⟩ := (s.port p).logWord_shows
    refine ⟨hempty, fun r rest h => ?_⟩
    obtain ⟨hlock, hgeneration, hepoch, hcause⟩ := r.word_fields
    rw [holdest r rest h]
    exact ⟨hlock, hgeneration, hepoch, hcause.trans (by cases r.cause <;> rfl)⟩
  simp only [exec, execLogRead]
  refine ⟨fun h => ?_, fun h => ?_, fun v pops h => ?_⟩
  · have htail : (if decide ((s.port p).log ≠ []) then (s.port p).log.tail else (s.port p).log) = (s.port p).log.tail := by
      cases (s.port p).log <;> rfl
    rw [State.readWord_whole h, ← htail]
    obtain ⟨t, e, hc, hw⟩ := State.word_modPort h.1 (act := fun s => (s.latchWord p (s.readLatch p 0x0C)).sendLatched p)
      (f := PortInterface.logSent (decide ((s.port p).log ≠ [])) (s.port p).logWord) (by
        rw [readLatch_log, State.sendLatched_log (State.latchWord_latch ..), State.latchWord, State.modPort_modPort]
        rfl) rfl
    exact ⟨t, _, e, hc, hshows, hw⟩
  · rw [State.readWord_firstBit h, readLatch_log]
    obtain ⟨hc, ho, hk, hp⟩ := s.latchWord_changes p ⟨.log (decide ((s.port p).log ≠ [])), (s.port p).logWord⟩
    exact ⟨_, _, rfl, hc, hshows, ho, hk, hp⟩
  · rw [State.readWord_lastBit h (by rw [State.readSource_log]; rfl)]
    exact State.word_modPort h.takesWord (f := PortInterface.logSent pops v) (State.sendLatched_log h.2.2) rfl

end Sys2Proof.Machine

namespace Sys2Proof.Machine

/-! ## Flags cleared by a written 1 (R60, R61, R146, R147, R149) -/

section Clears
variable {s : State} {p : Port}

/-- The bits of flags after a clearing word: those named are the test's. -/
theorem getLsbD_clearedFlags (flags mask test : BitVec 16) (n : ChanNum) :
    (clearedFlags flags mask test).getLsbD n.val =
      (if mask.getLsbD n.val then test.getLsbD n.val else flags.getLsbD n.val) := by
  cases h : mask.getLsbD n.val <;> simp [clearedFlags] at h ⊢ <;> simp [h]

theorem getLsbD_dataTest (s : State) (p : Port) (n : ChanNum) : (s.dataTest p).getLsbD n.val = true ↔ s.dataDue p n := by
  rw [State.dataTest, getLsbD_bitsOf, Channel.hasDataFor_iff]

theorem getLsbD_spaceTest (s : State) (p : Port) (n : ChanNum) :
    (s.spaceTest p).getLsbD n.val = true ↔ s.spaceDue p n := by
  rw [State.spaceTest, getLsbD_bitsOf, Channel.hasSpaceFor_iff]

/-- The test of a clear is made at a port in service alone. -/
theorem getLsbD_testInService {x : PortState} {test : BitVec 16} {n : ChanNum} {due : Prop}
    (h : test.getLsbD n.val = true ↔ due) :
    (if x.inService then test else 0).getLsbD n.val = true ↔ x ≠ .offline ∧ due := by
  cases x <;> simp [PortState.inService] at h ⊢ <;> exact h

/-- A port interface after a word at EVENT FLAGS 0. -/
def PortInterface.flagsCleared (w : Word) (i : PortInterface) : PortInterface :=
  { i with leaseLost := if w.getLsbD 4 then decide (i.log ≠ []) else i.leaseLost
           windowError := if w.getLsbD 5 then false else i.windowError }

theorem State.clearLeaseLost_eq (s : State) (p : Port) :
    s.clearLeaseLost p = s.modPort p fun i => { i with leaseLost := decide (i.log ≠ []) } := by
  unfold State.clearLeaseLost
  congr 1
  funext i
  cases i.log <;> rfl

/-- A clear of a port's interface that a bit of the word fires. -/
theorem strobe_modPort (b : Bool) (p : Port) (f : PortInterface → PortInterface) (s : State) :
    strobe b (fun s => s.modPort p f) s = s.modPort p fun i => if b then f i else i := by
  cases b
  · change s = { s with ports := s.ports.put p (s.ports.at p) }
    rw [Table.put_at_self]
  · rfl

/-- What a word at EVENT FLAGS 0 does: its two clears, each if its bit is 1. -/
theorem State.writeWord_eventFlags0 (s : State) (p : Port) (w : Word) :
    s.writeWord p 0x04 w = s.modPort p (PortInterface.flagsCleared w) := by
  have h : s.writeWord p 0x04 w = strobe (w.getLsbD 5) (fun s => s.clearWindowError p)
      (strobe (w.getLsbD 4) (fun s => s.clearLeaseLost p) s) := rfl
  simp only [h, State.clearLeaseLost_eq, State.clearWindowError, strobe_modPort, State.modPort_modPort]
  congr 1
  funext i
  rw [PortInterface.flagsCleared]
  cases w.getLsbD 5 <;> cases w.getLsbD 4 <;> rfl

/-- What a word at LOG STATUS does: it acts by its OVERFLOW bit. -/
theorem State.writeWord_logStatus (s : State) (p : Port) (w : Word) : s.writeWord p 0x0D w =
    s.modPort p fun i => { i with overflow := if w.getLsbD 8 then false else i.overflow } := by
  have h : s.writeWord p 0x0D w = strobe (w.getLsbD 8) (fun s => s.clearOverflow p) s := rfl
  simp only [h, State.clearOverflow, strobe_modPort]
  cases w.getLsbD 8 <;> rfl

/-- The DATA flags of a port after a clearing word (R146, R147). -/
def State.dataFlagsAfter (s : State) (p : Port) (mask : BitVec 16) (i : PortInterface) : BitVec 16 :=
  clearedFlags i.dataFlags mask (if i.state.inService then s.dataTest p else 0)

/-- The SPACE flags of a port after a clearing word (R146, R147). -/
def State.spaceFlagsAfter (s : State) (p : Port) (mask : BitVec 16) (i : PortInterface) : BitVec 16 :=
  clearedFlags i.spaceFlags mask (if i.state.inService then s.spaceTest p else 0)

theorem State.getLsbD_dataFlagsAfter (s : State) (p : Port) (mask : BitVec 16) (i : PortInterface) (n : ChanNum) :
    (s.dataFlagsAfter p mask i).getLsbD n.val = true ↔
      if mask.getLsbD n.val then i.state ≠ .offline ∧ s.dataDue p n else i.dataFlags.getLsbD n.val = true := by
  rw [State.dataFlagsAfter, getLsbD_clearedFlags]
  split
  · exact getLsbD_testInService (getLsbD_dataTest s p n)
  · rfl

theorem State.getLsbD_spaceFlagsAfter (s : State) (p : Port) (mask : BitVec 16) (i : PortInterface) (n : ChanNum) :
    (s.spaceFlagsAfter p mask i).getLsbD n.val = true ↔
      if mask.getLsbD n.val then i.state ≠ .offline ∧ s.spaceDue p n else i.spaceFlags.getLsbD n.val = true := by
  rw [State.spaceFlagsAfter, getLsbD_clearedFlags]
  split
  · exact getLsbD_testInService (getLsbD_spaceTest s p n)
  · rfl

end Clears

/-- Settles O57: the clears one by one, each a change of the port's interface. -/
theorem flagClears : Obligations.FlagClears := by
  intro s p
  refine ⟨fun w h => ?_, fun w h => ?_, fun h => ?_, fun h => ?_, fun h => ?_, fun mask h => ?_, fun mask h => ?_⟩
  · exact State.word_modPort h (act := fun s => s.writeWord p 0x04 w) (s.writeWord_eventFlags0 p w) rfl
  · exact State.word_modPort h (act := fun s => s.writeWord p 0x0D w) (s.writeWord_logStatus p w) rfl
  · exact State.word_modPort h (act := fun s => s.clearLeaseLost p) (s.clearLeaseLost_eq p) rfl
  · exact State.word_modPort h (act := fun s => s.clearWindowError p) (f := fun i => { i with windowError := false }) rfl rfl
  · exact State.word_modPort h (act := fun s => s.clearOverflow p) (f := fun i => { i with overflow := false }) rfl rfl
  · obtain ⟨t, e, hc, hw⟩ := State.word_modPort h (act := fun s => s.clearData p mask)
      (f := fun i => { i with dataFlags := s.dataFlagsAfter p mask i }) rfl rfl
    have hflags : (t.port p).dataFlags = s.dataFlagsAfter p mask (s.port p) := by rw [hw.1]
    refine ⟨t, e, hc, ?_, fun n => ?_⟩ <;> rw [hflags]
    · exact hw
    · exact s.getLsbD_dataFlagsAfter p mask _ n
  · obtain ⟨t, e, hc, hw⟩ := State.word_modPort h (act := fun s => s.clearSpace p mask)
      (f := fun i => { i with spaceFlags := s.spaceFlagsAfter p mask i }) rfl rfl
    have hflags : (t.port p).spaceFlags = s.spaceFlagsAfter p mask (s.port p) := by rw [hw.1]
    refine ⟨t, e, hc, ?_, fun n => ?_⟩ <;> rw [hflags]
    · exact hw
    · exact s.getLsbD_spaceFlagsAfter p mask _ n

end Sys2Proof.Machine

namespace Sys2Proof.Machine

/-! ## Waits that end at a tick (R47, R76) -/

section TimeOuts
variable {s : State} {cs : List CtxNum} {c : CtxNum}

/-- Each context of `cs` completed with TIMEOUT. -/
def State.endWaits (s : State) (cs : List CtxNum) : State :=
  s.mapCtxs fun c x => if c ∈ cs then x.completed { code := .timeout } else x

theorem State.endWaits_ctx (s : State) (cs : List CtxNum) (c : CtxNum) :
    (s.endWaits cs).ctx c = if c ∈ cs then (s.ctx c).completed { code := .timeout } else s.ctx c :=
  s.mapCtxs_ctx _ c

theorem State.mapCtxs_id {f : CtxNum → Context → Context} (h : ∀ c, f c (s.ctx c) = s.ctx c) : s.mapCtxs f = s := by
  have e : s.contexts.mapEach f = s.contexts := Table.ext_at fun c => by rw [Table.at_mapEach]; exact h c
  rw [State.mapCtxs, e]

/-- Who ends is what matters, not in which order. -/
theorem State.endWaits_congr {cs' : List CtxNum} (h : ∀ c, c ∈ cs ↔ c ∈ cs') : s.endWaits cs = s.endWaits cs' := by
  unfold State.endWaits
  simp only [h]

@[simp] theorem State.endWaits_nil (s : State) : s.endWaits [] = s := State.mapCtxs_id fun c => by simp

/-- One context ends, then others. -/
theorem State.endWaits_modCtx (hc : c ∉ cs) :
    (s.modCtx c fun x => x.completed { code := .timeout }).endWaits cs = s.endWaits (c :: cs) := by
  have e : ((s.modCtx c fun x => x.completed { code := .timeout }).endWaits cs).contexts =
      (s.endWaits (c :: cs)).contexts := Table.ext_at fun d => by
    change State.ctx _ d = State.ctx _ d
    rw [State.endWaits_ctx, State.endWaits_ctx, State.modCtx_ctx]
    by_cases hd : d = c
    · simp [hd, hc]
    · simp [hd]
  exact congrArg (fun x => { s with contexts := x }) e

/-- The completions of waits that end together, none of which brings a withdrawal to its end. -/
theorem State.timeOutAll_eq (hs : s.settled) (hn : cs.Nodup) : s.timeOutAll cs = s.endWaits cs := by
  induction cs generalizing s with
  | nil => rw [State.endWaits_nil, State.timeOutAll, List.foldl_nil]
  | cons c cs ih =>
    obtain ⟨hc, hn⟩ := List.nodup_cons.1 hn
    rw [← State.endWaits_modCtx hc, ← State.complete_of_settled hs, ← ih (State.complete_settled hs _ _) hn]
    rfl

theorem State.keepsBut_endWaits (s : State) (cs : List CtxNum) (A : List Part) : s.keepsBut (s.endWaits cs) A :=
  State.keepsBut_mapCtxs _ A

theorem State.ends_endWaits (h : c ∈ cs) : s.ends (s.endWaits cs) c { code := .timeout } := by
  rw [State.ends, State.endWaits_ctx, if_pos h]
  exact Context.ended_completed _ _

end TimeOuts

/-! ### Entries of the queues -/

section Entries
variable {s : State} {c : CtxNum}

theorem State.keepsBut_setLuTicks (ts : List LuTick) : s.keepsBut (s.setLuTicks ts) [.luTicks] :=
  ⟨rfl, fun q hq => by cases q <;> simp [State.keeps] at hq ⊢⟩

theorem State.keepsBut_setCuTicks (k : Nat) (b : Bool) : s.keepsBut (s.setCuTicks k b) [.cuTicks] :=
  ⟨rfl, fun q hq => by cases q <;> simp [State.keeps] at hq ⊢⟩

theorem State.lockEntries_eq_map (s : State) :
    s.lockEntries = (allLocks.flatMap fun l => (s.lock l).queue).map Waiter.ctx := by
  rw [State.lockEntries, List.map_flatMap]

theorem State.channelEntries_eq_map (s : State) :
    s.channelEntries = (allChans.flatMap fun n => (s.chan n).senders ++ (s.chan n).receivers).map WaitEntry.ctx := by
  rw [State.channelEntries, List.map_flatMap]

/-- A context has one lock entry at most. -/
theorem State.lock_entry_unique (hn : s.lockEntries.Nodup) {k l : LockNum} {v w : Waiter} (hv : v ∈ (s.lock k).queue)
    (hw : w ∈ (s.lock l).queue) (h : v.ctx = w.ctx) : v = w :=
  List.inj_on_of_nodup_map (s.lockEntries_eq_map ▸ hn) (List.mem_flatMap.2 ⟨k, mem_allLocks k, hv⟩)
    (List.mem_flatMap.2 ⟨l, mem_allLocks l, hw⟩) h

/-- A context has one channel entry at most. -/
theorem State.channel_entry_unique (hn : s.channelEntries.Nodup) {k n : ChanNum} {d e : WaitEntry}
    (hd : d ∈ (s.chan k).senders ++ (s.chan k).receivers) (he : e ∈ (s.chan n).senders ++ (s.chan n).receivers)
    (h : d.ctx = e.ctx) : d = e :=
  List.inj_on_of_nodup_map (s.channelEntries_eq_map ▸ hn) (List.mem_flatMap.2 ⟨k, mem_allChans k, hd⟩)
    (List.mem_flatMap.2 ⟨n, mem_allChans n, he⟩) h

theorem State.mem_lockTimeouts : c ∈ s.lockTimeouts ↔ ∃ l, ∃ w ∈ (s.lock l).queue, w.ctx = c ∧ w.ticks = 1 := by
  simp only [State.lockTimeouts, List.mem_flatMap, List.mem_map, List.mem_filter, Waiter.timesOut, decide_eq_true_eq,
    mem_allLocks, true_and]
  grind

theorem State.mem_channelTimeouts : c ∈ s.channelTimeouts ↔
    ∃ n, ∃ e ∈ (s.chan n).senders ++ (s.chan n).receivers, e.ctx = c ∧ e.ticks = 1 := by
  simp only [State.channelTimeouts, List.mem_flatMap, List.mem_map, List.mem_filter, WaitEntry.timesOut,
    decide_eq_true_eq, mem_allChans, true_and]
  grind

theorem State.nodup_lockTimeouts (hn : s.lockEntries.Nodup) : s.lockTimeouts.Nodup :=
  hn.sublist (List.Sublist.flatMap_right allLocks fun _ _ => List.filter_sublist.map _)

theorem State.nodup_channelTimeouts (hn : s.channelEntries.Nodup) : s.channelTimeouts.Nodup :=
  hn.sublist (List.Sublist.flatMap_right allChans fun _ _ => List.filter_sublist.map _)

/-- The first part of a tick step at LU: the queues are counted, and the waits that are over end. -/
theorem State.countLockWaits_eq (hs : s.settled) (hn : s.lockEntries.Nodup) :
    s.countLockWaits = (s.mapLocks fun k => { k with queue := countQueue k.queue }).endWaits s.lockTimeouts :=
  State.timeOutAll_eq ((s.mapLocks_settled _).2 hs) (State.nodup_lockTimeouts hn)

/-- A tick step at CU. -/
theorem State.countChannelWaits_eq (hs : s.settled) (hn : s.channelEntries.Nodup) :
    s.countChannelWaits = (s.mapChans fun c =>
      { c with senders := countEntries c.senders, receivers := countEntries c.receivers }).endWaits s.channelTimeouts :=
  State.timeOutAll_eq ((s.mapChans_settled _).2 hs) (State.nodup_channelTimeouts hn)

end Entries

/-- Settles O29: LU's command, then CU's, each the end of one wait. -/
theorem waitsTimeOut : Obligations.WaitsTimeOut := by
  refine ⟨fun s cx tick rest l w hs hr hf hticks hpoint hw hcx h1 => ?_, fun s cx n e hs hr hticks he hcx h1 => ?_⟩
  · have due : s.lockTimeoutDue cx = true :=
      List.contains_iff_mem.2 (State.mem_lockTimeouts.2 ⟨l, w, hw, hcx, h1⟩)
    have e : exec (.lockWaitTimeout cx) s = .next
        (((s.mapLocks fun k => { k with queue := leaveQueue cx k.queue }).setLuTicks
          ({ tick with point := .waits } :: rest)).complete cx { code := .timeout }) := by
      rw [exec, execLockWaitTimeout, State.onLuTick_of_stands hr hf hticks]
      rcases hpoint with h | h <;> simp only [h, due, if_true]
    obtain ⟨hkeeps, hothers, hends⟩ := State.complete_changes
      (s := (s.mapLocks fun k => { k with queue := leaveQueue cx k.queue }).setLuTicks
        ({ tick with point := .waits } :: rest)) (by simpa using hs) cx { code := .timeout }
    refine ⟨_, e, ((State.keepsBut_mapLocks _).mono (by simp)).trans
      (((State.keepsBut_setLuTicks _).mono (by simp)).trans (hkeeps _)), State.keepsContextsBut_of_eq fun c hc => ?_,
      fun k => ?_, ?_, ?_⟩
    · rw [hothers c (by simpa using hc), State.setLuTicks_ctx, State.mapLocks_ctx]
    · rw [State.complete_lock, State.setLuTicks_lock, State.mapLocks_lock, leaveQueue]
    · rw [State.complete_luTicks, State.setLuTicks_luTicks]
    · rwa [State.ends, State.setLuTicks_ctx, State.mapLocks_ctx] at hends
  · have due : s.channelTimeouts.contains cx = true :=
      List.contains_iff_mem.2 (State.mem_channelTimeouts.2 ⟨n, e, he, hcx, h1⟩)
    have e : exec (.channelWaitTimeout cx) s = .next
        (((s.leaveChannels cx).setCuTicks s.cuTicks true).complete cx { code := .timeout }) := by
      rw [exec, execChannelWaitTimeout, State.live, hr, if_neg (by simp), if_pos ⟨hticks, due⟩]
    obtain ⟨hkeeps, hothers, hends⟩ := State.complete_changes
      (s := (s.leaveChannels cx).setCuTicks s.cuTicks true) (by simpa [State.leaveChannels] using hs) cx { code := .timeout }
    refine ⟨_, e, ((State.keepsBut_mapChans _).mono (by simp)).trans
      (((State.keepsBut_setCuTicks _ _).mono (by simp)).trans (hkeeps _)), State.keepsContextsBut_of_eq fun c hc => ?_,
      ?_, fun k => ?_, ?_⟩
    · rw [hothers c (by simpa using hc), State.setCuTicks_ctx, State.leaveChannels, State.mapChans_ctx]
    · rw [State.complete_cuTicks, State.setCuTicks_cuTicks]
    · rw [State.complete_chan, State.setCuTicks_chan, State.leaveChannels, State.mapChans_chan, leaveEntries, leaveEntries]
    · rwa [State.ends, State.setCuTicks_ctx, State.leaveChannels, State.mapChans_ctx] at hends

end Sys2Proof.Machine

namespace Sys2Proof.Machine

/-! ## The visits of the leases at a tick (R48, R50) -/

/-- The visits of the locks of `ls`, in their order. -/
def State.visitAll (s : State) (epoch : BitVec 16) (ls : List LockNum) : State :=
  ls.foldl (fun s l => s.visitLease epoch l) s

/-- The lease of the lock runs out, and a context of `p` holds it. -/
def Lock.lostBy (k : Lock) (p : Port) : Bool := k.runsOut && k.holder.any fun h => portOf h == p

/-- The records that port `p` is sent when the leases of `ls` are visited. -/
def State.expiryRecords (s : State) (epoch : BitVec 16) (p : Port) (ls : List LockNum) : List LuMessage :=
  (ls.filter fun l => (s.lock l).lostBy p).map fun l => .record ((s.lock l).lossRecord l .expired epoch)

/-- The contexts that are granted lock `l` if its lease runs out. -/
def State.heirs (s : State) (l : LockNum) : List CtxNum :=
  if (s.lock l).runsOut then headContexts (s.lock l).queue else []

section Visits
variable {s t u : State} {epoch : BitVec 16} {l : LockNum} {ls ms : List LockNum} {c : CtxNum} {p : Port}

theorem State.mem_heirs : c ∈ s.heirs l ↔ (s.lock l).runsOut = true ∧ c ∈ headContexts (s.lock l).queue := by
  unfold State.heirs
  split <;> simp_all

theorem Lock.running_of_runsOut {k : Lock} (h : k.runsOut = true) : k.running = true :=
  (Bool.and_eq_true_iff.1 h).1

theorem Lock.holder_of_runsOut {k : Lock} (h : k.runsOut = true) : ∃ x, k.holder = some x := by
  simp only [Lock.runsOut, Lock.running, Bool.and_eq_true] at h
  obtain ⟨⟨⟨hh, -⟩, -⟩, -⟩ := h
  exact Option.isSome_iff_exists.1 hh

/-- All that the visits of the leases of `ls` change. -/
structure State.Visits (s t : State) (epoch : BitVec 16) (ls : List LockNum) : Prop where
  keeps : s.keepsBut t [.locks, .messages]
  lost : ∀ l ∈ ls, (s.lock l).runsOut = true → s.losesLock t l (s.lock l).queue
  counted : ∀ l, ¬ (l ∈ ls ∧ (s.lock l).runsOut = true) → t.lock l =
    { s.lock l with lease := if l ∈ ls ∧ (s.lock l).running = true then (s.lock l).lease - 1 else (s.lock l).lease }
  contexts : ∀ c, (∀ l ∈ ls, c ∉ s.heirs l) → t.ctx c = s.ctx c
  links : ∀ p, t.link p = { s.link p with fromLu := (s.link p).fromLu ++ s.expiryRecords epoch p ls }

theorem State.Visits.lock_of_not_mem (h : s.Visits t epoch ls) (hl : l ∉ ls) : t.lock l = s.lock l := by
  rw [h.counted l fun hm => hl hm.1, if_neg fun hm => hl hm.1]

theorem State.visits_nil (s : State) (epoch : BitVec 16) : s.Visits s epoch [] where
  keeps := State.keepsBut_refl _ _
  lost := nofun
  counted l _ := by simp
  contexts _ _ := rfl
  links p := by simp [State.expiryRecords]

/-- The visit of one lock. -/
theorem State.visits_visitLease (hs : (s.lock l).runsOut = true → s.settled) :
    s.Visits (s.visitLease epoch l) epoch [l] := by
  have only {k : LockNum} : k ∈ [l] ↔ k = l := List.mem_singleton
  rcases s.visitLease_cases epoch l with ⟨hrun, e⟩ | ⟨hrun, h1, e⟩ | ⟨hout, e⟩
  · have hout : (s.lock l).runsOut = false := by simp [Lock.runsOut, hrun]
    rw [e]
    exact {
      keeps := State.keepsBut_refl _ _
      lost := fun k hk h => absurd h (by rw [only.1 hk, hout]; simp)
      counted := fun k _ => by
        rw [if_neg]
        rintro ⟨hk, h⟩
        rw [only.1 hk, hrun] at h
        exact nomatch h
      contexts := fun _ _ => rfl
      links := fun q => by simp [State.expiryRecords, Lock.lostBy, hout] }
  · have hout : (s.lock l).runsOut = false := by rw [Lock.runsOut, decide_eq_false h1, Bool.and_false]
    rw [e]
    exact {
      keeps := (State.keepsBut_modLock l _).mono (by simp)
      lost := fun k hk h => absurd h (by rw [only.1 hk, hout]; simp)
      counted := fun k _ => by
        by_cases hk : k = l
        · rw [hk, State.modLock_lock_self, if_pos ⟨only.2 rfl, hrun⟩]
        · rw [State.modLock_lock_ne _ _ _ hk, if_neg fun h => hk (only.1 h.1)]
      contexts := fun _ _ => rfl
      links := fun q => by simp [State.expiryRecords, Lock.lostBy, hout] }
  · obtain ⟨h, hh⟩ := Lock.holder_of_runsOut hout
    have hself := s.modLock_lock_self l fun x => { x with lease := x.lease - 1 }
    have hr := State.revokes_revoke (s := s.modLock l fun x => { x with lease := x.lease - 1 }) (l := l) (h := h)
      ((s.modLock_settled _ _).2 (hs hout)) (by rw [hself]; exact hh) .expired epoch
    have hqueue : ((s.modLock l fun x => { x with lease := x.lease - 1 }).lock l).queue = (s.lock l).queue := by
      rw [hself]
    rw [e]
    refine {
      keeps := ((State.keepsBut_modLock l _).mono (by simp)).trans hr.keeps
      lost := fun k hk _ => ?_
      counted := fun k hk => ?_
      contexts := fun c hc => ?_
      links := fun q => ?_ }
    · have hlost := hr.lost
      rw [only.1 hk]
      rw [hqueue] at hlost
      cases hq : (s.lock l).queue with
      | nil =>
        rw [hq, State.losesLock, hself] at hlost
        exact hlost
      | cons w rest =>
        rw [hq, State.losesLock, hself] at hlost
        exact hlost
    · have hne : k ≠ l := by
        rintro rfl
        exact hk ⟨only.2 rfl, hout⟩
      rw [hr.locks k hne, State.modLock_lock_ne _ _ _ hne, if_neg fun h => hne (only.1 h.1)]
    · refine hr.contexts c fun hm => ?_
      rw [hqueue] at hm
      exact hc l (only.2 rfl) (State.mem_heirs.2 ⟨hout, hm⟩)
    · by_cases hq : q = portOf h
      · rw [hq, hr.link, hself]
        simp [State.expiryRecords, Lock.lostBy, hout, hh, Lock.lossRecord]
      · have hpq : portOf h ≠ q := fun e => hq e.symm
        rw [hr.links q hq]
        simp [State.expiryRecords, Lock.lostBy, hh, hpq]

/-- Visits of some locks and then of others, the heirs being different ones. -/
theorem State.Visits.append (h : s.Visits u epoch ls) (h' : u.Visits t epoch ms) (hd : ∀ l ∈ ls, l ∉ ms)
    (hapart : ∀ l ∈ ls, ∀ m ∈ ms, ∀ c ∈ s.heirs l, c ∉ s.heirs m) : s.Visits t epoch (ls ++ ms) := by
  have hsame : ∀ m ∈ ms, u.lock m = s.lock m := fun m hm => h.lock_of_not_mem fun hl => hd m hl hm
  have hheirs : ∀ m ∈ ms, u.heirs m = s.heirs m := fun m hm => by rw [State.heirs, State.heirs, hsame m hm]
  refine {
    keeps := h.keeps.trans h'.keeps
    lost := fun l hl hout => ?_
    counted := fun l hl => ?_
    contexts := fun c hc => ?_
    links := fun p => ?_ }
  · rcases List.mem_append.1 hl with hl | hl
    · refine (h.lost l hl hout).congr ⟨_, rfl⟩ (h'.lock_of_not_mem (hd l hl)) fun c hc => ⟨rfl, h'.contexts c ?_⟩
      exact fun m hm hcm => hapart l hl m hm c (State.mem_heirs.2 ⟨hout, hc⟩) (hheirs m hm ▸ hcm)
    · have hlost := h'.lost l hl (by rwa [hsame l hl])
      rw [hsame l hl] at hlost
      refine hlost.congr ⟨_, hsame l hl⟩ rfl fun c hc => ⟨(h.contexts c fun k hk hck => ?_).symm, rfl⟩
      exact hapart k hk l hl c hck (State.mem_heirs.2 ⟨hout, hc⟩)
  · rw [List.mem_append] at hl
    by_cases hm : l ∈ ms
    · have hnot : l ∉ ls := fun hl' => hd l hl' hm
      rw [h'.counted l (by rw [hsame l hm]; exact fun e => hl ⟨.inr hm, e.2⟩), hsame l hm]
      simp [hm]
    · rw [h'.lock_of_not_mem hm, h.counted l fun e => hl ⟨.inl e.1, e.2⟩]
      simp [hm]
  · rw [h'.contexts c fun m hm => ?_, h.contexts c fun l hl => hc l (List.mem_append_left _ hl)]
    rw [hheirs m hm]
    exact hc m (List.mem_append_right _ hm)
  · have hrec : u.expiryRecords epoch p ms = s.expiryRecords epoch p ms := by
      unfold State.expiryRecords
      rw [List.filter_congr fun m hm => by rw [hsame m hm]]
      exact List.map_congr_left fun m hm => by rw [hsame m (List.mem_filter.1 hm).1]
    rw [h'.links p, h.links p, hrec]
    simp [State.expiryRecords]

/-- The locks are visited one after the other. Of the heirs it matters only that no context is one twice. -/
theorem State.visits_visitAll (hs : ∀ l ∈ ls, (s.lock l).runsOut = true → s.settled) (hn : ls.Nodup)
    (hapart : ls.Pairwise fun l m => ∀ c ∈ s.heirs l, c ∉ s.heirs m) : s.Visits (s.visitAll epoch ls) epoch ls := by
  induction ls generalizing s with
  | nil => exact s.visits_nil epoch
  | cons l ls ih =>
    obtain ⟨hnot, hn⟩ := List.nodup_cons.1 hn
    obtain ⟨hl, hapart⟩ := List.pairwise_cons.1 hapart
    have h1 : s.Visits (s.visitLease epoch l) epoch [l] := State.visits_visitLease (hs l List.mem_cons_self)
    have hsame : ∀ m ∈ ls, (s.visitLease epoch l).lock m = s.lock m :=
      fun m hm => h1.lock_of_not_mem fun e => hnot (List.mem_singleton.1 e ▸ hm)
    have hheirs : ∀ m ∈ ls, (s.visitLease epoch l).heirs m = s.heirs m :=
      fun m hm => by rw [State.heirs, State.heirs, hsame m hm]
    refine h1.append (ms := ls) (ih (fun m hm hout => ?_) hn (hapart.imp_of_mem fun hm hk h => ?_)) ?_ ?_
    · rw [hsame m hm] at hout
      exact h1.keeps.settled (by simp) (hs m (List.mem_cons_of_mem _ hm) hout)
    · rw [hheirs _ hm, hheirs _ hk]
      exact h
    · exact fun k hk => List.mem_singleton.1 hk ▸ hnot
    · exact fun k hk => List.mem_singleton.1 hk ▸ hl

end Visits

end Sys2Proof.Machine

namespace Sys2Proof.Machine

/-! ## The step of a tick event at LU (R46 to R48) -/

/-! ### The locks between two numbers -/

/-- The locks numbered from `lo` to below `hi`, in increasing number. -/
def locksBetween (lo hi : Nat) : List LockNum := allLocks.filter fun l => decide (lo ≤ l.val ∧ l.val < hi)

theorem mem_locksBetween {lo hi : Nat} {l : LockNum} : l ∈ locksBetween lo hi ↔ lo ≤ l.val ∧ l.val < hi := by
  simp [locksBetween]

theorem nodup_allLocks : allLocks.Nodup := List.nodup_finRange 64

theorem nodup_locksBetween (lo hi : Nat) : (locksBetween lo hi).Nodup := nodup_allLocks.filter _

theorem locksBetween_self (n : Nat) : locksBetween n n = [] :=
  List.filter_eq_nil_iff.2 fun l _ => by simp only [decide_eq_true_eq]; omega

/-- In a list of increasing numbers those below `m` stand before those from `m` on. -/
theorem filter_between_append {ls : List LockNum} (hsorted : ls.Pairwise fun l m => l.val < m.val) {lo m hi : Nat}
    (h : lo ≤ m) (h' : m ≤ hi) : (ls.filter fun l => decide (lo ≤ l.val ∧ l.val < hi)) =
      (ls.filter fun l => decide (lo ≤ l.val ∧ l.val < m)) ++ ls.filter fun l => decide (m ≤ l.val ∧ l.val < hi) := by
  induction ls with
  | nil => rfl
  | cons a ls ih =>
    obtain ⟨ha, hrest⟩ := List.pairwise_cons.1 hsorted
    by_cases hm : a.val < m
    · have e1 : decide (lo ≤ a.val ∧ a.val < hi) = decide (lo ≤ a.val ∧ a.val < m) := by
        rw [decide_eq_decide]
        omega
      have e2 : ¬ (m ≤ a.val ∧ a.val < hi) := by omega
      rw [List.filter_cons, List.filter_cons, List.filter_cons_of_neg (by simpa using e2), ih hrest, e1]
      split <;> simp
    · have hfrom : ∀ l ∈ a :: ls, m ≤ l.val := fun l hl => by
        rcases List.mem_cons.1 hl with rfl | hl
        · omega
        · have := ha l hl
          omega
      have hnone : (a :: ls).filter (fun l => decide (lo ≤ l.val ∧ l.val < m)) = [] :=
        List.filter_eq_nil_iff.2 fun l hl => by
          have := hfrom l hl
          simp only [decide_eq_true_eq]
          omega
      rw [hnone, List.nil_append]
      refine List.filter_congr fun l hl => ?_
      have := hfrom l hl
      rw [decide_eq_decide]
      omega

theorem locksBetween_append {lo m hi : Nat} (h : lo ≤ m) (h' : m ≤ hi) :
    locksBetween lo hi = locksBetween lo m ++ locksBetween m hi :=
  filter_between_append (List.pairwise_ofFn.2 fun _ _ h => h) h h'

theorem locksBetween_succ (l : LockNum) : locksBetween l.val (l.val + 1) = [l] := by
  have h : locksBetween l.val (l.val + 1) = allLocks.filter fun k => k == l :=
    List.filter_congr fun k _ => by
      rw [Bool.beq_eq_decide_eq, decide_eq_decide, Fin.ext_iff]
      omega
  rw [h, List.filter_beq, List.count_eq_one_of_mem nodup_allLocks (mem_allLocks l)]
  rfl

/-- The locks up to `l`, then `l`, then those after it. -/
theorem locksBetween_split {lo hi : Nat} {l : LockNum} (h : lo ≤ l.val) (h' : l.val < hi) :
    locksBetween lo hi = locksBetween lo (l.val + 1) ++ locksBetween (l.val + 1) hi ∧
      locksBetween lo (l.val + 1) = locksBetween lo l.val ++ [l] :=
  ⟨locksBetween_append (by omega) (by omega), by rw [locksBetween_append h (Nat.le_succ _), locksBetween_succ]⟩

/-! ### The two parts of the step -/

/-- The first lock whose visit a tick step at this point has still to make. -/
def TickPoint.next : TickPoint → Nat
  | .leases n => n
  | _ => 0

theorem TickPoint.visits_iff {x : TickPoint} {hi : Nat} {l : LockNum} :
    x.visits hi l = true ↔ l ∈ locksBetween x.next hi := by
  cases x <;> simp [TickPoint.visits, TickPoint.next, mem_locksBetween, and_comm]

theorem TickPoint.passed_eq_false_iff {x : TickPoint} {l : LockNum} : x.passed l = false ↔ x.next ≤ l.val := by
  cases x <;> simp [TickPoint.passed, TickPoint.next]

/-- The state once the waits have been counted, if that is still to be done. -/
def State.waitsCounted (s : State) (x : TickPoint) : State := if x.countsWaits then s.countLockWaits else s

section TickStep
variable {s t u : State} {tick : LuTick} {x : TickPoint} {l : LockNum} {c : CtxNum} {ls ms : List LockNum}
  {epoch : BitVec 16}

theorem State.luTickUpTo_eq (s : State) (tick : LuTick) (hi : Nat) :
    s.luTickUpTo tick hi = (s.waitsCounted tick.point).visitAll tick.epoch (locksBetween tick.point.next hi) := by
  obtain ⟨epoch, point⟩ := tick
  cases point <;> rfl

theorem State.visitAll_append (s : State) (epoch : BitVec 16) (ls ms : List LockNum) :
    s.visitAll epoch (ls ++ ms) = (s.visitAll epoch ls).visitAll epoch ms := List.foldl_append

/-- All that the count of the waits changes. -/
structure State.CountsWaits (s u : State) (x : TickPoint) : Prop where
  keeps : s.keepsBut u [.locks]
  lock : ∀ l, u.lock l = { s.lock l with queue := x.queueOf (s.lock l).queue }
  link : ∀ p, u.link p = s.link p
  ended : ∀ c, s.waitEnds x c → s.ends u c { code := .timeout }
  contexts : ∀ c, ¬ s.waitEnds x c → u.ctx c = s.ctx c

theorem countQueue_eq (h : x.countsWaits = true) (q : List Waiter) : countQueue q = x.queueOf q := by
  rw [countQueue, TickPoint.queueOf, if_pos h]
  congr 1
  exact List.filter_congr fun w _ => by rw [Waiter.timesOut, decide_not]

/-- The count of the waits, where it ends each of those that are over. -/
theorem State.countsWaits_of_eq (h : x.countsWaits = true → s.countLockWaits =
    (s.mapLocks fun k => { k with queue := countQueue k.queue }).endWaits s.lockTimeouts) :
    s.CountsWaits (s.waitsCounted x) x := by
  cases hx : x.countsWaits with
  | false =>
    have e : s.waitsCounted x = s := if_neg (by simp [hx])
    rw [e]
    exact {
      keeps := State.keepsBut_refl _ _
      lock := fun l => by rw [TickPoint.queueOf, if_neg (by simp [hx])]
      link := fun _ => rfl
      ended := fun c hc => nomatch hx.symm.trans hc.1
      contexts := fun _ _ => rfl }
  | true =>
    have e : s.waitsCounted x = _ := (if_pos hx).trans (h hx)
    have hends (c : CtxNum) : c ∈ s.lockTimeouts ↔ s.waitEnds x c := by
      rw [State.mem_lockTimeouts, State.waitEnds, hx, and_iff_right rfl]
    rw [e]
    refine {
      keeps := (State.keepsBut_mapLocks _).trans (State.keepsBut_endWaits _ _ _)
      lock := fun l => ?_
      link := fun p => ?_
      ended := fun c hc => ?_
      contexts := fun c hc => ?_ }
    · rw [State.endWaits, State.mapCtxs_lock, State.mapLocks_lock, countQueue_eq hx]
    · rw [State.endWaits, State.mapCtxs_link, State.mapLocks_link]
    · have := State.ends_endWaits (s := s.mapLocks fun k => { k with queue := countQueue k.queue }) ((hends c).2 hc)
      rwa [State.ends, State.mapLocks_ctx] at this
    · rw [State.endWaits_ctx, if_neg fun hm => hc ((hends c).1 hm), State.mapLocks_ctx]

theorem State.countsWaits (hs : s.settled) (hn : s.lockEntries.Nodup) (x : TickPoint) :
    s.CountsWaits (s.waitsCounted x) x :=
  State.countsWaits_of_eq fun _ => State.countLockWaits_eq hs hn

/-- Where no wait is over, none ends. -/
theorem State.countsWaits_of_none (h : ∀ l, ∀ w ∈ (s.lock l).queue, w.ticks ≠ 1) (x : TickPoint) :
    s.CountsWaits (s.waitsCounted x) x := by
  refine State.countsWaits_of_eq fun _ => ?_
  have hnone : s.lockTimeouts = [] := List.eq_nil_iff_forall_not_mem.2 fun c hc => by
    obtain ⟨l, w, hw, -, h1⟩ := State.mem_lockTimeouts.1 hc
    exact h l w hw h1
  rw [State.countLockWaits, hnone, State.endWaits_nil, State.timeOutAll, List.foldl_nil]

namespace State.CountsWaits
variable (h : s.CountsWaits u x)
include h

theorem runsOut (l : LockNum) : (u.lock l).runsOut = (s.lock l).runsOut := by
  rw [h.lock l]
  rfl

theorem running (l : LockNum) : (u.lock l).running = (s.lock l).running := by
  rw [h.lock l]
  rfl

theorem queue (l : LockNum) : (u.lock l).queue = x.queueOf (s.lock l).queue := by rw [h.lock l]

/-- The heirs are those of `State.inherits`. -/
theorem mem_heirs : c ∈ u.heirs l ↔ s.inherits x c l := by
  rw [State.mem_heirs, h.runsOut, h.queue, mem_headContexts]
  rfl

/-- Who is in a queue once the waits have been counted was there before, and its wait has not ended. -/
theorem entry (hn : s.lockEntries.Nodup) (hc : c ∈ (u.lock l).queue.map Waiter.ctx) :
    c ∈ (s.lock l).queue.map Waiter.ctx ∧ ¬ s.waitEnds x c := by
  rw [h.queue, TickPoint.queueOf] at hc
  split at hc
  · rename_i hx
    rw [List.map_map] at hc
    obtain ⟨w, hw, rfl⟩ := List.mem_map.1 hc
    obtain ⟨hw, hticks⟩ := List.mem_filter.1 hw
    refine ⟨List.mem_map.2 ⟨w, hw, rfl⟩, fun ⟨_, k, v, hv, hvc, h1⟩ => ?_⟩
    rw [State.lock_entry_unique hn hv hw hvc] at h1
    exact of_decide_eq_true hticks h1
  · rename_i hx
    exact ⟨hc, fun hw => hx hw.1⟩

/-- A context that inherits a lock has not timed out. -/
theorem not_waitEnds_of_mem_heirs (hn : s.lockEntries.Nodup) (hc : c ∈ u.heirs l) : ¬ s.waitEnds x c :=
  (h.entry hn (mem_map_ctx_of_mem_headContexts (State.mem_heirs.1 hc).2)).2

/-- No context inherits two locks. -/
theorem heirs_apart (hn : s.lockEntries.Nodup) {k : LockNum} (hc : c ∈ u.heirs l) (hc' : c ∈ u.heirs k) : l = k := by
  have mem {j : LockNum} (hj : c ∈ u.heirs j) : c ∈ (s.lock j).queue.map Waiter.ctx :=
    (h.entry hn (mem_map_ctx_of_mem_headContexts (State.mem_heirs.1 hj).2)).1
  by_contra hne
  have hsymm : Std.Symm (Function.onFun List.Disjoint fun l => (s.lock l).queue.map Waiter.ctx) := ⟨fun _ _ h => h.symm⟩
  exact (List.nodup_flatMap.1 hn).2.forall (mem_allLocks l) (mem_allLocks k) hne (mem hc) (mem hc')

/-- The records that a port is sent are those of the locks that it holds before the step. -/
theorem expiryRecords (epoch : BitVec 16) (p : Port) (hi : Nat) : u.expiryRecords epoch p (locksBetween x.next hi) =
    (allLocks.filter fun l => x.visits hi l && (s.lock l).runsOut && (s.lock l).holder.any fun h => portOf h == p).map
      fun l => .record ((s.lock l).lossRecord l .expired epoch) := by
  have hrecord (l : LockNum) : (u.lock l).lossRecord l .expired epoch = (s.lock l).lossRecord l .expired epoch := by
    rw [h.lock l]
    rfl
  simp only [State.expiryRecords, locksBetween, List.filter_filter, hrecord]
  refine congrArg (List.map _) (List.filter_congr fun l _ => ?_)
  have hlost : (u.lock l).lostBy p = (s.lock l).lostBy p := by
    rw [h.lock l]
    rfl
  have hvisits : decide (x.next ≤ l.val ∧ l.val < hi) = x.visits hi l := by
    rw [Bool.eq_iff_iff, TickPoint.visits_iff, mem_locksBetween, decide_eq_true_eq]
  rw [hlost, hvisits, Lock.lostBy, Bool.and_comm, Bool.and_assoc]

end State.CountsWaits

/-- The step carried on to a lock, as R46 to R48 order it: the waits, and then the leases one by one. -/
theorem State.visits_luTickUpTo (hs : s.settled) (hn : s.lockEntries.Nodup) (tick : LuTick) (hi : Nat) :
    (s.waitsCounted tick.point).Visits (s.luTickUpTo tick hi) tick.epoch (locksBetween tick.point.next hi) := by
  have h := State.countsWaits hs hn tick.point
  rw [State.luTickUpTo_eq]
  refine State.visits_visitAll (fun _ _ _ => h.keeps.settled (by simp) hs) (nodup_locksBetween _ _) ?_
  refine (nodup_locksBetween _ _).imp fun hne c hc hc' => hne (h.heirs_apart hn hc hc')

theorem State.keepsBut_luTickUpTo (hs : s.settled) (hn : s.lockEntries.Nodup) (tick : LuTick) (hi : Nat) :
    s.keepsBut (s.luTickUpTo tick hi) [.locks, .messages] :=
  ((State.countsWaits hs hn tick.point).keeps.mono (by simp)).trans (State.visits_luTickUpTo hs hn tick hi).keeps

theorem State.carriesTick_luTickUpTo (hs : s.settled) (hn : s.lockEntries.Nodup) (tick : LuTick) (hi : Nat) :
    s.carriesTick (s.luTickUpTo tick hi) tick hi := by
  have h := State.countsWaits hs hn tick.point
  have hv := State.visits_luTickUpTo hs hn tick hi
  have hmem (l : LockNum) : tick.point.visits hi l = true ↔ l ∈ locksBetween tick.point.next hi := TickPoint.visits_iff
  refine ⟨fun c hc => ?_, fun l hl hout => ?_, fun l hl => ?_, fun c hc hinh => ?_, fun p => ?_⟩
  · rw [State.ends, hv.contexts c fun l _ hm => h.not_waitEnds_of_mem_heirs hn hm hc]
    exact h.ended c hc
  · rw [← h.runsOut] at hout
    have hlost := hv.lost l ((hmem l).1 hl) hout
    rw [h.queue] at hlost
    refine hlost.congr ⟨_, h.lock l⟩ rfl fun c hc => ⟨(h.contexts c ?_).symm, rfl⟩
    exact h.not_waitEnds_of_mem_heirs hn (State.mem_heirs.2 ⟨hout, h.queue l ▸ hc⟩)
  · rw [hmem, ← h.runsOut] at hl
    rw [hv.counted l hl, h.running, h.lock]
    simp only [hmem]
  · rw [hv.contexts c fun l hl hm => hinh l ((hmem l).2 hl) (h.mem_heirs.1 hm), h.contexts c hc]
  · rw [hv.links p, h.link p, h.expiryRecords]

end TickStep

end Sys2Proof.Machine

namespace Sys2Proof.Machine

/-! ## Leases that reach 0 (R48, R50) -/

section Expiry
variable {s t : State} {tick : LuTick} {rest : List LuTick} {l : LockNum} {epoch : BitVec 16} {ls : List LockNum} {h : CtxNum}

/-- The visit of a lock comes after the visits up to it. -/
theorem State.luTickUpTo_succ (s : State) (h : tick.point.next ≤ l.val) :
    s.luTickUpTo tick (l.val + 1) = (s.luTickUpTo tick l.val).visitLease tick.epoch l := by
  rw [State.luTickUpTo_eq, State.luTickUpTo_eq, locksBetween_append h (Nat.le_succ _), locksBetween_succ,
    State.visitAll_append]
  rfl

/-- The expiry of a lock: the step stands behind it. -/
theorem exec_leaseExpiry (hr : s.resetHeld = false) (hf : s.forcing = none) (ht : s.luTicks = tick :: rest)
    (hnext : tick.point.next ≤ l.val) (hout : ((s.luTickUpTo tick l.val).lock l).runsOut = true) :
    exec (.leaseExpiry l) s = .next ((s.luTickUpTo tick (l.val + 1)).setLuTicks
      ({ tick with point := .leases (l.val + 1) } :: rest)) := by
  have hexp : ((s.luTickUpTo tick l.val).lock l).expires = true := hout
  rw [exec, execLeaseExpiry, State.onLuTick_of_stands hr hf ht, TickPoint.passed_eq_false_iff.2 hnext,
    State.luTickUpTo_succ s hnext]
  dsimp only
  rw [if_neg (by simp), if_pos hexp]

/-- A lock's lease runs out where it did before the step, the visits before leaving it alone. -/
theorem State.runsOut_luTickUpTo (hs : s.settled) (hn : s.lockEntries.Nodup) (tick : LuTick) (l : LockNum) :
    ((s.luTickUpTo tick l.val).lock l).runsOut = (s.lock l).runsOut := by
  rw [(State.visits_luTickUpTo hs hn tick l.val).lock_of_not_mem fun h => Nat.lt_irrefl _ (mem_locksBetween.1 h).2,
    (State.countsWaits hs hn tick.point).runsOut]

theorem State.visitAll_of_not_running (h : ∀ l ∈ ls, (s.lock l).running = false) : s.visitAll epoch ls = s := by
  induction ls with
  | nil => rfl
  | cons l ls ih =>
    obtain ⟨hl, hls⟩ := List.forall_mem_cons.1 h
    have e : s.visitLease epoch l = s := by
      rcases s.visitLease_cases epoch l with ⟨_, e⟩ | ⟨hrun, _⟩ | ⟨hout, _⟩
      · exact e
      · exact nomatch hl.symm.trans hrun
      · exact nomatch hl.symm.trans (Lock.running_of_runsOut hout)
    rw [State.visitAll, List.foldl_cons, e]
    exact ih hls

theorem State.mapLocks_id {f : Lock → Lock} (h : ∀ l, f (s.lock l) = s.lock l) : s.mapLocks f = s := by
  have e : (s.locks.mapEach fun _ k => f k) = s.locks := Table.ext_at fun l => by rw [Table.at_mapEach]; exact h l
  rw [State.mapLocks, e]

/-- Waits without a limit are not counted. -/
theorem Waiter.counted_of_unlimited {w : Waiter} (h : w.ticks = 0) : w.counted = w := by
  obtain ⟨ctx, priority, ticks⟩ := w
  cases h
  rfl

theorem countQueue_of_unlimited {q : List Waiter} (h : ∀ w ∈ q, w.ticks = 0) : countQueue q = q := by
  have hfilter : q.filter (fun w => !w.timesOut) = q :=
    List.filter_eq_self.2 fun w hw => by simp [Waiter.timesOut, h w hw]
  rw [countQueue, hfilter]
  exact (List.map_congr_left fun w hw => Waiter.counted_of_unlimited (h w hw)).trans (List.map_id q)

theorem State.countLockWaits_of_unlimited (h : ∀ l, ∀ w ∈ (s.lock l).queue, w.ticks = 0) : s.countLockWaits = s := by
  have hnone : s.lockTimeouts = [] := List.eq_nil_iff_forall_not_mem.2 fun c hc => by
    obtain ⟨l, w, hw, -, h1⟩ := State.mem_lockTimeouts.1 hc
    rw [h l w hw] at h1
    exact absurd h1 (by decide)
  rw [State.countLockWaits, hnone, State.timeOutAll, List.foldl_nil]
  exact State.mapLocks_id fun l => by rw [countQueue_of_unlimited (h l)]

/-- With no wait limited and no lease running before it, the step comes to a lock with nothing changed. -/
theorem State.luTickUpTo_of_nothing (h : tick.point = .leases l.val ∨
    (tick.point = .start ∧ (∀ k, ∀ w ∈ (s.lock k).queue, w.ticks = 0) ∧
      ∀ k, k < l → (s.lock k).holder = none ∨ (s.lock k).period = 0 ∨ (s.lock k).lease = 0)) :
    tick.point.next ≤ l.val ∧ s.luTickUpTo tick l.val = s := by
  rw [State.luTickUpTo_eq]
  rcases h with h | ⟨h, hwaits, hleases⟩ <;> rw [h]
  · refine ⟨Nat.le_refl _, ?_⟩
    rw [TickPoint.next, locksBetween_self]
    rfl
  · refine ⟨Nat.zero_le _, ?_⟩
    have e : s.waitsCounted .start = s := State.countLockWaits_of_unlimited hwaits
    rw [e]
    refine State.visitAll_of_not_running fun k hk => ?_
    rcases hleases k (mem_locksBetween.1 hk).2 with hk | hk | hk <;> simp [Lock.running, hk]

end Expiry

/-- What the tick carried on to leaves is seen at the contexts, the locks and the messages. -/
theorem State.carriesTick_setLuTicks {s t : State} {tick : LuTick} {hi : Nat} (ts : List LuTick) :
    s.carriesTick (t.setLuTicks ts) tick hi ↔ s.carriesTick t tick hi := Iff.rfl

/-- Settles O30: the step carried on to the lock and its visit; and one visit alone, where nothing comes before it. -/
theorem leaseExpires : Obligations.LeaseExpires := by
  refine ⟨fun s l tick rest hs hcons hr hf ht hv hout => ?_, fun s l tick rest h hs hr hf _ ht hfirst hh hper h1 => ?_⟩
  · obtain ⟨⟨hn, -⟩, -⟩ := hcons
    have hnext : tick.point.next ≤ l.val := (mem_locksBetween.1 (TickPoint.visits_iff.1 hv)).1
    refine ⟨_, exec_leaseExpiry hr hf ht hnext ((State.runsOut_luTickUpTo hs hn tick l).trans hout), ?_, rfl, ?_⟩
    · exact ((State.keepsBut_luTickUpTo hs hn tick _).mono (by simp)).trans ((State.keepsBut_setLuTicks _).mono (by simp))
    · exact (State.carriesTick_setLuTicks _).2 (State.carriesTick_luTickUpTo hs hn tick _)
  · obtain ⟨hnext, hnothing⟩ := State.luTickUpTo_of_nothing hfirst
    have hout : (s.lock l).runsOut = true := by
      rw [Lock.runsOut, Lock.running, hh, h1, decide_eq_true hper]
      rfl
    have e := exec_leaseExpiry hr hf ht hnext (by rwa [hnothing])
    have hv : s.Visits (s.visitLease tick.epoch l) tick.epoch [l] := State.visits_visitLease fun _ => hs
    rw [State.luTickUpTo_succ s hnext, hnothing] at e
    have hlink (q : Port) : ((s.visitLease tick.epoch l).link q) = { s.link q with
        fromLu := (s.link q).fromLu ++
          if portOf h = q then [.record ((s.lock l).lossRecord l .expired tick.epoch)] else [] } := by
      rw [hv.links q]
      by_cases hq : portOf h = q <;> simp [State.expiryRecords, Lock.lostBy, hout, hh, hq]
    refine ⟨_, e, (hv.keeps.mono (by simp)).trans ((State.keepsBut_setLuTicks _).mono (by simp)),
      State.keepsContextsBut_of_eq fun c hc => ?_, fun k hk => ?_, ?_, fun q hq => ?_, ?_, rfl⟩
    · rw [State.setLuTicks_ctx]
      refine hv.contexts c fun k hk hm => hc ?_
      rw [List.mem_singleton.1 hk] at hm
      exact (State.mem_heirs.1 hm).2
    · rw [State.setLuTicks_lock]
      exact hv.lock_of_not_mem fun hm => hk (List.mem_singleton.1 hm)
    · exact (hv.lost l List.mem_cons_self hout).congr ⟨_, rfl⟩ rfl fun c _ => ⟨rfl, rfl⟩
    · rw [State.setLuTicks_link, hlink, if_neg hq.symm, List.append_nil]
    · rw [State.setLuTicks_link, hlink, if_pos rfl]
      rfl

end Sys2Proof.Machine

namespace Sys2Proof.Machine

/-! ## Whole tick steps (R46 to R48, R76) -/

section Ticks
variable {s t : State} {tick : LuTick} {rest : List LuTick} {A : List Part}

theorem exec_luTick (hr : s.resetHeld = false) (hf : s.forcing = none) (ht : s.luTicks = tick :: rest) :
    exec .luTick s = .next ((s.luTickUpTo tick 64).setLuTicks rest) := by
  rw [exec, execLuTick, State.onLuTick_of_stands hr hf ht]

theorem exec_cuTick {k : Nat} (hr : s.resetHeld = false) (ht : s.cuTicks = k + 1) :
    exec .cuTick s = .next (s.countChannelWaits.setCuTicks k false) := by
  rw [exec, execCuTick, State.live, hr, if_neg (by simp), ht]

/-- What leaves the messages leaves them as a part. -/
theorem State.keepsBut.of_links (h : s.keepsBut t (.messages :: A)) (hlink : ∀ p, t.link p = s.link p) :
    s.keepsBut t A := by
  refine ⟨h.1, fun q hq => ?_⟩
  by_cases hm : q = .messages
  · subst hm
    exact fun p => by rw [hlink]
  · exact h.2 q (by simp [hm, hq])

theorem State.contexts_of_ctx (h : ∀ c, t.ctx c = s.ctx c) : t.contexts = s.contexts := Table.ext_at h

/-- A queue of a channel after a tick, as the statements write it. -/
theorem countEntries_eq (q : List WaitEntry) : countEntries q =
    (q.filter fun e => decide (e.ticks ≠ 1)).map fun e => { e with ticks := ticksAfter e.ticks } := by
  unfold countEntries
  refine congrArg (List.map _) (List.filter_congr fun e _ => ?_)
  rw [WaitEntry.timesOut, decide_not]

theorem State.countChannelWaits_chan (s : State) (n : ChanNum) : s.countChannelWaits.chan n =
    { s.chan n with senders := countEntries (s.chan n).senders, receivers := countEntries (s.chan n).receivers } := by
  rw [State.countChannelWaits, State.timeOutAll_chan, State.mapChans_chan]

/-- A filter that takes nothing out. -/
theorem filter_ticks_of_none {q : List WaitEntry} (h : ∀ e ∈ q, e.ticks ≠ 1) :
    (q.filter fun e => decide (e.ticks ≠ 1)) = q :=
  List.filter_eq_self.2 fun e he => decide_eq_true (h e he)

theorem TickPoint.queueOf_start_of_none {q : List Waiter} (h : ∀ w ∈ q, w.ticks ≠ 1) :
    TickPoint.start.queueOf q = q.map fun w => { w with ticks := ticksAfter w.ticks } := by
  rw [TickPoint.queueOf, if_pos (show TickPoint.start.countsWaits = true from rfl),
    List.filter_eq_self.2 fun w hw => decide_eq_true (h w hw)]

theorem Lock.running_iff (k : Lock) : k.running = true ↔ k.holder ≠ none ∧ k.period ≠ 0 ∧ k.lease ≠ 0 := by
  simp only [Lock.running, Bool.and_eq_true, decide_eq_true_eq, Option.isSome_iff_ne_none, and_assoc]

theorem Lock.runsOut_iff (k : Lock) : k.runsOut = true ↔ k.holder ≠ none ∧ k.period ≠ 0 ∧ k.lease = 1 := by
  rw [Lock.runsOut, Bool.and_eq_true, Lock.running_iff, decide_eq_true_eq]
  constructor
  · rintro ⟨⟨hh, hp, -⟩, h1⟩
    exact ⟨hh, hp, h1⟩
  · rintro ⟨hh, hp, h1⟩
    exact ⟨⟨hh, hp, by rw [h1]; decide⟩, h1⟩

/-- A tick step with nothing due, no wait and no lease: each is counted, and nothing else changes. -/
theorem State.luTickUpTo_of_none (hwaits : ∀ l, ∀ w ∈ (s.lock l).queue, w.ticks ≠ 1)
    (hleases : ∀ l, (s.lock l).runsOut = false) (tick : LuTick) :
    s.keepsBut (s.luTickUpTo tick 64) [.locks] ∧ (∀ c, (s.luTickUpTo tick 64).ctx c = s.ctx c) ∧
      ∀ l, (s.luTickUpTo tick 64).lock l = { s.lock l with
        queue := tick.point.queueOf (s.lock l).queue
        lease := if l ∈ locksBetween tick.point.next 64 ∧ (s.lock l).running = true then (s.lock l).lease - 1
          else (s.lock l).lease } := by
  have h := State.countsWaits_of_none hwaits tick.point
  have hout (l : LockNum) : ((s.waitsCounted tick.point).lock l).runsOut = false := (h.runsOut l).trans (hleases l)
  have hheirs (l : LockNum) (c : CtxNum) : c ∉ (s.waitsCounted tick.point).heirs l := fun hc =>
    nomatch (hout l).symm.trans (State.mem_heirs.1 hc).1
  have hv : (s.waitsCounted tick.point).Visits (s.luTickUpTo tick 64) tick.epoch (locksBetween tick.point.next 64) := by
    rw [State.luTickUpTo_eq]
    exact State.visits_visitAll (fun l _ hl => nomatch (hout l).symm.trans hl) (nodup_locksBetween _ _)
      (List.pairwise_of_forall fun l _ c hc => absurd hc (hheirs l c))
  refine ⟨State.keepsBut.of_links ((h.keeps.mono (by simp)).trans (hv.keeps.mono (by simp))) fun p => ?_, fun c => ?_,
    fun l => ?_⟩
  · rw [hv.links p, h.link p]
    simp [State.expiryRecords, Lock.lostBy, hout]
  · rw [hv.contexts c fun l _ => hheirs l c, h.contexts]
    rintro ⟨_, l, w, hw, _, h1⟩
    exact hwaits l w hw h1
  · rw [hv.counted l (by simp [hout]), h.running, h.lock]

end Ticks

/-- Settles O28: the whole steps at LU and CU; and the same with nothing due, where no invariant is needed. -/
theorem ticksCountWaitsAndLeases : Obligations.TicksCountWaitsAndLeases := by
  refine ⟨fun s tick rest hs hcons hr hf ht => ?_, fun s k hs hcons hr ht => ?_,
    fun s tick rest hr hf ht hpoint hwaits hleases => ?_, fun s k hr ht hwaits => ?_⟩
  · obtain ⟨⟨hn, -⟩, -⟩ := hcons
    refine ⟨_, exec_luTick hr hf ht, rfl, ?_, ?_⟩
    · exact ((State.keepsBut_luTickUpTo hs hn tick _).mono (by simp)).trans ((State.keepsBut_setLuTicks _).mono (by simp))
    · exact (State.carriesTick_setLuTicks _).2 (State.carriesTick_luTickUpTo hs hn tick _)
  · obtain ⟨⟨-, hn, -⟩, -⟩ := hcons
    intro entries after
    have hctx (c : CtxNum) : s.countChannelWaits.ctx c =
        if c ∈ s.channelTimeouts then (s.ctx c).completed { code := .timeout } else s.ctx c := by
      rw [State.countChannelWaits_eq hs hn, State.endWaits_ctx, State.mapChans_ctx]
    refine ⟨_, exec_cuTick hr ht, rfl, rfl, ?_, fun n e he h1 => ?_, fun c hc => ?_, fun n => ?_⟩
    · rw [State.countChannelWaits_eq hs hn]
      exact ((State.keepsBut_mapChans _).mono (by simp)).trans ((State.keepsBut_endWaits _ _ _).trans
        ((State.keepsBut_setCuTicks _ _).mono (by simp)))
    · rw [State.ends, State.setCuTicks_ctx, hctx, if_pos (State.mem_channelTimeouts.2 ⟨n, e, he, rfl, h1⟩)]
      exact Context.ended_completed _ _
    · rw [State.setCuTicks_ctx, hctx, if_neg]
      rintro hm
      obtain ⟨n, e, he, hec, h1⟩ := State.mem_channelTimeouts.1 hm
      exact hc n e he hec h1
    · rw [State.setCuTicks_chan, State.countChannelWaits_chan, countEntries_eq, countEntries_eq]
  · have hout (l : LockNum) : (s.lock l).runsOut = false := Bool.eq_false_iff.2 fun h => by
      obtain ⟨hh, hp, h1⟩ := (s.lock l).runsOut_iff.1 h
      exact hleases l hh hp h1
    obtain ⟨hkeeps, hctx, hlock⟩ := State.luTickUpTo_of_none hwaits hout tick
    refine ⟨_, exec_luTick hr hf ht, rfl, State.contexts_of_ctx hctx,
      (hkeeps.mono (by simp)).trans ((State.keepsBut_setLuTicks _).mono (by simp)), fun l => ?_⟩
    have hall : l ∈ locksBetween TickPoint.start.next 64 := mem_locksBetween.2 ⟨Nat.zero_le _, l.isLt⟩
    rw [State.setLuTicks_lock, hlock, hpoint, TickPoint.queueOf_start_of_none (hwaits l)]
    simp only [Lock.running_iff, hall, true_and]
    rfl
  · have hnone : s.channelTimeouts = [] := List.eq_nil_iff_forall_not_mem.2 fun c hc => by
      obtain ⟨n, e, he, -, h1⟩ := State.mem_channelTimeouts.1 hc
      exact hwaits n e he h1
    have e : s.countChannelWaits = s.mapChans fun c =>
        { c with senders := countEntries c.senders, receivers := countEntries c.receivers } := by
      rw [State.countChannelWaits, hnone, State.timeOutAll, List.foldl_nil]
    refine ⟨_, exec_cuTick hr ht, rfl, ?_, ?_, fun n => ?_⟩
    · rw [State.setCuTicks_contexts, e, State.mapChans_contexts]
    · rw [e]
      exact ((State.keepsBut_mapChans _).mono (by simp)).trans ((State.keepsBut_setCuTicks _ _).mono (by simp))
    · rw [State.setCuTicks_chan, State.countChannelWaits_chan, countEntries_eq, countEntries_eq,
        filter_ticks_of_none fun e he => hwaits n e (List.mem_append_left _ he),
        filter_ticks_of_none fun e he => hwaits n e (List.mem_append_right _ he)]
      rfl

end Sys2Proof.Machine

namespace Sys2Proof.Machine

/-! ## Tick steps taken in parts (R46 to R48, R76)

A part made first changes what the rest of the step does not look at, or does what the rest would have done. -/

section Parts
variable {s t : State} {tick : LuTick} {rest ts : List LuTick} {l : LockNum} {cx c : CtxNum} {epoch : BitVec 16}
  {ls : List LockNum}

/-! ### The tick events that LU still has show in no visit -/

theorem State.setLuTicks_setLuTicks (s : State) (ts us : List LuTick) :
    (s.setLuTicks ts).setLuTicks us = s.setLuTicks us := rfl

theorem State.complete_setLuTicks (hs : s.settled) (ts : List LuTick) (cx : CtxNum) (r : Answer) :
    (s.setLuTicks ts).complete cx r = (s.complete cx r).setLuTicks ts := by
  rw [State.complete_of_settled ((s.setLuTicks_settled ts).2 hs), State.complete_of_settled hs]
  rfl

theorem State.revoke_setLuTicks (hs : s.settled) (ts : List LuTick) (l : LockNum) (cause : RevocationCause)
    (epoch : BitVec 16) : (s.setLuTicks ts).revoke l cause epoch = (s.revoke l cause epoch).setLuTicks ts := by
  have hlock : (s.setLuTicks ts).lock l = s.lock l := rfl
  cases hh : (s.lock l).holder with
  | none => rw [State.revoke_of_free hh, State.revoke_of_free (hlock ▸ hh)]
  | some h =>
    cases hq : (s.lock l).queue with
    | nil =>
      rw [State.revoke_of_held hh, State.revoke_of_held (hlock ▸ hh), State.grantHead_of_nil (by simpa [Lock.freed] using hq),
        State.grantHead_of_nil (by simpa [Lock.freed] using hq)]
      rfl
    | cons w q =>
      rw [State.revoke_eq hh hq, State.revoke_eq (hlock ▸ hh) (hlock ▸ hq), ← State.complete_setLuTicks]
      · rfl
      · exact (State.modLock_settled _ _ _).2 ((State.sendLu_settled _ _ _).2 hs)

theorem State.visitLease_setLuTicks (hs : s.settled) (ts : List LuTick) (epoch : BitVec 16) (l : LockNum) :
    (s.setLuTicks ts).visitLease epoch l = (s.visitLease epoch l).setLuTicks ts := by
  unfold State.visitLease
  dsimp only
  rw [State.setLuTicks_lock]
  split
  · split
    · exact State.revoke_setLuTicks (s := s.modLock l fun x => { x with lease := x.lease - 1 })
        ((State.modLock_settled _ _ _).2 hs) ts l _ _
    · rfl
  · rfl

theorem State.visitAll_setLuTicks (hs : s.settled) (ts : List LuTick) (epoch : BitVec 16) (ls : List LockNum) :
    (s.setLuTicks ts).visitAll epoch ls = (s.visitAll epoch ls).setLuTicks ts := by
  induction ls generalizing s with
  | nil => rfl
  | cons l ls ih =>
    have hv : s.Visits (s.visitLease epoch l) epoch [l] := State.visits_visitLease fun _ => hs
    exact (congrArg (fun s => s.visitAll epoch ls) (State.visitLease_setLuTicks hs ts epoch l)).trans
      (ih (hv.keeps.settled (by simp) hs))

/-! ### An expiry first -/

theorem exec_leaseExpiry_cases (s : State) (l : LockNum) : exec (.leaseExpiry l) s = .next s ∨
    ∃ tick rest, s.resetHeld = false ∧ s.forcing = none ∧ s.luTicks = tick :: rest ∧ tick.point.next ≤ l.val ∧
      exec (.leaseExpiry l) s = .next ((s.luTickUpTo tick (l.val + 1)).setLuTicks
        ({ tick with point := .leases (l.val + 1) } :: rest)) := by
  rcases s.onLuTick_cases fun t rest => if t.point.passed l then .next s else
      let u := s.luTickUpTo t l.val
      if (u.lock l).expires then
        .next ((u.visitLease t.epoch l).setLuTicks ({ t with point := .leases (l.val + 1) } :: rest))
      else .next s with ⟨tick, rest, hr, hf, ht, e⟩ | e
  · cases hp : tick.point.passed l with
    | true => exact .inl (e.trans (by simp [hp]))
    | false =>
      have hnext := TickPoint.passed_eq_false_iff.1 hp
      cases hx : ((s.luTickUpTo tick l.val).lock l).expires with
      | true => exact .inr ⟨tick, rest, hr, hf, ht, hnext, exec_leaseExpiry hr hf ht hnext hx⟩
      | false => exact .inl (e.trans (by simp [hp, hx]))
  · exact .inl e

/-- The step from behind lock `l` on makes the visits that are left. -/
theorem State.luTickUpTo_from (hs : s.settled) (hn : s.lockEntries.Nodup) (hnext : tick.point.next ≤ l.val)
    (rest : List LuTick) :
    (((s.luTickUpTo tick (l.val + 1)).setLuTicks ({ tick with point := .leases (l.val + 1) } :: rest)).luTickUpTo
      { tick with point := .leases (l.val + 1) } 64).setLuTicks rest = (s.luTickUpTo tick 64).setLuTicks rest := by
  have hu : (s.luTickUpTo tick (l.val + 1)).settled := (State.keepsBut_luTickUpTo hs hn tick _).settled (by simp) hs
  have e : ((s.luTickUpTo tick (l.val + 1)).setLuTicks ({ tick with point := .leases (l.val + 1) } :: rest)).luTickUpTo
      { tick with point := .leases (l.val + 1) } 64 = ((s.luTickUpTo tick (l.val + 1)).setLuTicks
        ({ tick with point := .leases (l.val + 1) } :: rest)).visitAll tick.epoch (locksBetween (l.val + 1) 64) :=
    State.luTickUpTo_eq ..
  rw [e, State.visitAll_setLuTicks hu, State.luTickUpTo_eq, ← State.visitAll_append,
    ← locksBetween_append (Nat.le_succ_of_le hnext) l.isLt, ← State.luTickUpTo_eq]
  rfl

theorem exec_luTick_after_leaseExpiry (hs : s.settled) (hn : s.lockEntries.Nodup)
    (h : exec (.leaseExpiry l) s = .next t) : exec .luTick t = exec .luTick s := by
  rcases exec_leaseExpiry_cases s l with e | ⟨tick, rest, hr, hf, ht, hnext, e⟩
  · cases h.symm.trans e
    rfl
  · cases h.symm.trans e
    have hk := State.keepsBut_luTickUpTo hs hn tick (l.val + 1)
    obtain ⟨-, -, -, -, hreset, -⟩ := hk.2 .chip (by simp)
    have hforcing : (s.luTickUpTo tick (l.val + 1)).forcing = s.forcing := hk.2 .forcing (by simp)
    rw [exec_luTick hr hf ht, exec_luTick (by rw [State.setLuTicks_resetHeld, hreset, hr])
      (by rw [State.setLuTicks_forcing, hforcing, hf]) (State.setLuTicks_luTicks ..), State.luTickUpTo_from hs hn hnext]

/-! ### A timeout first -/

theorem Table.mapEach_mapEach_of_eq {α : Type} {n : Nat} {t : Table α n} {f g : Fin n → α → α}
    (h : ∀ i, g i (f i (t.at i)) = g i (t.at i)) : (t.mapEach f).mapEach g = t.mapEach g :=
  Table.ext_at fun i => by simp [h]

theorem State.mapLocks_mapLocks {f g : Lock → Lock} (h : ∀ l, g (f (s.lock l)) = g (s.lock l)) :
    (s.mapLocks f).mapLocks g = s.mapLocks g := by
  unfold State.mapLocks
  dsimp only
  rw [Table.mapEach_mapEach_of_eq h]

theorem State.mapChans_mapChans {f g : Channel → Channel} (h : ∀ n, g (f (s.chan n)) = g (s.chan n)) :
    (s.mapChans f).mapChans g = s.mapChans g := by
  unfold State.mapChans
  dsimp only
  rw [Table.mapEach_mapEach_of_eq h]

theorem State.mapLocks_modCtx (s : State) (c : CtxNum) (f : Context → Context) (g : Lock → Lock) :
    (s.modCtx c f).mapLocks g = (s.mapLocks g).modCtx c f := by
  simp only [State.mapLocks, State.modCtx, State.ctx]

theorem State.mapLocks_setLuTicks (s : State) (ts : List LuTick) (g : Lock → Lock) :
    (s.setLuTicks ts).mapLocks g = (s.mapLocks g).setLuTicks ts := rfl

theorem State.mapChans_modCtx (s : State) (c : CtxNum) (f : Context → Context) (g : Channel → Channel) :
    (s.modCtx c f).mapChans g = (s.mapChans g).modCtx c f := by
  simp only [State.mapChans, State.modCtx, State.ctx]

theorem State.mapChans_setCuTicks (s : State) (k : Nat) (b : Bool) (g : Channel → Channel) :
    (s.setCuTicks k b).mapChans g = (s.mapChans g).setCuTicks k b := rfl

theorem State.endWaits_setLuTicks (s : State) (ts : List LuTick) (cs : List CtxNum) :
    (s.setLuTicks ts).endWaits cs = (s.endWaits cs).setLuTicks ts := rfl

theorem State.endWaits_setCuTicks (s : State) (k : Nat) (b : Bool) (cs : List CtxNum) :
    (s.setCuTicks k b).endWaits cs = (s.endWaits cs).setCuTicks k b := rfl

/-- Filtering out first what a filter takes out anyway. -/
theorem filter_filter_of_imp {α : Type} {p q : α → Bool} {xs : List α} (h : ∀ x ∈ xs, p x = true → q x = true) :
    (xs.filter q).filter p = xs.filter p := by
  rw [List.filter_filter]
  refine List.filter_congr fun x hx => ?_
  cases hp : p x with
  | true => rw [h x hx hp]; rfl
  | false => rfl

/-- The state after a lock wait has timed out, LU standing within the first part of the step. -/
def State.lockWaitOver (s : State) (cx : CtxNum) (ts : List LuTick) : State :=
  ((s.mapLocks fun k => { k with queue := leaveQueue cx k.queue }).setLuTicks ts).modCtx cx fun x =>
    x.completed { code := .timeout }

/-- The state after a channel wait has timed out, CU standing within the step. -/
def State.channelWaitOver (s : State) (cx : CtxNum) : State :=
  ((s.leaveChannels cx).setCuTicks s.cuTicks true).modCtx cx fun x => x.completed { code := .timeout }

theorem State.lockWaitOver_lock (s : State) (cx : CtxNum) (ts : List LuTick) (l : LockNum) :
    (s.lockWaitOver cx ts).lock l = { s.lock l with queue := leaveQueue cx (s.lock l).queue } := by
  rw [State.lockWaitOver, State.modCtx_lock, State.setLuTicks_lock, State.mapLocks_lock]

theorem State.channelWaitOver_chan (s : State) (cx : CtxNum) (n : ChanNum) : (s.channelWaitOver cx).chan n =
    { s.chan n with
      senders := leaveEntries cx (s.chan n).senders, receivers := leaveEntries cx (s.chan n).receivers } := by
  rw [State.channelWaitOver, State.modCtx_chan, State.setCuTicks_chan, State.leaveChannels, State.mapChans_chan]

theorem exec_lockWaitTimeout_cases (hs : s.settled) (cx : CtxNum) : exec (.lockWaitTimeout cx) s = .next s ∨
    ∃ tick rest, s.resetHeld = false ∧ s.forcing = none ∧ s.luTicks = tick :: rest ∧ tick.point.countsWaits = true ∧
      cx ∈ s.lockTimeouts ∧
      exec (.lockWaitTimeout cx) s = .next (s.lockWaitOver cx ({ tick with point := .waits } :: rest)) := by
  rcases s.onLuTick_cases fun t rest => match t.point with
    | .leases _ => .next s
    | _ =>
      if s.lockTimeoutDue cx then
        .next (((s.mapLocks fun k => { k with queue := leaveQueue cx k.queue }).setLuTicks
          ({ t with point := .waits } :: rest)).complete cx { code := .timeout })
      else .next s with ⟨tick, rest, hr, hf, ht, e⟩ | e
  · have e : exec (.lockWaitTimeout cx) s = _ := e
    rw [State.complete_of_settled (by simpa using hs)] at e
    cases hd : s.lockTimeoutDue cx with
    | false =>
      refine .inl (e.trans ?_)
      cases tick.point <;> simp [hd]
    | true =>
      have hm : cx ∈ s.lockTimeouts := List.contains_iff_mem.1 hd
      cases hp : tick.point with
      | leases n => exact .inl (e.trans (by simp [hp]))
      | start | waits =>
        refine .inr ⟨tick, rest, hr, hf, ht, by rw [hp]; rfl, hm, e.trans ?_⟩
        simp only [hp, hd, if_true]
        rfl
  · exact .inl e

theorem exec_channelWaitTimeout_cases (hs : s.settled) (cx : CtxNum) : exec (.channelWaitTimeout cx) s = .next s ∨
    (s.resetHeld = false ∧ cx ∈ s.channelTimeouts ∧ exec (.channelWaitTimeout cx) s = .next (s.channelWaitOver cx)) := by
  rw [exec, execChannelWaitTimeout, State.live]
  cases hr : s.resetHeld with
  | true => exact .inl rfl
  | false =>
    rw [if_neg (by simp)]
    split
    · rename_i h
      rw [State.complete_of_settled (by simpa [State.leaveChannels] using hs)]
      exact .inr ⟨rfl, List.contains_iff_mem.1 h.2, rfl⟩
    · exact .inl rfl

/-- Whose lock waits end once that of `cx` has. -/
theorem State.mem_lockTimeouts_lockWaitOver :
    c ∈ (s.lockWaitOver cx ts).lockTimeouts ↔ c ≠ cx ∧ c ∈ s.lockTimeouts := by
  simp only [State.mem_lockTimeouts, State.lockWaitOver_lock, leaveQueue, List.mem_filter, decide_eq_true_eq]
  constructor
  · rintro ⟨l, w, ⟨hw, hne⟩, rfl, h1⟩
    exact ⟨hne, l, w, hw, rfl, h1⟩
  · rintro ⟨hne, l, w, hw, rfl, h1⟩
    exact ⟨l, w, ⟨hw, hne⟩, rfl, h1⟩

theorem State.mem_channelTimeouts_channelWaitOver :
    c ∈ (s.channelWaitOver cx).channelTimeouts ↔ c ≠ cx ∧ c ∈ s.channelTimeouts := by
  simp only [State.mem_channelTimeouts, State.channelWaitOver_chan, leaveEntries, ← List.filter_append, List.mem_filter, decide_eq_true_eq]
  constructor
  · rintro ⟨n, e, ⟨he, hne⟩, rfl, h1⟩
    exact ⟨hne, n, e, he, rfl, h1⟩
  · rintro ⟨hne, n, e, he, rfl, h1⟩
    exact ⟨n, e, ⟨he, hne⟩, rfl, h1⟩

/-- The entry of a wait that is over is taken out by the count too. -/
theorem State.countQueue_leaveQueue (hn : s.lockEntries.Nodup) (hcx : cx ∈ s.lockTimeouts) (l : LockNum) :
    countQueue (leaveQueue cx (s.lock l).queue) = countQueue (s.lock l).queue := by
  obtain ⟨k, v, hv, hvc, h1⟩ := State.mem_lockTimeouts.1 hcx
  refine congrArg (List.map _) (filter_filter_of_imp fun w hw h => decide_eq_true fun hwc => ?_)
  rw [State.lock_entry_unique hn hw hv (hwc.trans hvc.symm), Waiter.timesOut, h1] at h
  exact nomatch h

theorem State.countEntries_leaveEntries (hn : s.channelEntries.Nodup) (hcx : cx ∈ s.channelTimeouts) {n : ChanNum}
    {q : List WaitEntry} (hq : ∀ e ∈ q, e ∈ (s.chan n).senders ++ (s.chan n).receivers) :
    countEntries (leaveEntries cx q) = countEntries q := by
  obtain ⟨k, d, hd, hdc, h1⟩ := State.mem_channelTimeouts.1 hcx
  refine congrArg (List.map _) (filter_filter_of_imp fun e he h => decide_eq_true fun hec => ?_)
  rw [State.channel_entry_unique hn (hq e he) hd (hec.trans hdc.symm), WaitEntry.timesOut, h1] at h
  exact nomatch h

/-- The waits counted after one of them has timed out are the waits counted at once. -/
theorem State.countLockWaits_lockWaitOver (hs : s.settled) (hn : s.lockEntries.Nodup) (hcx : cx ∈ s.lockTimeouts)
    (ts : List LuTick) : (s.lockWaitOver cx ts).countLockWaits = s.countLockWaits.setLuTicks ts := by
  have hs' : (s.lockWaitOver cx ts).settled :=
    (State.modCtx_settled _ _ _).2 ((State.setLuTicks_settled _ _).2 ((s.mapLocks_settled _).2 hs))
  have hn' : (s.lockWaitOver cx ts).lockEntries.Nodup := by
    refine hn.sublist (List.Sublist.flatMap_right allLocks fun l _ => ?_)
    rw [State.lockWaitOver_lock]
    exact List.filter_sublist.map _
  have hcount : (s.mapLocks fun k => { k with queue := leaveQueue cx k.queue }).mapLocks
      (fun k => { k with queue := countQueue k.queue }) = s.mapLocks fun k => { k with queue := countQueue k.queue } :=
    State.mapLocks_mapLocks fun l => by rw [State.countQueue_leaveQueue hn hcx]
  rw [State.countLockWaits_eq hs' hn', State.countLockWaits_eq hs hn, State.lockWaitOver, State.mapLocks_modCtx,
    State.mapLocks_setLuTicks, hcount, ← State.lockWaitOver,
    State.endWaits_modCtx fun h => (State.mem_lockTimeouts_lockWaitOver.1 h).1 rfl, State.endWaits_setLuTicks]
  refine congrArg (State.setLuTicks · ts) (State.endWaits_congr fun c => ?_)
  rw [List.mem_cons, State.mem_lockTimeouts_lockWaitOver]
  by_cases hc : c = cx
  · simp [hc, hcx]
  · simp [hc]

theorem State.countChannelWaits_channelWaitOver (hs : s.settled) (hn : s.channelEntries.Nodup)
    (hcx : cx ∈ s.channelTimeouts) :
    (s.channelWaitOver cx).countChannelWaits = s.countChannelWaits.setCuTicks s.cuTicks true := by
  have hs' : (s.channelWaitOver cx).settled :=
    (State.modCtx_settled _ _ _).2 ((State.setCuTicks_settled _ _ _).2 ((s.mapChans_settled _).2 hs))
  have hn' : (s.channelWaitOver cx).channelEntries.Nodup := by
    refine hn.sublist (List.Sublist.flatMap_right allChans fun n _ => ?_)
    rw [State.channelWaitOver_chan]
    exact (List.filter_sublist.append List.filter_sublist).map _
  have hcount : (s.leaveChannels cx).mapChans
      (fun c => { c with senders := countEntries c.senders, receivers := countEntries c.receivers }) =
        s.mapChans fun c => { c with senders := countEntries c.senders, receivers := countEntries c.receivers } :=
    State.mapChans_mapChans fun n => by
      rw [State.countEntries_leaveEntries hn hcx fun e he => List.mem_append_left _ he,
        State.countEntries_leaveEntries hn hcx fun e he => List.mem_append_right _ he]
  rw [State.countChannelWaits_eq hs' hn', State.countChannelWaits_eq hs hn, State.channelWaitOver, State.mapChans_modCtx,
    State.mapChans_setCuTicks, hcount, ← State.channelWaitOver,
    State.endWaits_modCtx fun h => (State.mem_channelTimeouts_channelWaitOver.1 h).1 rfl, State.endWaits_setCuTicks]
  refine congrArg (State.setCuTicks · s.cuTicks true) (State.endWaits_congr fun c => ?_)
  rw [List.mem_cons, State.mem_channelTimeouts_channelWaitOver]
  by_cases hc : c = cx
  · simp [hc, hcx]
  · simp [hc]

theorem TickPoint.next_of_countsWaits {x : TickPoint} (h : x.countsWaits = true) : x.next = 0 := by
  cases x with
  | start | waits => rfl
  | leases n => exact nomatch h

theorem exec_luTick_after_lockWaitTimeout (hs : s.settled) (hn : s.lockEntries.Nodup)
    (h : exec (.lockWaitTimeout cx) s = .next t) : exec .luTick t = exec .luTick s := by
  rcases exec_lockWaitTimeout_cases hs cx with e | ⟨tick, rest, hr, hf, ht, hp, hcx, e⟩
  · cases h.symm.trans e
    rfl
  · cases h.symm.trans e
    have hreset : (s.lockWaitOver cx ({ tick with point := .waits } :: rest)).resetHeld = false := by
      rw [State.lockWaitOver, State.modCtx_resetHeld, State.setLuTicks_resetHeld, State.mapLocks_resetHeld, hr]
    have hforcing : (s.lockWaitOver cx ({ tick with point := .waits } :: rest)).forcing = none := by
      rw [State.lockWaitOver, State.modCtx_forcing, State.setLuTicks_forcing, State.mapLocks_forcing, hf]
    have hu : s.countLockWaits.settled := by
      rw [State.countLockWaits_eq hs hn]
      exact (State.mapCtxs_settled _ _).2 ((State.mapLocks_settled _ _).2 hs)
    have hticks : (s.lockWaitOver cx ({ tick with point := .waits } :: rest)).luTicks =
        { tick with point := .waits } :: rest := by
      rw [State.lockWaitOver, State.modCtx_luTicks, State.setLuTicks_luTicks]
    rw [exec_luTick hr hf ht, exec_luTick hreset hforcing hticks, State.luTickUpTo_eq, State.luTickUpTo_eq,
      TickPoint.next_of_countsWaits hp, State.waitsCounted, State.waitsCounted, if_pos hp,
      if_pos (show TickPoint.waits.countsWaits = true from rfl), State.countLockWaits_lockWaitOver hs hn hcx,
      State.visitAll_setLuTicks hu, State.setLuTicks_setLuTicks]
    rfl

theorem exec_cuTick_after_channelWaitTimeout (hs : s.settled) (hn : s.channelEntries.Nodup) (hticks : s.cuTicks ≠ 0)
    (h : exec (.channelWaitTimeout cx) s = .next t) : exec .cuTick t = exec .cuTick s := by
  rcases exec_channelWaitTimeout_cases hs cx with e | ⟨hr, hcx, e⟩
  · cases h.symm.trans e
    rfl
  · cases h.symm.trans e
    obtain ⟨k, hk⟩ := Nat.exists_eq_succ_of_ne_zero hticks
    have hreset : (s.channelWaitOver cx).resetHeld = false := by
      rw [State.channelWaitOver, State.modCtx_resetHeld, State.setCuTicks_resetHeld, State.leaveChannels,
        State.mapChans_resetHeld, hr]
    have hticks' : (s.channelWaitOver cx).cuTicks = k + 1 := by
      rw [State.channelWaitOver, State.modCtx_cuTicks, State.setCuTicks_cuTicks, hk]
    rw [exec_cuTick hr hk, exec_cuTick hreset hticks', State.countChannelWaits_channelWaitOver hs hn hcx]
    rfl

end Parts

/-- Settles O31, part by part. -/
theorem tickStepTakenInParts : Obligations.TickStepTakenInParts := by
  rintro s hs ⟨⟨hn, hn', -⟩, -⟩
  exact ⟨fun _ _ _ => exec_luTick_after_lockWaitTimeout hs hn, fun _ _ _ => exec_luTick_after_leaseExpiry hs hn,
    fun _ _ => exec_cuTick_after_channelWaitTimeout hs hn'⟩

end Sys2Proof.Machine

namespace Sys2Proof.Machine

/-! ## What every command leaves of the requests and logs

`State.Calm`: no context becomes busy, a context that stays busy keeps its command record, no log grows beyond its
bound, and no channel changes. All commands are calm but GO, the writes of locked registers and the commands of CU. -/

/-- Every context busy in `t` was so in `s`, with the same command record; and the logs stay within R57. -/
structure State.Mild (s t : State) : Prop where
  command : ∀ cx, (t.ctx cx).state.busy = true →
    (s.ctx cx).state.busy = true ∧ (t.ctx cx).command = (s.ctx cx).command
  log : ∀ p, (s.port p).log.length ≤ Config.logRecords → (t.port p).log.length ≤ Config.logRecords

/-- A mild change that leaves the channels. -/
structure State.Calm (s t : State) : Prop extends s.Mild t where
  channels : t.channels = s.channels

section Calm
variable {s t u : State}

theorem State.Mild.trans (h : s.Mild t) (h' : t.Mild u) : s.Mild u where
  command cx hb :=
    have ⟨hb', e'⟩ := h'.command cx hb
    have ⟨hb'', e⟩ := h.command cx hb'
    ⟨hb'', e'.trans e⟩
  log p hp := h'.log p (h.log p hp)

theorem State.Calm.trans (h : s.Calm t) (h' : t.Calm u) : s.Calm u where
  toMild := h.toMild.trans h'.toMild
  channels := h'.channels.trans h.channels

/-- What leaves the contexts and ports is mild. -/
theorem State.Mild.of_eq (hc : t.contexts = s.contexts) (hp : t.ports = s.ports) : s.Mild t where
  command cx hb := by
    have e : t.ctx cx = s.ctx cx := by simp only [State.ctx, hc]
    exact ⟨e ▸ hb, by rw [e]⟩
  log p hl := by
    have e : t.port p = s.port p := by simp only [State.port, hp]
    rwa [e]

theorem State.Calm.of_eq (hc : t.contexts = s.contexts) (hp : t.ports = s.ports) (hn : t.channels = s.channels) :
    s.Calm t := ⟨.of_eq hc hp, hn⟩

theorem State.Calm.refl (s : State) : s.Calm s := .of_eq rfl rfl rfl

theorem State.calm_foldl {α : Type} (f : State → α → State) (h : ∀ (s : State) a, s.Calm (f s a)) (l : List α) (s : State) :
    s.Calm (l.foldl f s) := by
  induction l generalizing s with
  | nil => exact .refl s
  | cons a l ih => exact (h s a).trans (ih _)

theorem State.calm_mapCtxs {f : CtxNum → Context → Context}
    (h : ∀ cx, (f cx (s.ctx cx)).state.busy = true →
      (s.ctx cx).state.busy = true ∧ (f cx (s.ctx cx)).command = (s.ctx cx).command) : s.Calm (s.mapCtxs f) where
  command cx := by simpa using h cx
  log p := by simp
  channels := by simp

theorem State.calm_modCtx {cx : CtxNum} {f : Context → Context}
    (h : (f (s.ctx cx)).state.busy = true →
      (s.ctx cx).state.busy = true ∧ (f (s.ctx cx)).command = (s.ctx cx).command) : s.Calm (s.modCtx cx f) where
  command c hb := by
    by_cases e : c = cx
    · subst e
      simpa using h (by simpa using hb)
    · simpa [e] using hb
  log p := id
  channels := rfl

theorem State.calm_modPort {p : Port} {f : PortInterface → PortInterface}
    (h : (s.port p).log.length ≤ Config.logRecords → (f (s.port p)).log.length ≤ Config.logRecords) :
    s.Calm (s.modPort p f) where
  command cx hb := ⟨hb, rfl⟩
  log q hq := by
    by_cases e : q = p
    · subst e
      simpa using h hq
    · simpa [e] using hq
  channels := rfl

theorem State.calm_modLink (s : State) (p : Port) (f : Links → Links) : s.Calm (s.modLink p f) := .of_eq rfl rfl rfl
theorem State.calm_modLock (s : State) (l : LockNum) (f : Lock → Lock) : s.Calm (s.modLock l f) := .of_eq rfl rfl rfl
theorem State.mild_modChan (s : State) (n : ChanNum) (f : Channel → Channel) : s.Mild (s.modChan n f) := .of_eq rfl rfl
theorem State.mild_mapChans (s : State) (f : Channel → Channel) : s.Mild (s.mapChans f) := .of_eq (by simp) (by simp)
theorem State.calm_mapLocks (s : State) (f : Lock → Lock) : s.Calm (s.mapLocks f) := .of_eq (by simp) (by simp) (by simp)
theorem State.calm_sendLu (s : State) (p : Port) (m : LuMessage) : s.Calm (s.sendLu p m) :=
  .of_eq (by simp) (by simp) (by simp)
theorem State.calm_sendCu (s : State) (p : Port) (m : CuMessage) : s.Calm (s.sendCu p m) :=
  .of_eq (by simp) (by simp) (by simp)
theorem State.calm_sendCuAll (s : State) (b : BitVec 4) (m : CuMessage) : s.Calm (s.sendCuAll b m) :=
  .of_eq (by simp) (by simp) (by simp)
theorem State.calm_muSettle (s : State) (p : Port) : s.Calm (s.muSettle p) := .of_eq (by simp) (by simp) (by simp)
theorem State.calm_setMemory (s : State) (m : Memory) : s.Calm (s.setMemory m) := .of_eq rfl rfl rfl
theorem State.calm_setLuTicks (s : State) (ts : List LuTick) : s.Calm (s.setLuTicks ts) := .of_eq rfl rfl rfl
theorem State.calm_setCuTicks (s : State) (k : Nat) (o : Bool) : s.Calm (s.setCuTicks k o) := .of_eq rfl rfl rfl
theorem State.calm_setKeyPair (s : State) (p : Port) (k : KeyPair) : s.Calm (s.setKeyPair p k) := .of_eq rfl rfl rfl
theorem State.calm_setTickGenerator (s : State) (e : Bool) (c : PeriodCode) : s.Calm (s.setTickGenerator e c) :=
  .of_eq rfl rfl rfl
theorem State.calm_windowRefusal (s : State) (p : Port) (cause : ErrorCause) (a : WindowAddr) :
    s.Calm (s.windowRefusal p cause a) := State.calm_modPort id
theorem State.calm_setFrame (s : State) (p : Port) (f : Frame) : s.Calm (s.setFrame p f) := State.calm_modPort id

/-- A function that leaves a context's state and command, or ends its request, may be applied to the contexts of a
port. -/
theorem State.calm_modPortCtxs {p : Port} {f : Context → Context}
    (h : ∀ c : Context, (f c).state.busy = true → c.state.busy = true ∧ (f c).command = c.command) :
    s.Calm (s.modPortCtxs p f) :=
  State.calm_mapCtxs fun cx => by
    split
    · exact h _
    · exact fun hb => ⟨hb, rfl⟩

theorem State.calm_portResetClearing (s : State) (p : Port) : s.Calm (s.portResetClearing p) :=
  (State.calm_modPortCtxs fun _ h => by exact (Bool.false_ne_true h).elim).trans (State.calm_modPort fun _ => by simp [PortInterface.cleared, PortInterface.reset])

theorem State.calm_completeWithdrawal (s : State) (p : Port) (mark : Bool) : s.Calm (s.completeWithdrawal p mark) := by
  have released : s.Calm ((s.modPortCtxs p Context.released).modPort p PortInterface.withdrawn) :=
    (State.calm_modPortCtxs fun _ h => by exact (Bool.false_ne_true h).elim).trans (State.calm_modPort id)
  cases mark
  · exact released
  · exact released.trans (State.calm_portResetClearing _ p)

theorem State.calm_testWithdrawal (s : State) (p : Port) : s.Calm (s.testWithdrawal p) := by
  rcases s.testWithdrawal_cases p with e | ⟨_, mark, _, _, _, e⟩ <;> rw [e]
  · exact .refl s
  · exact s.calm_completeWithdrawal p mark

theorem State.calm_complete (s : State) (cx : CtxNum) (r : Answer) : s.Calm (s.complete cx r) :=
  (State.calm_modCtx fun h => by exact (Bool.false_ne_true h).elim).trans (State.calm_testWithdrawal _ _)

theorem State.calm_cancelAll (s : State) (p : Port) (x : CtxState) : s.Calm (s.cancelAll p x) := by
  refine State.calm_foldl _ (fun s c => ?_) _ _
  split
  · exact s.calm_complete _ _
  · exact .refl s

theorem State.calm_timeOutAll (s : State) (cs : List CtxNum) : s.Calm (s.timeOutAll cs) :=
  State.calm_foldl _ (fun s cx => s.calm_complete cx _) _ _

theorem State.calm_cancelEntries (s : State) (es : List WaitEntry) : s.Calm (s.cancelEntries es) :=
  State.calm_foldl _ (fun s (e : WaitEntry) => s.calm_complete e.ctx _) _ _

/-! ### Fills -/

theorem Context.stopFill_busy (which : Fill → Bool) (r : StopReason) (c : Context) :
    (c.stopFill which r).state.busy = c.state.busy := by
  unfold Context.stopFill
  split
  · rename_i f h
    cases which f <;> simp [h, CtxState.busy, CtxState.owner]
  · rfl

theorem Context.stopFill_keeps (which : Fill → Bool) (r : StopReason) (c : Context)
    (h : (c.stopFill which r).state.busy = true) :
    c.state.busy = true ∧ (c.stopFill which r).command = c.command :=
  ⟨c.stopFill_busy which r ▸ h, c.stopFill_command which r⟩

theorem State.calm_endFill (s : State) (cx : CtxNum) (r : Answer) : s.Calm (s.endFill cx r) :=
  (s.calm_complete cx r).trans (State.calm_muSettle _ _)

theorem State.calm_fillStep {cx : CtxNum} (f : Fill) (h : (s.ctx cx).state.busy = true) : s.Calm (s.fillStep cx f) := by
  unfold State.fillStep
  split
  · exact s.calm_endFill _ _
  · dsimp only
    split
    · exact (s.calm_setMemory _).trans (State.calm_endFill _ _ _)
    · exact (s.calm_setMemory _).trans (State.calm_modCtx fun _ => ⟨h, rfl⟩)

theorem State.calm_changeSegment (s : State) (n : SegNum) (e : Option Segment) : s.Calm (s.changeSegment n e) := by
  have set : s.Calm (s.setSeg n e) := .of_eq rfl rfl rfl
  exact set.trans (State.calm_mapCtxs fun _ => Context.stopFill_keeps _ _ _)

/-! ### Locks -/

theorem State.calm_grantLock (s : State) (l : LockNum) (cx : CtxNum) : s.Calm (s.grantLock l cx) :=
  (s.calm_modLock l _).trans (State.calm_complete _ _ _)

theorem State.calm_grantHead (s : State) (l : LockNum) : s.Calm (s.grantHead l) := by
  unfold State.grantHead
  split
  · exact .refl s
  · exact (s.calm_modLock l _).trans (State.calm_grantLock _ _ _)

theorem State.calm_handOff (s : State) (l : LockNum) : s.Calm (s.handOff l) := by
  unfold State.handOff
  split
  · exact s.calm_modLock l _
  · exact s.calm_grantHead l

theorem State.calm_revoke (s : State) (l : LockNum) (cause : RevocationCause) (epoch : BitVec 16) :
    s.Calm (s.revoke l cause epoch) := by
  unfold State.revoke
  split
  · exact .refl s
  · exact ((s.calm_modLock l _).trans (State.calm_sendLu _ _ _)).trans (State.calm_grantHead _ l)

theorem State.calm_revokePort (s : State) (p : Port) : s.Calm (s.revokePort p) := by
  refine State.calm_foldl _ (fun s l => ?_) _ _
  split
  · exact s.calm_revoke _ _ _
  · exact .refl s

theorem State.calm_visitLease (s : State) (epoch : BitVec 16) (l : LockNum) : s.Calm (s.visitLease epoch l) := by
  rcases s.visitLease_cases epoch l with ⟨_, e⟩ | ⟨_, _, e⟩ | ⟨_, e⟩ <;> rw [e]
  · exact .refl s
  · exact s.calm_modLock l _
  · exact (s.calm_modLock l _).trans (State.calm_revoke _ _ _ _)

theorem State.calm_visitLeases (s : State) (epoch : BitVec 16) (lo hi : Nat) : s.Calm (s.visitLeases epoch lo hi) :=
  State.calm_foldl _ (fun s l => s.calm_visitLease epoch l) _ _

theorem State.calm_luTickUpTo (s : State) (t : LuTick) (hi : Nat) : s.Calm (s.luTickUpTo t hi) := by
  unfold State.luTickUpTo
  split
  · exact s.calm_visitLeases _ _ _
  · exact ((s.calm_mapLocks _).trans (State.calm_timeOutAll _ _)).trans (State.calm_visitLeases _ _ _ _)

/-- A PENDING request parks. -/
theorem State.calm_parkWaiter (l : LockNum) {cx : CtxNum} (h : (s.ctx cx).state.busy = true) :
    s.Calm (s.parkWaiter l cx) := by
  unfold State.parkWaiter
  exact (s.calm_modLock l _).trans (State.calm_modCtx fun _ => ⟨h, rfl⟩)

theorem State.calm_acquireLock (l : LockNum) {cx : CtxNum} (h : (s.ctx cx).state.busy = true) :
    s.Calm (s.acquireLock l cx) := by
  unfold State.acquireLock
  dsimp only
  split
  · exact s.calm_grantLock l cx
  · split
    · exact s.calm_complete _ _
    · split
      · exact s.calm_complete _ _
      · exact State.calm_parkWaiter l h

/-! ### Withdrawals -/

theorem State.calm_beginWithdrawal (s : State) (p : Port) (mark : Bool) : s.Calm (s.beginWithdrawal p mark) :=
  (State.calm_modPort (p := p) id).trans (State.calm_modLink _ _ _)

theorem State.calm_detachAction (s : State) (p : Port) : s.Calm (s.detachAction p) := by
  unfold State.detachAction
  split
  · exact s.calm_beginWithdrawal p false
  · exact .refl s

theorem State.calm_attachAction (s : State) (p : Port) : s.Calm (s.attachAction p) := by
  unfold State.attachAction
  split
  · exact State.calm_modPort id
  · exact s.calm_windowRefusal _ _ _
  · exact .refl s
  · exact s.calm_windowRefusal _ _ _

theorem State.calm_portResetAction (s : State) (p : Port) : s.Calm (s.portResetAction p) := by
  unfold State.portResetAction
  split
  · exact s.calm_beginWithdrawal p true
  · exact State.calm_modPort id
  · exact s.calm_portResetClearing p

theorem State.calm_acknowledged (s : State) (p : Port) (u : UnitId) : s.Calm (s.acknowledged p u) := by
  refine .trans (State.calm_modPort fun h => ?_) (State.calm_testWithdrawal _ _)
  split <;> exact h

theorem State.calm_muWithdraw (s : State) (p : Port) : s.Calm (s.muWithdraw p) :=
  (((s.calm_cancelAll p _).trans (State.calm_modPortCtxs (Context.stopFill_keeps _ _))).trans
    (State.calm_modLink _ _ _)).trans (State.calm_muSettle _ _)

theorem State.calm_luWithdraw (s : State) (p : Port) : s.Calm (s.luWithdraw p) :=
  ((((s.calm_cancelAll p _).trans (State.calm_mapLocks _ _)).trans (State.calm_cancelAll _ p _)).trans
    (State.calm_revokePort _ p)).trans (State.calm_sendLu _ _ _)

theorem State.calm_suWithdraw (s : State) (p : Port) : s.Calm (s.suWithdraw p) :=
  (s.calm_cancelAll p _).trans (State.calm_modLink _ _ _)

theorem State.mild_cuWithdraw (s : State) (p : Port) : s.Mild (s.cuWithdraw p) := by
  unfold State.cuWithdraw
  exact (((s.calm_cancelAll p _).toMild.trans (State.mild_mapChans _ _)).trans (State.calm_cancelAll _ p _).toMild).trans
    (State.calm_modLink _ _ _).toMild

/-! ### Logs and read words -/

/-- R58: a record is appended only where there is room. -/
theorem PortInterface.takeRecord_log_length {i : PortInterface} (r : RevocationRecord)
    (h : i.log.length ≤ Config.logRecords) : (i.takeRecord r).log.length ≤ Config.logRecords := by
  unfold PortInterface.takeRecord
  split
  · rename_i hroom
    simpa using hroom
  · exact h

theorem PortInterface.takeCu_log (i : PortInterface) (m : CuMessage) : (i.takeCu m).log = i.log := by
  unfold PortInterface.takeCu
  split
  · split <;> rfl
  · split <;> rfl
  · rfl
  · rfl

theorem State.calm_latchWord (s : State) (p : Port) (l : ReadLatch) : s.Calm (s.latchWord p l) := State.calm_modPort id

theorem State.calm_sendLatched (s : State) (p : Port) : s.Calm (s.sendLatched p) := by
  unfold State.sendLatched
  split
  · exact .refl s
  · rename_i l _
    have sent : s.Calm (s.modPort p fun i => { i with latch := none, sent := some l.value }) := State.calm_modPort id
    dsimp only
    split
    · exact sent.trans (State.calm_modCtx fun hb => ⟨hb, rfl⟩)
    · split
      · refine sent.trans (State.calm_modPort fun h => ?_)
        rw [List.length_tail]
        omega
      · exact sent
    · exact sent

end Calm

end Sys2Proof.Machine

namespace Sys2Proof.Machine

/-! ## What a command can do to a channel (R63 to R82) -/

/-- The contents of channel `c` after a command, `s` being the state of the requests before it. -/
inductive Channel.Turns (s : State) (c : Channel) : Channel → Prop
  /-- The queues lose entries, or nothing changes. -/
  | leaves {d : Channel} (hb : d.binding = c.binding) (hm : d.slots = c.slots)
      (hs : (d.senders.map WaitEntry.ctx).Sublist (c.senders.map WaitEntry.ctx))
      (hr : (d.receivers.map WaitEntry.ctx).Sublist (c.receivers.map WaitEntry.ctx)) : Turns s c d
  /-- The channel is emptied, and has no binding or a valid one. -/
  | clears {d : Channel} (hb : ∀ b, d.binding = some b → b.valid = true) (hm : d.slots = []) (hs : d.senders = [])
      (hr : d.receivers = []) : Turns s c d
  /-- A message is accepted into an EMPTY slot (R68). -/
  | accepts (m : Message) (hroom : c.hasRoom = true) (hb : c.binding ≠ none) (hr : c.receivers = [])
      (hm : 1 ≤ m.words.length ∧ m.words.length ≤ Config.bufferWords) : Turns s c (c.accepted m)
  /-- A sender of the channel parks (R70). -/
  | parksSender (b : Binding) (e : WaitEntry) (hb : c.binding = some b) (hroom : c.hasRoom = false)
      (hrole : b.sends (portOf e.ctx) = true) (hbusy : (s.ctx e.ctx).state.busy = true)
      (hc : (s.ctx e.ctx).command.counts 16) : Turns s c { c with senders := c.senders ++ [e] }
  /-- The receiver of the channel parks (R74). -/
  | parksReceiver (b : Binding) (e : WaitEntry) (hb : c.binding = some b) (hempty : c.slots = [])
      (hrole : b.receives (portOf e.ctx) = true) : Turns s c { c with receivers := c.receivers ++ [e] }
  /-- The older message is delivered, and no sender waits (R72). -/
  | gives (m : Message) (ms : List Message) (hm : c.slots = m :: ms) (hs : c.senders = []) :
      Turns s c { c with slots := ms }
  /-- The older message is delivered, and that of the head sender takes its place (R73). -/
  | refills (m m' : Message) (ms : List Message) (e : WaitEntry) (es : List WaitEntry) (hm : c.slots = m :: ms)
      (hs : c.senders = e :: es) (hlen : m'.words.length ≤ Config.bufferWords)
      (hcount : (s.ctx e.ctx).state = .waiting .cu → (s.ctx e.ctx).command.counts 16 → 1 ≤ m'.words.length) :
      Turns s c { ({ c with slots := ms } : Channel).accepted m' with senders := es }

theorem Channel.Turns.refl (s : State) (c : Channel) : c.Turns s c := .leaves rfl rfl (.refl _) (.refl _)

/-- What a command does to the requests, logs and channels: it changes the record of no context that is busy before and
after it. -/
structure State.Does (s t : State) : Prop where
  command : ∀ cx, (s.ctx cx).state.busy = true → (t.ctx cx).state.busy = true →
    (t.ctx cx).command = (s.ctx cx).command
  log : ∀ p, (s.port p).log.length ≤ Config.logRecords → (t.port p).log.length ≤ Config.logRecords
  chan : ∀ n, (s.chan n).Turns s (t.chan n)

/-- Whatever next state `o` is, it is as `Does` says. -/
def State.DoesTo (s : State) (o : Out) : Prop := ∀ t, o = .next t → s.Does t

section Does
variable {s t u : State}

theorem State.Mild.does (h : s.Mild t) (hn : ∀ n, (s.chan n).Turns s (t.chan n)) : s.Does t where
  command cx _ hb := (h.command cx hb).2
  log := h.log
  chan := hn

/-- A mild change that changes one channel. -/
theorem State.Mild.does_one (h : s.Mild t) {n : ChanNum} {d : Channel} (hd : t.chan n = d)
    (ho : ∀ k, k ≠ n → t.chan k = s.chan k) (hn : (s.chan n).Turns s d) : s.Does t :=
  h.does fun k => by
    by_cases hk : k = n
    · rwa [hk, hd]
    · rw [ho k hk]
      exact .refl _ _

theorem State.Calm.does (h : s.Calm t) : s.Does t :=
  h.toMild.does fun n => by
    have e : t.chan n = s.chan n := by simp only [State.chan, h.channels]
    rw [e]
    exact .refl _ _

theorem State.doesTo_next (h : s.Does t) : s.DoesTo (.next t) := by
  rintro _ ⟨⟩
  exact h

theorem State.Calm.to (h : s.Calm t) : s.DoesTo (.next t) := State.doesTo_next h.does

/-- Nothing but other records than the requests, ports and channels changes. -/
theorem State.doesTo_of_eq (hc : t.contexts = s.contexts) (hp : t.ports = s.ports) (hn : t.channels = s.channels) :
    s.DoesTo (.next t) := (State.Calm.of_eq hc hp hn).to

theorem State.doesTo_self (s : State) : s.DoesTo (.next s) := (State.Calm.refl s).to

theorem Channel.Turns.of_requests {c d : Channel} (h : ∀ cx, (u.ctx cx).state = (s.ctx cx).state ∧
    (u.ctx cx).command = (s.ctx cx).command) (ht : c.Turns u d) : c.Turns s d := by
  cases ht with
  | leaves hb hm hs hr => exact .leaves hb hm hs hr
  | clears hb hm hs hr => exact .clears hb hm hs hr
  | accepts m hroom hb hr hm => exact .accepts m hroom hb hr hm
  | parksSender b e hb hroom hrole hbusy hc =>
    rw [(h e.ctx).1] at hbusy
    rw [(h e.ctx).2] at hc
    exact .parksSender b e hb hroom hrole hbusy hc
  | parksReceiver b e hb hempty hrole => exact .parksReceiver b e hb hempty hrole
  | gives m ms hm hs => exact .gives m ms hm hs
  | refills m m' ms e es hm hs hlen hcount =>
    rw [(h e.ctx).1, (h e.ctx).2] at hcount
    exact .refills m m' ms e es hm hs hlen hcount

/-- A command acts on a state with the same requests, ports and channels. -/
theorem State.doesTo_of_requests {o : Out} (h : ∀ cx, (u.ctx cx).state = (s.ctx cx).state ∧
    (u.ctx cx).command = (s.ctx cx).command) (hp : u.ports = s.ports) (hn : u.channels = s.channels) (ho : u.DoesTo o) :
    s.DoesTo o := fun t ht => by
  obtain ⟨hcommand, hlog, hchan⟩ := ho t ht
  have ep (p : Port) : u.port p = s.port p := by simp only [State.port, hp]
  have en (n : ChanNum) : u.chan n = s.chan n := by simp only [State.chan, hn]
  refine ⟨fun cx hs ht => ?_, fun p => ep p ▸ hlog p, fun n => ?_⟩
  · rw [hcommand cx (by rwa [(h cx).1]) ht, (h cx).2]
  · rw [← en]
    exact (hchan n).of_requests h

/-! ### The checks -/

theorem State.doesTo_take {c : Command} {cx : CtxNum} {k : State → Out}
    (h : ∀ s : State, (s.ctx cx).state = .pending c.owner → s.DoesTo (k s)) : s.DoesTo (s.take c cx k) := by
  rcases s.take_cases c cx k with ⟨ht, e⟩ | e <;> rw [e]
  · exact State.doesTo_of_requests (u := s.granted c.owner cx) (by simp) (by simp) (by simp) (h _ (by simpa using ht.2.1))
  · exact s.doesTo_self

theorem State.doesTo_live {o : Out} (h : s.DoesTo o) : s.DoesTo (s.live o) := by
  unfold State.live
  split
  · exact s.doesTo_self
  · exact h

theorem State.doesTo_complete (s : State) (cx : CtxNum) (r : Answer) : s.DoesTo (.next (s.complete cx r)) :=
  (s.calm_complete cx r).to

theorem State.doesTo_failed (s : State) (cx : CtxNum) (code : CompletionCode) : s.DoesTo (s.failed cx code) :=
  s.doesTo_complete cx _

/-- After a calm change, a request ends. -/
theorem State.Calm.answer (h : s.Calm t) (cx : CtxNum) (r : Answer) : s.DoesTo (.next (t.complete cx r)) :=
  (h.trans (t.calm_complete cx r)).to

variable {cx : CtxNum}

theorem State.doesTo_asManager {k : Out} (h : s.DoesTo k) : s.DoesTo (s.asManager cx k) := by
  unfold State.asManager
  split
  · exact h
  · exact s.doesTo_failed _ _

theorem State.doesTo_onTarget {α : Type} {target : Option α} {k : α → Out}
    (h : ∀ x, target = some x → s.DoesTo (k x)) : s.DoesTo (s.onTarget cx target k) := by
  cases target with
  | none => exact s.doesTo_failed _ _
  | some x => exact h x rfl

theorem State.doesTo_onSegment {countOk : Bool} {need : Nat} {right : Right} {k : SegNum → Segment → Nat → Out}
    (h : ∀ n g a, s.DoesTo (k n g a)) : s.DoesTo (s.onSegment cx countOk need right k) := by
  unfold State.onSegment
  refine State.doesTo_onTarget fun n _ => ?_
  split
  · exact s.doesTo_failed _ _
  · split
    · split
      · split
        · exact h _ _ _
        · exact fun _ e => nomatch e
      · exact s.doesTo_failed _ _
    · exact s.doesTo_failed _ _

theorem State.doesTo_onChannel {n : ChanNum} {role : Binding → Port → Bool} {k : Binding → Out}
    (h : ∀ b, (s.chan n).binding = some b → role b (portOf cx) = true → s.DoesTo (k b)) :
    s.DoesTo (s.onChannel cx n role k) := by
  rcases s.onChannel_cases cx n role k with ⟨_, e⟩ | ⟨b, hb, ⟨_, e⟩ | ⟨_, _, e⟩ | ⟨hr, _, e⟩⟩ <;> rw [e]
  · exact s.doesTo_failed _ _
  · exact s.doesTo_failed _ _
  · exact s.doesTo_failed _ _
  · exact h b hb hr

theorem State.doesTo_judgeHolder {l : LockNum} {named : Word} {ok : Out} (h : s.DoesTo ok) :
    s.DoesTo (s.judgeHolder l cx named ok) := by
  rcases s.judgeHolder_cases l cx named ok with ⟨_, _, e⟩ | ⟨_, _, e⟩ | ⟨_, e⟩ <;> rw [e]
  · exact h
  · exact s.doesTo_complete _ _
  · exact s.doesTo_complete _ _

theorem State.doesTo_onLuTick {k : LuTick → List LuTick → Out} (h : ∀ t rest, s.DoesTo (k t rest)) :
    s.DoesTo (s.onLuTick k) := by
  rcases s.onLuTick_cases k with ⟨t, rest, _, _, _, e⟩ | e <;> rw [e]
  · exact h t rest
  · exact s.doesTo_self

/-- A context that waits keeps its command record when another request ends: its port is not at rest (R140). -/
theorem State.complete_command_of_busy {cx cx' : CtxNum} (h : (s.ctx cx).state.busy = true) (hne : cx ≠ cx') (r : Answer) :
    ((s.complete cx' r).ctx cx).command = (s.ctx cx).command := by
  have same : (s.modCtx cx' fun c => c.completed r).ctx cx = s.ctx cx := by simp [hne]
  unfold State.complete
  rcases State.testWithdrawal_cases (s.modCtx cx' fun c => c.completed r) (portOf cx') with e | ⟨_, mark, _, _, hrest, e⟩
  · rw [e, same]
  · have hp : portOf cx ≠ portOf cx' := fun hp => by
      have idle := State.portAtRest_iff.1 hrest (slotOf cx)
      rw [← hp, ctxOf_portOf_slotOf, same] at idle
      obtain ⟨hi, hd⟩ := (CtxState.busy_iff _).1 h
      exact idle.elim hi hd
    obtain ⟨_, _, hothers⟩ := (s.modCtx cx' fun c => c.completed r).completeWithdrawal_keeps (portOf cx') mark
    rw [e, hothers cx hp, same]

end Does

end Sys2Proof.Machine

namespace Sys2Proof.Machine

/-! ## Each command does no more

The channels change at SEND, RECEIVE, BIND and UNBIND CHANNEL, in the steps of CU of its own, and at a chip reset. -/

/-! ### MU -/

section MemoryUnit
variable (cx : CtxNum) (s : State)

theorem execRead_doesTo : s.DoesTo (execRead cx s) :=
  State.doesTo_take fun s _ => State.doesTo_onSegment fun _ _ _ => s.doesTo_complete _ _

theorem execWrite_doesTo : s.DoesTo (execWrite cx s) :=
  State.doesTo_take fun s _ => State.doesTo_onSegment fun _ _ _ => (s.calm_setMemory _).answer _ _

theorem execReadGroup_doesTo : s.DoesTo (execReadGroup cx s) :=
  State.doesTo_take fun _ _ => State.doesTo_onSegment fun _ _ _ => (State.calm_modCtx fun hb => ⟨hb, rfl⟩).answer _ _

theorem execWriteGroup_doesTo : s.DoesTo (execWriteGroup cx s) :=
  State.doesTo_take fun s _ => State.doesTo_onSegment fun _ _ _ => (s.calm_setMemory _).answer _ _

theorem execTally_doesTo : s.DoesTo (execTally cx s) := by
  refine State.doesTo_take fun s _ => State.doesTo_onSegment fun _ _ _ => ?_
  dsimp only
  split
  · exact s.doesTo_complete _ _
  · exact (s.calm_setMemory _).answer _ _

theorem execSetIfZero_doesTo : s.DoesTo (execSetIfZero cx s) := by
  refine State.doesTo_take fun s _ => State.doesTo_onSegment fun _ _ _ => ?_
  dsimp only
  split
  · exact (s.calm_setMemory _).answer _ _
  · exact s.doesTo_complete _ _

theorem execZeroFill_doesTo : s.DoesTo (execZeroFill cx s) :=
  State.doesTo_take fun _ h => State.doesTo_onSegment fun _ _ _ => (State.calm_modCtx fun _ => ⟨by rw [h]; rfl, rfl⟩).to

theorem execFillBurst_doesTo : s.DoesTo (execFillBurst cx s) := by
  refine State.doesTo_live ?_
  split
  · rename_i f h
    split
    · split
      · have hb : ((s.granted .mu cx).ctx cx).state.busy = true := by
          rw [State.granted_ctx, Context.countGrant_state, h]
          rfl
        exact State.doesTo_of_requests (u := s.granted .mu cx) (by simp) (by simp) (by simp) (State.calm_fillStep f hb).to
      · exact fun _ e => nomatch e
    · exact s.doesTo_self
  · exact s.doesTo_self

theorem execDefineSegment_doesTo : s.DoesTo (execDefineSegment cx s) :=
  State.doesTo_take fun s _ => State.doesTo_asManager <| State.doesTo_onTarget fun _ _ =>
    (s.calm_changeSegment _ _).answer _ _

theorem execClearSegment_doesTo : s.DoesTo (execClearSegment cx s) :=
  State.doesTo_take fun s _ => State.doesTo_asManager <| State.doesTo_onTarget fun _ _ =>
    (s.calm_changeSegment _ _).answer _ _

theorem execInspectSegment_doesTo : s.DoesTo (execInspectSegment cx s) :=
  State.doesTo_take fun s _ => State.doesTo_onTarget fun _ _ => s.doesTo_complete _ _

theorem execFillAbort_doesTo : s.DoesTo (execFillAbort cx s) := by
  refine State.doesTo_live ?_
  split
  · split
    · exact s.doesTo_self
    · refine State.Calm.to (State.calm_modCtx ?_)
      exact Context.stopFill_keeps _ _ _
  · exact s.doesTo_self

theorem execMemoryClearDone_doesTo : s.DoesTo (execMemoryClearDone s) := by
  refine State.doesTo_live ?_
  split
  · exact State.doesTo_of_eq rfl rfl rfl
  · exact s.doesTo_self

end MemoryUnit

/-! ### LU -/

section LockUnit
variable (cx : CtxNum) (s : State)

theorem execAcquire_doesTo : s.DoesTo (execAcquire cx s) := by
  refine State.doesTo_take fun s h => State.doesTo_onTarget fun l _ => ?_
  split
  · exact (State.calm_acquireLock l (by rw [h]; rfl)).to
  · exact s.doesTo_failed _ _

theorem execRelease_doesTo : s.DoesTo (execRelease cx s) :=
  State.doesTo_take fun s _ => State.doesTo_onTarget fun l _ => State.doesTo_judgeHolder <| (s.calm_handOff l).answer _ _

theorem execRenew_doesTo : s.DoesTo (execRenew cx s) :=
  State.doesTo_take fun s _ => State.doesTo_onTarget fun l _ => State.doesTo_judgeHolder <| (s.calm_modLock l _).answer _ _

theorem execInspectLock_doesTo : s.DoesTo (execInspectLock cx s) :=
  State.doesTo_take fun s _ => State.doesTo_onTarget fun _ _ => s.doesTo_complete _ _

theorem execSetLock_doesTo : s.DoesTo (execSetLock cx s) :=
  State.doesTo_take fun s _ => State.doesTo_asManager <| State.doesTo_onTarget fun l _ => (s.calm_modLock l _).answer _ _

theorem State.doesTo_forceReleaseLock : s.DoesTo (s.forceReleaseLock cx) := by
  refine State.doesTo_asManager <| State.doesTo_onTarget fun l _ => ?_
  dsimp only
  split
  · exact s.doesTo_complete _ _
  · exact (s.calm_revoke l _ _).answer _ _

theorem execForceRelease_doesTo (part : ForcedStep) : s.DoesTo (execForceRelease part s) := by
  unfold execForceRelease
  cases part with
  | whole cx => exact State.doesTo_take fun s _ => s.doesTo_forceReleaseLock cx
  | starts cx => exact State.doesTo_take fun s _ => State.doesTo_of_eq rfl rfl rfl
  | ends cx =>
    refine State.doesTo_live ?_
    split
    · exact State.doesTo_of_requests (u := s.setForcing none) (fun _ => ⟨rfl, rfl⟩) rfl rfl
        (State.doesTo_forceReleaseLock cx _)
    · exact s.doesTo_self

theorem execLuTick_doesTo : s.DoesTo (execLuTick s) :=
  State.doesTo_onLuTick fun t rest => ((s.calm_luTickUpTo t 64).trans (State.calm_setLuTicks _ rest)).to

theorem execLockWaitTimeout_doesTo : s.DoesTo (execLockWaitTimeout cx s) := by
  refine State.doesTo_onLuTick fun t rest => ?_
  split
  · exact s.doesTo_self
  · split
    · exact ((s.calm_mapLocks _).trans (State.calm_setLuTicks _ _)).answer _ _
    · exact s.doesTo_self

theorem execLeaseExpiry_doesTo (l : LockNum) : s.DoesTo (execLeaseExpiry l s) := by
  refine State.doesTo_onLuTick fun t rest => ?_
  split
  · exact s.doesTo_self
  · dsimp only
    split
    · exact (((s.calm_luTickUpTo t l.val).trans (State.calm_visitLease _ t.epoch l)).trans (State.calm_setLuTicks _ _)).to
    · exact s.doesTo_self

theorem execLockWaitAbort_doesTo : s.DoesTo (execLockWaitAbort cx s) := by
  refine State.doesTo_live ?_
  split
  · exact (s.calm_mapLocks _).answer _ _
  · exact s.doesTo_self

end LockUnit

/-! ### SU and the pins -/

section SystemUnit
variable (cx : CtxNum) (s : State)

theorem execSetPortKeys_doesTo : s.DoesTo (execSetPortKeys cx s) :=
  State.doesTo_take fun s _ => State.doesTo_asManager <| State.doesTo_onTarget fun p _ =>
    (s.calm_setKeyPair p _).answer _ _

theorem execSetTick_doesTo : s.DoesTo (execSetTick cx s) :=
  State.doesTo_take fun s _ => State.doesTo_asManager <|
    (s.calm_setTickGenerator _ _).answer _ _

theorem execEvictPort_doesTo : s.DoesTo (execEvictPort cx s) :=
  State.doesTo_take fun s _ => State.doesTo_asManager <| State.doesTo_onTarget fun p _ => (s.calm_modLink p _).answer _ _

theorem State.calm_inspectionStands (g : Inspection) : s.Calm (s.inspectionStands g) := by
  have set (i : Option Inspection) : s.Calm { s with inspection := i } := .of_eq rfl rfl rfl
  unfold State.inspectionStands
  split
  · exact (set none).trans (State.calm_complete _ _ _)
  · exact set _

theorem execInspectPort_doesTo (part : InspectPart) : s.DoesTo (execInspectPort cx part s) := by
  unfold execInspectPort
  cases part with
  | whole => exact State.doesTo_take fun s _ => State.doesTo_onTarget fun _ _ => s.doesTo_complete _ _
  | item i =>
    unfold State.inspectItem
    dsimp only
    split
    · refine State.doesTo_live ?_
      split
      · exact (s.calm_inspectionStands _).to
      · exact s.doesTo_self
    · exact State.doesTo_take fun s _ => State.doesTo_onTarget fun p _ => (s.calm_inspectionStands _).to

/-- A chip reset (R130). -/
theorem State.does_of_blocksAtReset {s t : State} (h : t.blocksAtReset) : s.Does t := by
  obtain ⟨hctx, hport, _, _, _, _, _, hchan, _⟩ := h
  refine ⟨fun cx _ hb => ?_, fun p _ => ?_, fun n => ?_⟩
  · rw [(hctx cx).1] at hb
    exact (Bool.false_ne_true hb).elim
  · obtain ⟨_, _, _, _, _, _, _, _, _, _, _, _, hlog, _⟩ := hport p
    simp [hlog]
  · rw [hchan n]
    exact .clears nofun rfl rfl rfl

theorem execChipReset_doesTo (straps : Straps) : s.DoesTo (execChipReset cx straps s) :=
  State.doesTo_take fun s _ => State.doesTo_asManager <|
    State.doesTo_next (State.does_of_blocksAtReset (s.chipResetEvent_blocksAtReset straps))

theorem execResetAssert_doesTo : s.DoesTo (execResetAssert s) := by
  have h : ({ s.atResetValues with resetHeld := true } : State).blocksAtReset := s.atResetValues_blocksAtReset
  exact State.doesTo_next (State.does_of_blocksAtReset h)

theorem execResetRelease_doesTo (straps : Straps) : s.DoesTo (execResetRelease straps s) :=
  State.doesTo_next (State.does_of_blocksAtReset (s.chipResetEvent_blocksAtReset straps))

theorem execChipReady_doesTo : s.DoesTo (execChipReady s) := by
  refine State.doesTo_live ?_
  split
  · exact State.doesTo_of_eq rfl rfl rfl
  · exact s.doesTo_self

theorem execPeriodEnd_doesTo : s.DoesTo (execPeriodEnd s) := by
  refine State.doesTo_live ?_
  split
  · exact s.doesTo_self
  · split
    · exact s.doesTo_self
    · exact State.doesTo_of_eq rfl rfl rfl

end SystemUnit

/-! ### The window -/

section Window
variable (s : State) (p : Port) (cx : CtxNum)

theorem State.Does.setFrame {s t : State} (h : s.Does t) (p : Port) (f : Frame) : s.Does (t.setFrame p f) where
  command cx hs ht := by
    have := h.command cx hs
    simp_all
  log q hq := (t.calm_setFrame p f).log q (h.log q hq)
  chan n := by
    rw [State.setFrame_chan]
    exact h.chan n

theorem State.doesTo_word {s : State} {p : Port} {act : State → State} (h : ∀ s : State, s.Does (act s))
    (dir : Direction) (a : WindowAddr) : s.DoesTo (s.word p dir a act) := by
  rcases s.word_cases p dir a act with e | ⟨_, _, e⟩ | ⟨_, _, e⟩ <;> rw [e]
  · exact s.doesTo_self
  · exact State.doesTo_next (h s)
  · exact State.doesTo_next ((h s).setFrame p _)

theorem State.doesTo_readWord (a : WindowAddr) (part : ReadPart) : s.DoesTo (s.readWord p a part) := by
  rcases s.readWord_cases p a part with e | ⟨_, e⟩ | ⟨_, _, e⟩ | ⟨_, e⟩ <;> rw [e]
  · exact s.doesTo_self
  · exact (s.calm_latchWord p _).to
  · exact State.doesTo_next ((s.calm_sendLatched p).does.setFrame p _)
  · exact State.doesTo_word (fun s => ((s.calm_latchWord p _).trans (State.calm_sendLatched _ p)).does) _ _

/-- The requests are as they were but for their states: the command records, the logs and the channels are kept. -/
structure State.KeepsRecords (s t : State) : Prop where
  command : ∀ cx, (t.ctx cx).command = (s.ctx cx).command
  log : ∀ p, (t.port p).log = (s.port p).log
  channels : t.channels = s.channels

theorem State.KeepsRecords.trans {s t u : State} (h : s.KeepsRecords t) (h' : t.KeepsRecords u) : s.KeepsRecords u :=
  ⟨fun cx => (h'.command cx).trans (h.command cx), fun p => (h'.log p).trans (h.log p), h'.channels.trans h.channels⟩

theorem State.KeepsRecords.does {s t : State} (h : s.KeepsRecords t) : s.Does t where
  command cx _ _ := h.command cx
  log p := by rw [h.log]; exact id
  chan n := by
    have e : t.chan n = s.chan n := by simp only [State.chan, h.channels]
    rw [e]
    exact .refl _ _

theorem State.keepsRecords_refl : s.KeepsRecords s := ⟨fun _ => rfl, fun _ => rfl, rfl⟩

theorem State.keepsRecords_modCtx {f : Context → Context} (h : ∀ c, (f c).command = c.command) :
    s.KeepsRecords (s.modCtx cx f) := by
  refine ⟨fun c => ?_, fun _ => rfl, rfl⟩
  rw [State.modCtx_ctx]
  split
  · next e => rw [h, e]
  · rfl

theorem State.keepsRecords_windowRefusal (cause : ErrorCause) (a : WindowAddr) :
    s.KeepsRecords (s.windowRefusal p cause a) := by
  refine ⟨fun c => by simp, fun q => ?_, by simp⟩
  rw [State.windowRefusal, State.modPort_port]
  split
  · next e => rw [e]
  · rfl

theorem Context.acked_command (c : Context) : c.acked.command = c.command := by
  unfold Context.acked
  split <;> rfl

theorem Context.started_command (c : Context) : c.started.command = c.command := by
  unfold Context.started
  dsimp only
  split
  · exact c.acked_command
  · exact c.acked_command

theorem State.keepsRecords_goStrobe : s.KeepsRecords (s.goStrobe cx) := by
  have refuse (cause : ErrorCause) (a : WindowAddr) :
      s.KeepsRecords ((s.modCtx cx fun c => { c with goRefused := true }).windowRefusal (portOf cx) cause a) :=
    (s.keepsRecords_modCtx cx (f := fun c => { c with goRefused := true }) fun _ => rfl).trans
      (State.keepsRecords_windowRefusal _ _ _ _)
  unfold State.goStrobe
  dsimp only
  split
  · split
    · exact refuse _ _
    · exact s.keepsRecords_modCtx cx Context.started_command
  · exact refuse _ _

theorem State.keepsRecords_ackStrobe : s.KeepsRecords (s.ackStrobe cx) := s.keepsRecords_modCtx cx Context.acked_command

theorem State.keepsRecords_abortStrobe : s.KeepsRecords (s.abortStrobe cx) :=
  s.keepsRecords_modCtx cx Context.abortRequested_command

theorem State.keepsRecords_strobe {f : State → State} (h : ∀ s : State, s.KeepsRecords (f s)) (b : Bool) :
    s.KeepsRecords (strobe b f s) := by
  cases b
  · exact s.keepsRecords_refl
  · exact h s

theorem State.calm_strobe {f : State → State} (h : ∀ s : State, s.Calm (f s)) (b : Bool) : s.Calm (strobe b f s) := by
  cases b
  · exact .refl s
  · exact h s

/-- A write of a locked register leaves a busy context. -/
theorem State.does_lockedWrite (c : Fin 4) (a : WindowAddr) (f : Context → Context) : s.Does (s.lockedWrite p c a f) := by
  rcases s.lockedWrite_cases p c a f with ⟨hb, e⟩ | ⟨_, e⟩ <;> rw [e]
  · refine ⟨fun cx hs _ => ?_, fun _ => id, fun n => .refl _ _⟩
    have hne : cx ≠ ctxOf p c := by
      rintro rfl
      exact Bool.false_ne_true (hb.symm.trans hs)
    rw [State.modCtx_ctx_ne _ _ _ hne]
  · exact (s.calm_windowRefusal p _ _).does

theorem State.does_writeCtxRegister (c : Fin 4) (a : WindowAddr) (w : Word) (r : CtxRegister) :
    s.Does (s.writeCtxRegister p c a w r) := by
  cases r with
  | control =>
    exact (((s.keepsRecords_strobe (fun s => s.keepsRecords_ackStrobe _) _).trans
      (State.keepsRecords_strobe _ (fun s => s.keepsRecords_goStrobe _) _)).trans
        (State.keepsRecords_strobe _ (fun s => s.keepsRecords_abortStrobe _) _)).does
  | command | target | operand | param | data | dataIndex => exact s.does_lockedWrite p c a _
  | state | resultCode | resultValue | resultAux | unimplemented => exact (State.Calm.refl s).does

theorem State.calm_clearData (mask : BitVec 16) : s.Calm (s.clearData p mask) := State.calm_modPort id
theorem State.calm_clearSpace (mask : BitVec 16) : s.Calm (s.clearSpace p mask) := State.calm_modPort id
theorem State.calm_clearLeaseLost : s.Calm (s.clearLeaseLost p) := State.calm_modPort id
theorem State.calm_clearWindowError : s.Calm (s.clearWindowError p) := State.calm_modPort id
theorem State.calm_clearOverflow : s.Calm (s.clearOverflow p) := State.calm_modPort id
theorem State.calm_writeIntConfig (w : Word) : s.Calm (s.writeIntConfig p w) := State.calm_modPort id

theorem State.calm_writeEnables (k : Fin 3) (w : Word) : s.Calm (s.writeEnables p k w) := by
  refine State.calm_modPort fun h => ?_
  split
  · exact h
  · split <;> exact h

theorem State.does_writeWord (a : WindowAddr) (w : Word) : s.Does (s.writeWord p a w) := by
  unfold State.writeWord
  split
  · exact (((s.calm_strobe (fun s => s.calm_attachAction p) _).trans
      (State.calm_strobe _ (fun s => s.calm_detachAction p) _)).trans
        (State.calm_strobe _ (fun s => s.calm_portResetAction p) _)).does
  · split
    · exact ((s.calm_strobe (fun s => s.calm_clearLeaseLost p) _).trans
        (State.calm_strobe _ (fun s => s.calm_clearWindowError p) _)).does
    · split
      · exact (s.calm_clearData p _).does
      · exact (s.calm_clearSpace p _).does
  · exact (s.calm_writeEnables p _ w).does
  · exact (s.calm_writeIntConfig p w).does
  · exact (s.calm_strobe (fun s => s.calm_clearOverflow p) _).does
  · exact s.does_writeCtxRegister p _ a w _
  all_goals exact (State.Calm.refl s).does

theorem execDataRead_doesTo (place : ReadPlace) (part : ReadPart) : s.DoesTo (execDataRead place part s) := by
  cases place with
  | data cx => exact s.doesTo_readWord _ _ part
  | register p a => exact s.doesTo_readWord p a part

theorem execRegisterWrite_doesTo (place : WordPlace) (w : Word) : s.DoesTo (execRegisterWrite p place w s) := by
  unfold execRegisterWrite
  split
  · exact State.doesTo_word (fun s => s.does_writeWord p _ w) _ _
  · split
    · exact State.doesTo_word (fun s => s.does_writeWord p _ w) _ _
    · exact s.doesTo_self

theorem execFrameShort_doesTo (bits : Fin 32) : s.DoesTo (execFrameShort p bits s) := by
  have closed : s.Calm (s.modPort p fun i => { i with frame := .none, latch := none }) := State.calm_modPort id
  unfold execFrameShort
  dsimp only
  split
  · exact closed.to
  · split
    · split
      · exact closed.to
      · exact (closed.trans (State.calm_windowRefusal _ _ _ _)).to
    · exact closed.to

theorem execHeaderByte_doesTo (part : HeaderPart) : s.DoesTo (execHeaderByte p part s) := by
  unfold execHeaderByte
  split
  · exact (s.calm_setFrame p _).to
  · exact (State.calm_modPort id).to

end Window

/-! ### Messages at a PI -/

section Arrivals
variable (s : State) (p : Port)

theorem execEvictionOrder_doesTo : s.DoesTo (execEvictionOrder p s) := by
  refine State.doesTo_live ?_
  split
  · exact s.doesTo_self
  · exact ((s.calm_modLink p _).trans (State.calm_detachAction _ p)).to

theorem execWithdrawalAck_doesTo (u : UnitId) : s.DoesTo (execWithdrawalAck p u s) := by
  have taken (f : Links → Links) (u : UnitId) : s.DoesTo (.next ((s.modLink p f).acknowledged p u)) :=
    ((s.calm_modLink p f).trans (State.calm_acknowledged _ p u)).to
  refine State.doesTo_live ?_
  cases u with
  | mu | cu | su =>
    dsimp only
    split
    · exact taken _ _
    · exact s.doesTo_self
  | lu =>
    dsimp only
    split
    · exact taken _ _
    · exact s.doesTo_self

theorem execRevocationRecordArrival_doesTo : s.DoesTo (execRevocationRecordArrival p s) := by
  refine State.doesTo_live ?_
  split
  · exact ((s.calm_modLink p _).trans (State.calm_modPort fun h => PortInterface.takeRecord_log_length _ h)).to
  · exact s.doesTo_self

theorem State.doesTo_takeCuMessage (n : ChanNum) (set : Bool) : s.DoesTo (s.takeCuMessage p n set) := by
  unfold State.takeCuMessage
  split
  · split
    · exact ((s.calm_modLink p _).trans (State.calm_modPort fun h => by rwa [PortInterface.takeCu_log])).to
    · exact s.doesTo_self
  · exact s.doesTo_self

/-! ### Notices -/

/-- What a unit does with a withdrawal notice that it takes, it does after the notice has left. -/
theorem State.doesTo_withdrawalNotice {u : UnitId} {stage : NoticeStep} {act : State → State}
    (h : ∀ s : State, s.Does (act s)) : s.DoesTo (s.withdrawalNotice p u stage act) := by
  rcases s.withdrawalNotice_cases p u stage act with ⟨_, _, _, e⟩ | ⟨_, _, e⟩ | e <;> rw [e]
  · exact (s.calm_modLink p _).to
  · exact State.doesTo_of_requests (u := s.modLink p _) (fun _ => ⟨rfl, rfl⟩) rfl rfl (State.doesTo_next (h _))
  · exact s.doesTo_self

theorem execAbortNoticePending_doesTo (cx : CtxNum) : s.DoesTo (execAbortNoticePending cx s) := by
  refine State.doesTo_live ?_
  split
  · split
    · exact s.doesTo_complete _ _
    · exact s.doesTo_self
  · exact s.doesTo_self

end Arrivals

end Sys2Proof.Machine

namespace Sys2Proof.Machine

/-! ### CU -/

section ChannelUnit
variable (cx : CtxNum) (s : State)

/-- R66: a message is as long as the sender's count, within its 16 words. -/
theorem State.messageOf_words_length (c : Channel) :
    (s.messageOf cx c).words.length = min (s.ctx cx).command.count.toNat Config.bufferWords := by
  simp [State.messageOf, bufferPrefix, Config.bufferWords]

theorem State.calm_deliver (m : Message) : s.Calm (s.deliver cx m) :=
  (State.calm_modCtx fun hb => ⟨hb, rfl⟩).trans (State.calm_complete _ _ _)

theorem State.calm_setFlagAt (p : Port) (n : ChanNum) (kind : FlagKind) : s.Calm (s.setFlagAt p n kind) :=
  s.calm_sendCu p _

variable {s} {cx} {n : ChanNum} {b : Binding}

theorem State.does_acceptSend (hb : (s.chan n).binding = some b) (hroom : (s.chan n).hasRoom = true)
    (hc : (s.ctx cx).command.counts 16) : s.Does (s.acceptSend n b cx) := by
  unfold State.acceptSend
  dsimp only
  split
  · rename_i hr
    have hm : 1 ≤ (s.messageOf cx (s.chan n)).words.length ∧
        (s.messageOf cx (s.chan n)).words.length ≤ Config.bufferWords := by
      rw [State.messageOf_words_length]
      exact ⟨le_min hc.1 (by decide), min_le_right _ _⟩
    refine State.Mild.does_one (n := n) (((s.mild_modChan n _).trans (State.calm_setFlagAt _ _ _ _).toMild).trans
      (State.calm_complete _ _ _).toMild) ?_ (fun k hk => ?_) (.accepts _ hroom (by simp [hb]) hr hm)
    · simp [State.setFlagAt]
    · simp [State.setFlagAt, hk]
  · rename_i r rest hr
    have shorter : (rest.map WaitEntry.ctx).Sublist ((s.chan n).receivers.map WaitEntry.ctx) := by
      rw [hr]
      exact (List.sublist_cons_self r rest).map _
    refine State.Mild.does_one (n := n) (((s.mild_modChan n _).trans (State.calm_deliver _ _ _).toMild).trans
      (State.calm_complete _ _ _).toMild) ?_ (fun k hk => ?_)
      (.leaves (d := { s.chan n with counter := (s.messageOf cx (s.chan n)).seq, receivers := rest }) rfl rfl (.refl _)
        shorter)
    · simp [State.deliver]
    · simp [State.deliver, hk]

theorem State.does_parkAtChannel {join : WaitEntry → Channel → Channel} (h : (s.ctx cx).state.busy = true)
    (hn : ∀ e : WaitEntry, e.ctx = cx → (s.chan n).Turns s (join e (s.chan n))) : s.Does (s.parkAtChannel n cx join) := by
  have waits : (s.modChan n (join ⟨cx, (s.ctx cx).command.timeout⟩)).Calm (s.parkAtChannel n cx join) := by
    unfold State.parkAtChannel
    exact State.calm_modCtx fun _ => ⟨h, rfl⟩
  refine ((s.mild_modChan n _).trans waits.toMild).does_one (n := n) ?_ (fun k hk => ?_) (hn ⟨cx, (s.ctx cx).command.timeout⟩ rfl)
  · simp [State.parkAtChannel]
  · simp [State.parkAtChannel, hk]

theorem CommandRecord.counts_of_target {r : CommandRecord}
    (h : (if r.countWithin Config.bufferWords && r.selectorValid then r.chanNum else none) = some n) : r.counts 16 := by
  split at h
  · rename_i hc
    exact (r.countWithin_iff _).1 (Bool.and_eq_true_iff.1 hc).1
  · cases h

variable (s) (cx) in
theorem execSend_doesTo : s.DoesTo (execSend cx s) := by
  refine State.doesTo_take fun s h => State.doesTo_onTarget fun n hn => State.doesTo_onChannel fun b hb hrole => ?_
  have hbusy : (s.ctx cx).state.busy = true := by rw [h]; rfl
  have hc : (s.ctx cx).command.counts 16 := CommandRecord.counts_of_target hn
  dsimp only
  split
  · rename_i hroom
    exact State.doesTo_next (State.does_acceptSend hb hroom hc)
  · rename_i hroom
    split
    · exact s.doesTo_complete _ _
    · refine State.doesTo_next (State.does_parkAtChannel hbusy fun e he => ?_)
      subst he
      exact .parksSender b e hb (by simpa using hroom) hrole hbusy hc

/-- The freeing of a slot and the refill after it, for a request that waits nowhere (R72, R73). -/
theorem State.does_receive {m : Message} {ms : List Message} (h : (s.ctx cx).state = .pending .cu)
    (hm : (s.chan n).slots = m :: ms) :
    s.Does (((s.modChan n fun c => { c with slots := ms }).deliver cx m).refill n b) := by
  set u := (s.modChan n fun c => { c with slots := ms }).deliver cx m with hu
  have mild : s.Mild u := (s.mild_modChan n _).trans (State.calm_deliver _ _ _).toMild
  have chan : u.chan n = { s.chan n with slots := ms } := by simp [hu, State.deliver]
  have others (k : ChanNum) (hk : k ≠ n) : u.chan k = s.chan k := by simp [hu, State.deliver, hk]
  have command (c : CtxNum) (hw : (s.ctx c).state = .waiting .cu) : (u.ctx c).command = (s.ctx c).command := by
    have hne : c ≠ cx := by
      rintro rfl
      exact nomatch hw.symm.trans h
    rw [hu, State.deliver, State.complete_command_of_busy _ hne]
    · simp [hne]
    · simp [hne, hw, CtxState.busy, CtxState.owner]
  unfold State.refill
  dsimp only
  split
  · rename_i hs
    rw [chan] at hs
    exact State.Mild.does_one (n := n) (mild.trans (State.calm_sendCuAll _ _ _).toMild) (by simpa using chan)
      (fun k hk => by simpa using others k hk) (.gives m ms hm hs)
  · rename_i e es hs
    rw [chan] at hs ⊢
    set m' := u.messageOf e.ctx { s.chan n with slots := ms } with hm'
    refine State.Mild.does_one (n := n) (((mild.trans (State.mild_modChan _ n _)).trans
      (State.calm_setFlagAt _ _ _ _).toMild).trans (State.calm_complete _ _ _).toMild) ?_ (fun k hk => ?_)
      (.refills m m' ms e es hm hs ?_ fun hw hc => ?_)
    · simp [State.setFlagAt, chan]
    · simpa [State.setFlagAt, hk] using others k hk
    · rw [hm', State.messageOf_words_length]
      exact min_le_right _ _
    · rw [hm', State.messageOf_words_length, command _ hw]
      exact le_min hc.1 (by decide)

variable (s) (cx) in
theorem execReceive_doesTo : s.DoesTo (execReceive cx s) := by
  refine State.doesTo_take fun s h => State.doesTo_onTarget fun n hn => State.doesTo_onChannel fun b hb hrole => ?_
  dsimp only
  split
  · rename_i m ms hm
    exact State.doesTo_next (State.does_receive h hm)
  · rename_i hm
    split
    · exact s.doesTo_complete _ _
    · refine State.doesTo_next (State.does_parkAtChannel (by rw [h]; rfl) fun e he => ?_)
      subst he
      exact .parksReceiver b e hb hm hrole

variable (s) (cx)

theorem execInspectChannel_doesTo : s.DoesTo (execInspectChannel cx s) := by
  refine State.doesTo_take fun s _ => State.doesTo_onTarget fun n _ => ?_
  split
  · exact s.doesTo_complete _ _
  · exact s.doesTo_failed _ _

theorem execBindChannel_doesTo : s.DoesTo (execBindChannel cx s) := by
  refine State.doesTo_take fun s _ => State.doesTo_asManager <| State.doesTo_onTarget fun n hn => ?_
  have hv : (bindingField (s.ctx cx).command.operand).valid = true := by
    by_contra hv
    rw [if_neg hv] at hn
    cases hn
  split
  · exact s.doesTo_failed _ _
  · have bound : (s.chan n).Turns s ⟨some (bindingField (s.ctx cx).command.operand), 0, [], [], []⟩ :=
      .clears (by rintro _ ⟨⟩; exact hv) rfl rfl rfl
    refine State.doesTo_next (State.Mild.does_one (n := n) (((s.mild_modChan n _).trans
      (State.calm_sendCuAll _ _ _).toMild).trans (State.calm_complete _ _ _).toMild) ?_ (fun k hk => ?_) bound)
    · simp
    · simp [hk]

/-- A channel goes out of use. -/
theorem State.Mild.does_unbound {s t : State} (h : s.Mild t) (n : ChanNum)
    (hc : t.channels = (s.modChan n Channel.unbound).channels) : s.Does t := by
  have e (k : ChanNum) : t.chan k = (s.modChan n Channel.unbound).chan k := by simp only [State.chan, hc]
  refine h.does_one (n := n) (d := (s.chan n).unbound) ?_ (fun k hk => ?_) (.clears nofun rfl rfl rfl)
  · rw [e, State.modChan_chan_self]
  · rw [e, State.modChan_chan_ne _ _ _ hk]

theorem execUnbindChannel_doesTo : s.DoesTo (execUnbindChannel cx s) := by
  refine State.doesTo_take fun s _ => State.doesTo_asManager <| State.doesTo_onTarget fun n _ => ?_
  have unbind : s.Mild (s.modChan n Channel.unbound) := s.mild_modChan n _
  dsimp only
  split
  · exact s.doesTo_failed _ _
  · rename_i b hb
    split
    · exact State.doesTo_next
        ((unbind.trans (State.calm_complete _ _ _).toMild).does_unbound n (State.complete_channels ..))
    · split
      · have forced : s.Mild (s.forceUnbind n b) :=
          ((unbind.trans (State.calm_cancelEntries _ _).toMild).trans (State.calm_sendCu _ _ _).toMild).trans
            (State.calm_sendCuAll _ _ _).toMild
        exact State.doesTo_next ((forced.trans (State.calm_complete _ _ _).toMild).does_unbound n
          (by simp [State.forceUnbind]))
      · exact s.doesTo_complete _ _

/-- Entries leave the queues of the channels. -/
theorem State.Mild.does_of_filter {s t : State} (h : s.Mild t) (keep : WaitEntry → Bool)
    (hn : ∀ n, t.chan n = { s.chan n with
      senders := (s.chan n).senders.filter keep, receivers := (s.chan n).receivers.filter keep }) : s.Does t :=
  h.does fun n => by
    rw [hn]
    exact .leaves rfl rfl (List.filter_sublist.map _) (List.filter_sublist.map _)

theorem execCuTick_doesTo : s.DoesTo (execCuTick s) := by
  have counted (q : List WaitEntry) : ((countEntries q).map WaitEntry.ctx).Sublist (q.map WaitEntry.ctx) := by
    rw [countEntries, List.map_map]
    exact List.filter_sublist.map _
  refine State.doesTo_live ?_
  split
  · exact s.doesTo_self
  · have mild : s.Mild s.countChannelWaits := (s.mild_mapChans _).trans (State.calm_timeOutAll _ _).toMild
    refine State.doesTo_next ((mild.trans (State.calm_setCuTicks _ _ _).toMild).does fun n => ?_)
    rw [State.setCuTicks_chan, State.countChannelWaits_chan]
    exact .leaves rfl rfl (counted _) (counted _)

theorem execChannelWaitTimeout_doesTo : s.DoesTo (execChannelWaitTimeout cx s) := by
  refine State.doesTo_live ?_
  split
  · have mild : s.Mild (s.leaveChannels cx) := s.mild_mapChans _
    refine State.doesTo_next (((mild.trans (State.calm_setCuTicks _ _ _).toMild).trans
      (State.calm_complete _ _ _).toMild).does_of_filter (fun e => decide (e.ctx ≠ cx)) fun n => ?_)
    rw [State.complete_chan, State.setCuTicks_chan, State.leaveChannels, State.mapChans_chan]
    rfl
  · exact s.doesTo_self

theorem execChannelWaitAbort_doesTo : s.DoesTo (execChannelWaitAbort cx s) := by
  refine State.doesTo_live ?_
  split
  · have mild : s.Mild (s.leaveChannels cx) := s.mild_mapChans _
    refine State.doesTo_next ((mild.trans (State.calm_complete _ _ _).toMild).does_of_filter
      (fun e => decide (e.ctx ≠ cx)) fun n => ?_)
    rw [State.complete_chan, State.leaveChannels, State.mapChans_chan]
    rfl
  · exact s.doesTo_self

theorem State.does_cuWithdraw (p : Port) : s.Does (s.cuWithdraw p) := by
  refine (s.mild_cuWithdraw p).does_of_filter (fun e => decide (portOf e.ctx ≠ p)) fun n => ?_
  simp [State.cuWithdraw, leaveEntriesOfPort]

end ChannelUnit

/-! ### Withdrawal notices -/

section Notices
variable (s : State) (p : Port) (stage : NoticeStep)

theorem execMuWithdrawalNotice_doesTo : s.DoesTo (execMuWithdrawalNotice p stage s) :=
  s.doesTo_withdrawalNotice p fun s => (s.calm_muWithdraw p).does

theorem execLuWithdrawalNotice_doesTo : s.DoesTo (execLuWithdrawalNotice p stage s) :=
  s.doesTo_withdrawalNotice p fun s => (s.calm_luWithdraw p).does

theorem execCuWithdrawalNotice_doesTo : s.DoesTo (execCuWithdrawalNotice p stage s) :=
  s.doesTo_withdrawalNotice p fun s => s.does_cuWithdraw p

theorem execSuWithdrawalNotice_doesTo : s.DoesTo (execSuWithdrawalNotice p stage s) :=
  s.doesTo_withdrawalNotice p fun s => (s.calm_suWithdraw p).does

end Notices

/-! ### Every command -/

theorem exec_doesTo (i : Instr) (s : State) : s.DoesTo (exec i s) := by
  cases i with
  | go cx => exact State.doesTo_word (fun s => (s.keepsRecords_goStrobe cx).does) _ _
  | ack cx => exact State.doesTo_word (fun s => (s.keepsRecords_ackStrobe cx).does) _ _
  | abort cx => exact State.doesTo_word (fun s => (s.keepsRecords_abortStrobe cx).does) _ _
  | attach p => exact State.doesTo_word (fun s => (s.calm_attachAction p).does) _ _
  | detach p => exact State.doesTo_word (fun s => (s.calm_detachAction p).does) _ _
  | portReset p => exact State.doesTo_word (fun s => (s.calm_portResetAction p).does) _ _
  | evictionOrder p => exact execEvictionOrder_doesTo s p
  | withdrawalAck p u => exact execWithdrawalAck_doesTo s p u
  | dataRead place part => exact execDataRead_doesTo s place part
  | dataWrite cx w => exact State.doesTo_word (fun s => s.does_lockedWrite _ _ _ _) _ _
  | logRead p part => exact s.doesTo_readWord p _ part
  | overflowClear p => exact State.doesTo_word (fun s => (s.calm_clearOverflow p).does) _ _
  | leaseLostClear p => exact State.doesTo_word (fun s => (s.calm_clearLeaseLost p).does) _ _
  | windowErrorClear p => exact State.doesTo_word (fun s => (s.calm_clearWindowError p).does) _ _
  | dataFlagClear p mask => exact State.doesTo_word (fun s => (s.calm_clearData p mask).does) _ _
  | spaceFlagClear p mask => exact State.doesTo_word (fun s => (s.calm_clearSpace p mask).does) _ _
  | eventEnablesWrite p k w => exact State.doesTo_word (fun s => (s.calm_writeEnables p k w).does) _ _
  | intConfigWrite p w => exact State.doesTo_word (fun s => (s.calm_writeIntConfig p w).does) _ _
  | registerWrite p place w => exact execRegisterWrite_doesTo s p place w
  | frameShort p bits => exact execFrameShort_doesTo s p bits
  | read cx => exact execRead_doesTo cx s
  | write cx => exact execWrite_doesTo cx s
  | readGroup cx => exact execReadGroup_doesTo cx s
  | writeGroup cx => exact execWriteGroup_doesTo cx s
  | tally cx => exact execTally_doesTo cx s
  | setIfZero cx => exact execSetIfZero_doesTo cx s
  | zeroFill cx => exact execZeroFill_doesTo cx s
  | fillBurst cx => exact execFillBurst_doesTo cx s
  | defineSegment cx => exact execDefineSegment_doesTo cx s
  | clearSegment cx => exact execClearSegment_doesTo cx s
  | inspectSegment cx => exact execInspectSegment_doesTo cx s
  | acquire cx => exact execAcquire_doesTo cx s
  | release cx => exact execRelease_doesTo cx s
  | renew cx => exact execRenew_doesTo cx s
  | inspectLock cx => exact execInspectLock_doesTo cx s
  | setLock cx => exact execSetLock_doesTo cx s
  | forceRelease part => exact execForceRelease_doesTo s part
  | send cx => exact execSend_doesTo cx s
  | receive cx => exact execReceive_doesTo cx s
  | inspectChannel cx => exact execInspectChannel_doesTo cx s
  | bindChannel cx => exact execBindChannel_doesTo cx s
  | unbindChannel cx => exact execUnbindChannel_doesTo cx s
  | setPortKeys cx => exact execSetPortKeys_doesTo cx s
  | setTick cx => exact execSetTick_doesTo cx s
  | evictPort cx => exact execEvictPort_doesTo cx s
  | inspectPort cx part => exact execInspectPort_doesTo cx s part
  | chipReset cx straps => exact execChipReset_doesTo cx s straps
  | resetAssert => exact execResetAssert_doesTo s
  | resetRelease straps => exact execResetRelease_doesTo s straps
  | memoryClearDone => exact execMemoryClearDone_doesTo s
  | chipReady => exact execChipReady_doesTo s
  | periodEnd => exact execPeriodEnd_doesTo s
  | luTick => exact execLuTick_doesTo s
  | lockWaitTimeout cx => exact execLockWaitTimeout_doesTo cx s
  | leaseExpiry l => exact execLeaseExpiry_doesTo s l
  | cuTick => exact execCuTick_doesTo s
  | channelWaitTimeout cx => exact execChannelWaitTimeout_doesTo cx s
  | abortNoticePending cx => exact execAbortNoticePending_doesTo s cx
  | lockWaitAbort cx => exact execLockWaitAbort_doesTo cx s
  | channelWaitAbort cx => exact execChannelWaitAbort_doesTo cx s
  | fillAbort cx => exact execFillAbort_doesTo cx s
  | muWithdrawalNotice p stage => exact execMuWithdrawalNotice_doesTo s p stage
  | luWithdrawalNotice p stage => exact execLuWithdrawalNotice_doesTo s p stage
  | cuWithdrawalNotice p stage => exact execCuWithdrawalNotice_doesTo s p stage
  | suWithdrawalNotice p stage => exact execSuWithdrawalNotice_doesTo s p stage
  | revocationRecordArrival p => exact execRevocationRecordArrival_doesTo s p
  | flagSettingArrival p n => exact State.doesTo_live (s.doesTo_takeCuMessage p n true)
  | flagClearingArrival p n => exact State.doesTo_live (s.doesTo_takeCuMessage p n false)
  | headerByte p part => exact execHeaderByte_doesTo s p part

theorem step_does {s t : State} (h : step s = .next t) : s.Does t := by
  unfold step at h
  split at h
  · cases h
    exact (State.Calm.refl s).does
  · rename_i c rest _
    have asked : s.DoesTo (exec c { s with pending := rest }) :=
      State.doesTo_of_requests (s := s) (u := { s with pending := rest }) (fun _ => ⟨rfl, rfl⟩) rfl rfl (exec_doesTo c _)
    exact asked t h

end Sys2Proof.Machine

namespace Sys2Proof.Machine

/-! ## Channels and logs after every step (R57, R63 to R65) -/

/-! ### R65, and the roles of R63 -/

/-- R65, clause by clause. -/
structure Channel.Sound (c : Channel) : Prop where
  slots : c.slots.length ≤ Config.channelSlots
  receivers : c.receivers = [] ∨ c.slots = []
  senders : c.senders = [] ∨ c.slots.length = Config.channelSlots
  unbound : c.binding = none → c.slots = [] ∧ c.senders = [] ∧ c.receivers = []
  words : ∀ m ∈ c.slots, m.words.length ≤ Config.bufferWords

theorem Channel.sound_iff (c : Channel) : c.consistent = true ↔ c.Sound := by
  have e : c.consistent = true ↔ c.slots.length ≤ Config.channelSlots ∧ (c.receivers = [] ∨ c.slots = []) ∧
      (c.senders = [] ∨ c.slots.length = Config.channelSlots) ∧
      (c.binding = none → c.slots = [] ∧ c.senders = [] ∧ c.receivers = []) ∧
      ∀ m ∈ c.slots, m.words.length ≤ Config.bufferWords := by
    unfold Channel.consistent
    cases c.binding <;> simp [and_assoc]
  rw [e]
  exact ⟨fun ⟨h1, h2, h3, h4, h5⟩ => ⟨h1, h2, h3, h4, h5⟩, fun ⟨h1, h2, h3, h4, h5⟩ => ⟨h1, h2, h3, h4, h5⟩⟩

/-- `Channel.bounded` without the lengths of the queues, which follow from the roles where no context has two entries. -/
structure Channel.InRoles (c : Channel) : Prop where
  words : ∀ m ∈ c.slots, 1 ≤ m.words.length
  valid : ∀ b, c.binding = some b → b.valid = true
  senders : ∀ b, c.binding = some b → ∀ cx ∈ c.senders.map WaitEntry.ctx, b.sends (portOf cx) = true
  receivers : ∀ b, c.binding = some b → ∀ cx ∈ c.receivers.map WaitEntry.ctx, b.receives (portOf cx) = true

theorem Channel.bounded_iff (c : Channel) :
    c.bounded = true ↔ c.senders.length ≤ 12 ∧ c.receivers.length ≤ 4 ∧ c.InRoles := by
  have e : c.bounded = true ↔ c.senders.length ≤ 12 ∧ c.receivers.length ≤ 4 ∧ (∀ m ∈ c.slots, 1 ≤ m.words.length) ∧
      (∀ b, c.binding = some b → b.valid = true) ∧
      (∀ b, c.binding = some b → ∀ cx ∈ c.senders.map WaitEntry.ctx, b.sends (portOf cx) = true) ∧
      ∀ b, c.binding = some b → ∀ cx ∈ c.receivers.map WaitEntry.ctx, b.receives (portOf cx) = true := by
    unfold Channel.bounded Binding.valid Binding.sends Binding.receives
    cases c.binding with
    | none => simp [and_assoc]
    | some b => simp [and_assoc, @eq_comm _ b.receiver]
  rw [e]
  exact ⟨fun ⟨h1, h2, h3, h4, h5, h6⟩ => ⟨h1, h2, h3, h4, h5, h6⟩, fun ⟨h1, h2, h3, h4, h5, h6⟩ => ⟨h1, h2, h3, h4, h5, h6⟩⟩

section Turns
variable {s t : State} {c d : Channel}

theorem Channel.hasRoom_iff (c : Channel) : c.hasRoom = true ↔ c.slots.length < Config.channelSlots := decide_eq_true_iff

/-- What a command does to a channel keeps R65. -/
theorem Channel.Turns.sound (h : c.Turns s d) (hc : c.Sound) : d.Sound := by
  have two : Config.channelSlots = 2 := rfl
  cases h with
  | leaves hb hm hs hr =>
    have hs' (e : c.senders = []) : d.senders = [] := by simpa [e] using hs
    have hr' (e : c.receivers = []) : d.receivers = [] := by simpa [e] using hr
    refine ⟨hm ▸ hc.slots, hm ▸ hc.receivers.imp_left hr', hm ▸ hc.senders.imp_left hs', fun hn => ?_, hm ▸ hc.words⟩
    obtain ⟨e, es, er⟩ := hc.unbound (hb ▸ hn)
    exact ⟨hm.trans e, hs' es, hr' er⟩
  | clears hb hm hs hr => exact ⟨by simp [hm], .inr hm, .inl hs, fun _ => ⟨hm, hs, hr⟩, by simp [hm]⟩
  | accepts m hroom hb hr hm =>
    rw [Channel.hasRoom_iff] at hroom
    refine ⟨?_, .inl hr, .inl (hc.senders.resolve_right hroom.ne), fun hn => absurd hn hb, fun x hx => ?_⟩
    · simpa [Channel.accepted] using hroom
    · simp only [Channel.accepted, List.mem_append, List.mem_singleton] at hx
      obtain hx | rfl := hx
      · exact hc.words x hx
      · exact hm.2
  | parksSender b e hb hroom hrole hbusy hcount =>
    have full : c.slots.length = Config.channelSlots :=
      le_antisymm hc.slots (not_lt.1 fun hlt => by simp [(Channel.hasRoom_iff c).2 hlt] at hroom)
    exact ⟨hc.slots, hc.receivers, .inr full, fun hn => by simp [hb] at hn, hc.words⟩
  | parksReceiver b e hb hempty hrole =>
    exact ⟨hc.slots, .inr hempty, hc.senders, fun hn => by simp [hb] at hn, hc.words⟩
  | gives m ms hm hs =>
    have hr : c.receivers = [] := hc.receivers.resolve_right (by simp [hm])
    have hlen := hc.slots
    rw [hm, List.length_cons] at hlen
    refine ⟨by dsimp only; omega, .inl hr, .inl hs, fun hn => ?_, fun x hx => hc.words x (by simp [hm, show x ∈ ms from hx])⟩
    have := (hc.unbound hn).1
    simp [hm] at this
  | refills m m' ms e es hm hs hlen hcount =>
    have hr : c.receivers = [] := hc.receivers.resolve_right (by simp [hm])
    have full : c.slots.length = Config.channelSlots := hc.senders.resolve_left (by simp [hs])
    have same : (ms ++ [m']).length = Config.channelSlots := by simpa [hm] using full
    refine ⟨same.le, .inl hr, .inr same, fun hn => ?_, fun x hx => ?_⟩
    · have := (hc.unbound hn).1
      simp [hm] at this
    · simp only [Channel.accepted, List.mem_append, List.mem_singleton] at hx
      obtain hx | rfl := hx
      · exact hc.words x (by simp [hm, hx])
      · exact hlen

/-- What a command does to a channel keeps the roles: the senders that waited offered messages of lengths in range. -/
theorem Channel.Turns.inRoles (h : c.Turns s d) (hc : c.InRoles)
    (hw : ∀ e ∈ c.senders, (s.ctx e.ctx).state = .waiting .cu ∧ (s.ctx e.ctx).command.counts 16) : d.InRoles := by
  cases h with
  | leaves hb hm hs hr =>
    exact ⟨hm ▸ hc.words, hb ▸ hc.valid, fun b e cx hx => hc.senders b (hb ▸ e) cx (hs.subset hx),
      fun b e cx hx => hc.receivers b (hb ▸ e) cx (hr.subset hx)⟩
  | clears hb hm hs hr => exact ⟨by simp [hm], hb, by simp [hs], by simp [hr]⟩
  | accepts m hroom hb hr hm =>
    refine ⟨fun x hx => ?_, hc.valid, hc.senders, hc.receivers⟩
    simp only [Channel.accepted, List.mem_append, List.mem_singleton] at hx
    obtain hx | rfl := hx
    · exact hc.words x hx
    · exact hm.1
  | parksSender b e hb hroom hrole hbusy hcount =>
    refine ⟨hc.words, hc.valid, fun b' hb' cx hx => ?_, hc.receivers⟩
    obtain rfl : b = b' := Option.some.inj (hb.symm.trans hb')
    simp only [List.map_append, List.map_cons, List.map_nil, List.mem_append, List.mem_singleton] at hx
    obtain hx | rfl := hx
    · exact hc.senders b hb cx hx
    · exact hrole
  | parksReceiver b e hb hempty hrole =>
    refine ⟨hc.words, hc.valid, hc.senders, fun b' hb' cx hx => ?_⟩
    obtain rfl : b = b' := Option.some.inj (hb.symm.trans hb')
    simp only [List.map_append, List.map_cons, List.map_nil, List.mem_append, List.mem_singleton] at hx
    obtain hx | rfl := hx
    · exact hc.receivers b hb cx hx
    · exact hrole
  | gives m ms hm hs =>
    exact ⟨fun x hx => hc.words x (by simp [hm, show x ∈ ms from hx]), hc.valid, hc.senders, hc.receivers⟩
  | refills m m' ms e es hm hs hlen hcount =>
    refine ⟨fun x hx => ?_, hc.valid, fun b hb cx hx => hc.senders b hb cx ?_, hc.receivers⟩
    · simp only [Channel.accepted, List.mem_append, List.mem_singleton] at hx
      obtain hx | rfl := hx
      · exact hc.words x (by simp [hm, hx])
      · obtain ⟨hwait, hcounts⟩ := hw e (by simp [hs])
        exact hcount hwait hcounts
    · rw [hs, List.map_cons]
      exact List.mem_cons_of_mem _ hx

/-- A sender that waits after a command waited before it, or has just parked: its request was busy, and its count in
range. -/
theorem Channel.Turns.senders_counts (h : c.Turns s d)
    (hw : ∀ e ∈ c.senders, (s.ctx e.ctx).state = .waiting .cu ∧ (s.ctx e.ctx).command.counts 16) :
    ∀ cx ∈ d.senders.map WaitEntry.ctx, (s.ctx cx).state.busy = true ∧ (s.ctx cx).command.counts 16 := by
  have waited : ∀ cx ∈ c.senders.map WaitEntry.ctx, (s.ctx cx).state.busy = true ∧ (s.ctx cx).command.counts 16 := by
    rintro cx hx
    obtain ⟨e, he, rfl⟩ := List.mem_map.1 hx
    obtain ⟨hwait, hcounts⟩ := hw e he
    exact ⟨by rw [hwait]; rfl, hcounts⟩
  intro cx hx
  cases h with
  | leaves hb hm hs hr => exact waited cx (hs.subset hx)
  | clears hb hm hs hr => simp [hs] at hx
  | accepts m hroom hb hr hm => exact waited cx hx
  | parksSender b e hb hroom hrole hbusy hcount =>
    simp only [List.map_append, List.map_cons, List.map_nil, List.mem_append, List.mem_singleton] at hx
    obtain hx | rfl := hx
    · exact waited cx hx
    · exact ⟨hbusy, hcount⟩
  | parksReceiver b e hb hempty hrole => exact waited cx hx
  | gives m ms hm hs => exact waited cx hx
  | refills m m' ms e es hm hs hlen hcount =>
    refine waited cx ?_
    rw [hs, List.map_cons]
    exact List.mem_cons_of_mem _ hx

end Turns

/-! ### The lengths of the queues -/

/-- R1: of the 16 contexts, 4 are those of one port, and 12 those of the others. -/
theorem length_filter_portOf (p : Port) : (allCtxs.filter fun cx => decide (portOf cx = p)).length = 4 ∧
    (allCtxs.filter fun cx => decide (portOf cx ≠ p)).length = 12 := by
  revert p
  decide

theorem length_le_of_nodup {l : List CtxNum} (hn : l.Nodup) {f : CtxNum → Bool} (h : ∀ cx ∈ l, f cx = true) :
    l.length ≤ (allCtxs.filter f).length :=
  (hn.subperm fun cx hx => List.mem_filter.2 ⟨mem_allCtxs cx, h cx hx⟩).length_le

/-- In the roles of the binding, with no context in two entries, 12 senders and 4 receivers are the most. -/
theorem Channel.lengths_of_inRoles {c : Channel} (hc : c.Sound) (hr : c.InRoles) (hn : c.waiters.Nodup) :
    c.senders.length ≤ 12 ∧ c.receivers.length ≤ 4 := by
  cases hb : c.binding with
  | none =>
    obtain ⟨_, hs, hr⟩ := hc.unbound hb
    simp [hs, hr]
  | some b =>
    rw [Channel.waiters, List.map_append] at hn
    obtain ⟨four, twelve⟩ := length_filter_portOf b.receiver
    have hv := hr.valid b hb
    simp only [Binding.valid, Bool.and_eq_true, Bool.not_eq_true'] at hv
    constructor
    · have := length_le_of_nodup hn.of_append_left (f := fun cx => decide (portOf cx ≠ b.receiver)) fun cx hx =>
        decide_eq_true fun e => by
          have sends := hr.senders b hb cx hx
          rw [Binding.sends, e, hv.2] at sends
          cases sends
      rwa [twelve, List.length_map] at this
    · have := length_le_of_nodup hn.of_append_right (f := fun cx => decide (portOf cx = b.receiver)) fun cx hx => by
        simpa [Binding.receives, eq_comm] using hr.receivers b hb cx hx
      rwa [four, List.length_map] at this

/-- Of the contexts in the queues of all channels, those of one channel. -/
theorem State.nodup_waiters {s : State} (h : s.channelEntries.Nodup) (n : ChanNum) : (s.chan n).waiters.Nodup :=
  (List.nodup_flatMap.1 h).1 n (mem_allChans n)

theorem State.sender_mem_channelEntries {s : State} {n : ChanNum} {e : WaitEntry} (he : e ∈ (s.chan n).senders) :
    e.ctx ∈ s.channelEntries :=
  State.mem_channelEntries.2 ⟨n, List.mem_map_of_mem (List.mem_append_left _ he)⟩

/-! ### Every step -/

section Steps
variable {s t : State}

theorem State.Does.channelsConsistent (h : s.Does t) (hs : s.channelsConsistent) : t.channelsConsistent := fun n =>
  (Channel.sound_iff _).2 ((h.chan n).sound ((Channel.sound_iff _).1 (hs n)))

theorem State.Does.logsBounded (h : s.Does t) (hs : s.logsBounded) : t.logsBounded := fun p => h.log p (hs p)

/-- The roles and lengths of R63 and R64, where the waits are coherent before and after. -/
theorem State.Does.channelsBounded (h : s.Does t) (hs : s.channelsConsistent) (hb : s.channelsBounded)
    (hws : s.waitersCoherent) (hwt : t.waitersCoherent) : t.channelsBounded := by
  obtain ⟨_, _, _, waitingBefore, _, _⟩ := hws
  obtain ⟨_, nodupAfter, _, waitingAfter, _, _⟩ := hwt
  intro n
  obtain ⟨hn, hcounts⟩ := hb n
  obtain ⟨_, _, roles⟩ := (Channel.bounded_iff _).1 hn
  have offered : ∀ e ∈ (s.chan n).senders, (s.ctx e.ctx).state = .waiting .cu ∧ (s.ctx e.ctx).command.counts 16 :=
    fun e he => ⟨(waitingBefore e.ctx).2 (State.sender_mem_channelEntries he), hcounts e he⟩
  have rolesAfter : (t.chan n).InRoles := (h.chan n).inRoles roles offered
  have soundAfter : (t.chan n).Sound := (Channel.sound_iff _).1 (h.channelsConsistent hs n)
  obtain ⟨twelve, four⟩ := Channel.lengths_of_inRoles soundAfter rolesAfter (State.nodup_waiters nodupAfter n)
  refine ⟨(Channel.bounded_iff _).2 ⟨twelve, four, rolesAfter⟩, fun e he => ?_⟩
  obtain ⟨busyBefore, counts⟩ := (h.chan n).senders_counts offered e.ctx (List.mem_map_of_mem he)
  have waits : (t.ctx e.ctx).state = .waiting .cu :=
    (waitingAfter e.ctx).2 (State.sender_mem_channelEntries he)
  rw [h.command e.ctx busyBefore (by rw [waits]; rfl)]
  exact counts

end Steps

/-- Settles O6: every step does to each channel and log what `State.Does` says, and that keeps the bounds of R57 and R63
to R65; the lengths of the wait queues follow from their roles, no context having two entries (O5). -/
theorem stepKeepsChannelsAndLogs : Obligations.StepKeepsChannelsAndLogs := by
  refine ⟨fun s t hs h => (step_does h).channelsConsistent hs, fun s t hs hb hl h => ?_,
    fun s t hs h => (step_does h).logsBounded hs⟩
  obtain ⟨coherentAfter, _, _, _⟩ := stepKeepsLocksConsistent s t hl hs h
  obtain ⟨coherentBefore, _, _, _⟩ := hl
  exact (step_does h).channelsBounded hs hb coherentBefore coherentAfter

end Sys2Proof.Machine

namespace Sys2Proof.Machine

/-! ## The channel commands of CU (R66 to R82)

A command of CU rewrites one channel, sends settings and clearings to PIs and ends contexts. `ActsOn` says all of that
of a state and a later one; each operation of the model adds its part, so a command's effect is read off its
definition. -/

/-! ### The operations on a channel, and on what CU sends -/

section ChannelOperations
variable {s t : State} {n : ChanNum} {c : Channel}

theorem State.keepsBut_modChan (n : ChanNum) (f : Channel → Channel) : s.keepsBut (s.modChan n f) [.channels] :=
  ⟨rfl, fun q hq => by cases q <;> simp [State.keeps] at hq ⊢⟩

theorem State.keepsBut_sendCu (p : Port) (m : CuMessage) : s.keepsBut (s.sendCu p m) [.messages] :=
  State.keepsBut_modLink _ _

theorem State.keepsBut_sendCuAll (ports : BitVec 4) (m : CuMessage) : s.keepsBut (s.sendCuAll ports m) [.messages] := by
  unfold State.sendCuAll
  induction allPorts generalizing s with
  | nil => exact s.keepsBut_refl _
  | cons p ps ih =>
    rw [List.foldl_cons]
    split
    · exact (State.keepsBut_sendCu p m).trans ih
    · exact ih

theorem State.sendCu_link (s : State) (p : Port) (m : CuMessage) (q : Port) : (s.sendCu p m).link q =
    { s.link q with fromCu := (s.link q).fromCu ++ if q = p then [m] else [] } := by
  by_cases h : q = p
  · subst h
    simp [State.sendCu]
  · simp [State.sendCu, h]

/-- The message goes once to each port of the set. -/
theorem State.sendCuAll_link (s : State) (ports : BitVec 4) (m : CuMessage) (q : Port) : (s.sendCuAll ports m).link q =
    { s.link q with fromCu := (s.link q).fromCu ++ if ports.getLsbD q.val then [m] else [] } := by
  have sent (ps : List Port) (hn : ps.Nodup) : ∀ s : State,
      (ps.foldl (fun s p => if ports.getLsbD p.val then s.sendCu p m else s) s).link q =
        { s.link q with fromCu := (s.link q).fromCu ++ if q ∈ ps ∧ ports.getLsbD q.val = true then [m] else [] } := by
    induction ps with
    | nil => intro s; simp
    | cons p ps ih =>
      obtain ⟨hp, hn⟩ := List.nodup_cons.1 hn
      intro s
      rw [List.foldl_cons, ih hn]
      by_cases hq : q = p
      · subst hq
        cases hbit : ports.getLsbD q.val <;> simp [hp, State.sendCu_link]
      · cases ports.getLsbD p.val <;> simp [hq, State.sendCu_link]
  have hall := sent allPorts (by decide) s
  simp only [mem_allPorts, true_and] at hall
  exact hall

/-- The model's own counters have no part in what CU has sent. -/
theorem Links.seen_sent (k : Links) (ms : List CuMessage) :
    Links.seen { k with fromCu := ms } = { k.seen with fromCu := ms } := rfl

theorem State.offers_congr {cx : CtxNum} (h : t.ctx cx = s.ctx cx) (counter : BitVec 16) :
    t.offers cx counter = s.offers cx counter := by
  simp only [State.offers, h]

@[simp] theorem State.granted_offers (s : State) (u : UnitId) (c cx : CtxNum) (counter : BitVec 16) :
    (s.granted u c).offers cx counter = s.offers cx counter := by
  simp [State.offers]

/-- R66: the message is the one that the statements call offered. -/
theorem State.messageOf_eq (s : State) (cx : CtxNum) (c : Channel) : s.messageOf cx c = s.offers cx c.counter := rfl

/-- R66: with a count in range the message is as long as the count says. -/
theorem State.offers_length {cx : CtxNum} (h : (s.ctx cx).command.counts 16) (counter : BitVec 16) :
    (s.offers cx counter).words.length = (s.ctx cx).command.count.toNat := by
  obtain ⟨-, hmax⟩ := h
  exact (State.messageOf_words_length cx s { Channel.reset with counter := counter }).trans (Nat.min_eq_left hmax)

/-- R167: the length and the sender read back from AUX. -/
theorem packsReceipt_receiveAux {m : Message} (h : m.words.length ≤ 16) : packsReceipt (receiveAux m) m := by
  have haux : (receiveAux m).toNat = m.sender.val * 256 + m.words.length := by
    have hor := Nat.shiftLeft_add_eq_or_of_lt (i := 8) (b := m.words.length) (by omega) m.sender.val
    have hs := m.sender.isLt
    rw [Nat.shiftLeft_eq] at hor
    rw [receiveAux, BitVec.toNat_or, BitVec.toNat_shiftLeft, BitVec.toNat_ofNat, BitVec.toNat_ofNat, Nat.shiftLeft_eq,
      Nat.or_comm, Nat.mod_eq_of_lt (a := m.words.length) (by omega), Nat.mod_eq_of_lt (a := m.sender.val) (by omega),
      Nat.mod_eq_of_lt (by omega), ← hor]
  have hs := m.sender.isLt
  refine ⟨?_, ?_, ?_, ?_⟩ <;> apply BitVec.eq_of_toNat_eq <;>
    simp only [BitVec.extractLsb'_toNat, BitVec.toNat_ofNat, BitVec.ofNat_eq_ofNat, Nat.shiftRight_eq_div_pow,
      haux] <;>
    omega

end ChannelOperations

/-! ### All that CU does -/

/-- A context's request has ended with an answer, with words at the start of its buffer. -/
structure Ending where
  ctx : CtxNum
  answer : Answer
  words : List Word := []

/-- CU has made channel `n` the channel `c`, sent `ms p` to each port `p`, and ended the contexts of `es`, and it has
changed nothing else. -/
structure State.ActsOn (s t : State) (n : ChanNum) (c : Channel) (ms : Port → List CuMessage) (es : List Ending) :
    Prop where
  keeps : s.keepsBut t [.channels, .messages]
  chan : t.chan n = c
  others : s.keepsChannelsBut t n
  contexts : ∀ x, x ∉ es.map Ending.ctx → t.ctx x = s.ctx x
  ends : ∀ e ∈ es, s.ends t e.ctx e.answer e.words
  links : ∀ p, t.link p = { s.link p with fromCu := (s.link p).fromCu ++ ms p }

/-- A wait that is cancelled (R82, R84). -/
def WaitEntry.cancelled (e : WaitEntry) : Ending := { ctx := e.ctx, answer := { code := .cancelled } }

theorem State.actsOn_refl (s : State) (n : ChanNum) : s.ActsOn s n (s.chan n) (fun _ => []) [] where
  keeps := s.keepsBut_refl _
  chan := rfl
  others _ _ := rfl
  contexts _ _ := rfl
  ends := nofun
  links p := by simp

namespace State.ActsOn

section Operations
variable {s t : State} {n : ChanNum} {c : Channel} {ms : Port → List CuMessage} {es : List Ending}

theorem settled (h : s.ActsOn t n c ms es) (hs : s.settled) : t.settled := h.keeps.settled (by simp) hs

theorem modChan (h : s.ActsOn t n c ms es) (f : Channel → Channel) : s.ActsOn (t.modChan n f) n (f c) ms es where
  keeps := h.keeps.trans ((State.keepsBut_modChan n f).mono (by simp))
  chan := by rw [State.modChan_chan_self, h.chan]
  others k hk := (State.modChan_chan_ne _ _ _ hk).trans (h.others k hk)
  contexts := h.contexts
  ends := h.ends
  links := h.links

theorem sendCu (h : s.ActsOn t n c ms es) (p : Port) (m : CuMessage) :
    s.ActsOn (t.sendCu p m) n c (fun q => ms q ++ if q = p then [m] else []) es where
  keeps := h.keeps.trans ((State.keepsBut_sendCu p m).mono (by simp))
  chan := (t.sendCu_chan p m n).trans h.chan
  others k hk := (t.sendCu_chan p m k).trans (h.others k hk)
  contexts x hx := (t.sendCu_ctx p m x).trans (h.contexts x hx)
  ends e he := by
    rw [State.ends, State.sendCu_ctx]
    exact h.ends e he
  links q := by rw [State.sendCu_link, h.links, List.append_assoc]

theorem sendCuAll (h : s.ActsOn t n c ms es) (ports : BitVec 4) (m : CuMessage) :
    s.ActsOn (t.sendCuAll ports m) n c (fun q => ms q ++ if ports.getLsbD q.val then [m] else []) es where
  keeps := h.keeps.trans ((State.keepsBut_sendCuAll ports m).mono (by simp))
  chan := (t.sendCuAll_chan ports m n).trans h.chan
  others k hk := (t.sendCuAll_chan ports m k).trans (h.others k hk)
  contexts x hx := (t.sendCuAll_ctx ports m x).trans (h.contexts x hx)
  ends e he := by
    rw [State.ends, State.sendCuAll_ctx]
    exact h.ends e he
  links q := by rw [State.sendCuAll_link, h.links, List.append_assoc]

/-- A message comes into the buffer of a context that has not ended, if there is one, and the context ends. -/
theorem completeWith (h : s.ActsOn t n c ms es) (hs : s.settled) {cx : CtxNum} (hcx : cx ∉ es.map Ending.ctx)
    (r : Answer) (ws : List Word) :
    s.ActsOn ((t.modCtx cx fun x => x.withWords ws).complete cx r) n c ms (⟨cx, r, ws⟩ :: es) := by
  obtain ⟨hkeeps, hothers, -⟩ :=
    State.complete_changes ((State.modCtx_settled t cx fun x => x.withWords ws).2 (h.settled hs)) cx r
  have hne (x : CtxNum) (hx : x ≠ cx) :
      ((t.modCtx cx fun x => x.withWords ws).complete cx r).ctx x = t.ctx x :=
    (hothers x hx).trans (State.modCtx_ctx_ne _ _ _ hx)
  refine {
    keeps := h.keeps.trans ((State.keepsBut_modCtx cx _ _).trans (hkeeps _))
    chan := (State.complete_chan ..).trans h.chan
    others := fun k hk => (State.complete_chan ..).trans (h.others k hk)
    contexts := fun x hx => ?_
    ends := fun e he => ?_
    links := fun q => (State.complete_link ..).trans (h.links q) }
  · rw [List.map_cons, List.mem_cons, not_or] at hx
    obtain ⟨hxcx, hxes⟩ := hx
    rw [hne x hxcx, h.contexts x hxes]
  · rcases List.mem_cons.1 he with rfl | he
    · rw [State.ends, State.complete_of_settled ((State.modCtx_settled ..).2 (h.settled hs)), State.modCtx_ctx_self,
        State.modCtx_ctx_self, h.contexts cx hcx]
      exact Context.ended_withWords _ r ws
    · rw [State.ends, hne e.ctx fun hx => hcx (hx ▸ List.mem_map_of_mem he)]
      exact h.ends e he

/-- A context that has not ended ends. -/
theorem complete (h : s.ActsOn t n c ms es) (hs : s.settled) {cx : CtxNum} (hcx : cx ∉ es.map Ending.ctx) (r : Answer) :
    s.ActsOn (t.complete cx r) n c ms (⟨cx, r, []⟩ :: es) := by
  have e : (t.modCtx cx fun x => x.withWords []) = t := by
    rw [State.modCtx]
    exact congrArg (fun x => { t with contexts := x }) (Table.put_at_self _ _)
  exact e ▸ h.completeWith hs hcx r []

/-- A message is handed over to a context that has not ended (R69, R72). -/
theorem deliver (h : s.ActsOn t n c ms es) (hs : s.settled) {cx : CtxNum} (hcx : cx ∉ es.map Ending.ctx) (m : Message) :
    s.ActsOn (t.deliver cx m) n c ms (⟨cx, receiveAnswer m, m.words⟩ :: es) :=
  h.completeWith hs hcx _ _

/-- The waits of contexts that have not ended are cancelled, one after the other (R82). -/
theorem cancelEntries (h : s.ActsOn t n c ms es) (hs : s.settled) {q : List WaitEntry}
    (hn : (q.map WaitEntry.ctx).Nodup) (hq : ∀ x ∈ q.map WaitEntry.ctx, x ∉ es.map Ending.ctx) :
    s.ActsOn (t.cancelEntries q) n c ms ((q.map WaitEntry.cancelled).reverse ++ es) := by
  induction q generalizing t es with
  | nil => exact h
  | cons e q ih =>
    rw [List.map_cons, List.nodup_cons] at hn
    rw [List.map_cons, List.forall_mem_cons] at hq
    obtain ⟨he, hn⟩ := hn
    obtain ⟨hes, hq⟩ := hq
    rw [List.map_cons, List.reverse_cons, List.append_assoc, List.singleton_append]
    refine ih (h.complete hs hes { code := .cancelled }) hn fun x hx => ?_
    rw [List.map_cons, List.mem_cons, not_or]
    exact ⟨fun (hxe : x = e.ctx) => he (hxe ▸ hx), hq x hx⟩

end Operations

/-! What has been done since the arbiter's grant, seen from the state before it. -/

section Granted
variable {s t : State} {cx : CtxNum} {n : ChanNum} {c : Channel} {ms : Port → List CuMessage} {es : List Ending}
  {cs : List CtxNum}

theorem served (h : (s.granted .cu cx).ActsOn t n c ms es) (hes : ∀ x ∈ es.map Ending.ctx, x ∈ cx :: cs) :
    s.served t .cu cx [.channels, .messages] cs :=
  State.served_of_granted (by simp) h.keeps fun x hx => h.contexts x (mt (hes x) hx)

/-- Where nothing is sent the messages are as they were. -/
theorem served_silent (h : (s.granted .cu cx).ActsOn t n c (fun _ => []) es)
    (hes : ∀ x ∈ es.map Ending.ctx, x ∈ cx :: cs) : s.served t .cu cx [.channels] cs := by
  have hlinks (p : Port) : t.link p = (s.granted .cu cx).link p := by simp [h.links p]
  exact State.served_of_granted (by simp) ((h.keeps.mono (by simp)).of_links hlinks) fun x hx =>
    h.contexts x (mt (hes x) hx)

theorem keepsChannelsBut (h : (s.granted .cu cx).ActsOn t n c ms es) : s.keepsChannelsBut t n := fun k hk =>
  (h.others k hk).trans (s.granted_chan .cu cx k)

theorem ended (h : (s.granted .cu cx).ActsOn t n c ms es) {x : CtxNum} {r : Answer} {ws : List Word}
    (he : ⟨x, r, ws⟩ ∈ es) : s.ends t x r ws := (State.granted_ends ..).1 (h.ends _ he)

theorem sent (h : (s.granted .cu cx).ActsOn t n c ms es) (p : Port) :
    (t.link p).seen = { (s.link p).seen with fromCu := (s.link p).fromCu ++ ms p } := by
  rw [h.links, Links.seen_sent, State.granted_link, Links.countGrant_seen]

theorem keepsMessagesBut (h : (s.granted .cu cx).ActsOn t n c ms es) {p : Port} (hms : ∀ q, q ≠ p → ms q = []) :
    s.keepsMessagesBut t p := fun q hq => by
  rw [h.sent, hms q hq, List.append_nil]
  rfl

end Granted

end State.ActsOn

end Sys2Proof.Machine

namespace Sys2Proof.Machine

/-! ### SEND and RECEIVE once their checks have passed (R68 to R74) -/

section SendAndReceive
variable {s : State} {cx : CtxNum} {n : ChanNum} {b : Binding}

/-- A request that passes the checks that SEND and RECEIVE share goes on (R68, R71). -/
theorem State.onChannel_opens (hb : (s.chan n).binding = some b) {role : Binding → Port → Bool}
    (hr : role b (portOf cx) = true) (hk : s.presentsKeyFor cx b.key) (k : Binding → Out) :
    s.onChannel cx n role k = k b := by
  rw [State.onChannel, hb]
  exact (if_pos hr).trans (if_pos ((s.keyOpens_iff cx b.key).2 hk))

@[simp] theorem State.granted_presentsKeyFor (u : UnitId) (c : CtxNum) (key : Key) :
    (s.granted u c).presentsKeyFor cx key ↔ s.presentsKeyFor cx key := by
  rw [← State.keyOpens_iff, ← State.keyOpens_iff, State.granted_keyOpens]

/-- CU takes a SEND of `cx` on channel `n`, bound by `b`, that passes every check (R22, R68). -/
structure State.MaySend (s : State) (cx : CtxNum) (n : ChanNum) (b : Binding) : Prop where
  takes : s.takes .send cx
  target : (s.ctx cx).command.object.toNat = n.val
  counts : (s.ctx cx).command.counts 16
  selector : (s.ctx cx).command.selector ≠ .unused
  binding : (s.chan n).binding = some b
  sends : b.senders.getLsbD (portOf cx).val = true
  key : s.presentsKeyFor cx b.key

/-- CU takes a RECEIVE of `cx` on channel `n`, bound by `b`, that passes every check (R22, R71). -/
structure State.MayReceive (s : State) (cx : CtxNum) (n : ChanNum) (b : Binding) : Prop where
  takes : s.takes .receive cx
  target : (s.ctx cx).command.object.toNat = n.val
  selector : (s.ctx cx).command.selector ≠ .unused
  binding : (s.chan n).binding = some b
  receives : b.receiver = portOf cx
  key : s.presentsKeyFor cx b.key

/-- A parked sender stands last (R70). -/
def Channel.withSender (e : WaitEntry) (c : Channel) : Channel := { c with senders := c.senders ++ [e] }

/-- A parked receiver stands last (R74). -/
def Channel.withReceiver (e : WaitEntry) (c : Channel) : Channel := { c with receivers := c.receivers ++ [e] }

/-- What a SEND comes to, by the room in the channel and the mode (R68, R70). -/
theorem exec_send (h : s.MaySend cx n b) :
    ((s.chan n).slots.length < 2 → exec (.send cx) s = .next ((s.granted .cu cx).acceptSend n b cx)) ∧
      ((s.chan n).slots.length = 2 → (s.ctx cx).command.mode = .nowait →
        exec (.send cx) s = .next ((s.granted .cu cx).complete cx
          { code := .full, value := (s.chan n).counter.setWidth 32,
            aux := BitVec.ofNat 16 (s.chan n).senders.length })) ∧
      ((s.chan n).slots.length = 2 → (s.ctx cx).command.mode = .wait →
        exec (.send cx) s = .next ((s.granted .cu cx).parkAtChannel n cx Channel.withSender)) := by
  have hcount : (s.ctx cx).command.countWithin Config.bufferWords = true :=
    (CommandRecord.countWithin_iff _ _).2 h.counts
  have hsel : (s.ctx cx).command.selectorValid = true := decide_eq_true h.selector
  have hroom : (s.chan n).hasRoom = true ↔ (s.chan n).slots.length < 2 := Channel.hasRoom_iff _
  have e := fun k => State.onChannel_opens (s := s.granted .cu cx) (by simpa using h.binding)
    (role := Binding.sends) h.sends (by simpa using h.key) k
  simp only [exec, execSend, State.take_of_takes h.takes, Command.owner, State.granted_ctx, Context.countGrant_command,
    hcount, hsel, CommandRecord.chanNum_eq h.target, Bool.and_self, if_true, State.onTarget_some, e, State.granted_chan]
  refine ⟨fun hl => if_pos (hroom.2 hl), fun hl hm => ?_, fun hl hm => ?_⟩ <;>
    rw [if_neg (mt hroom.1 (by omega)), hm]
  · rfl
  · rfl

/-- What a RECEIVE comes to, by the FULL slots and the mode (R72, R74). -/
theorem exec_receive (h : s.MayReceive cx n b) :
    (∀ m rest, (s.chan n).slots = m :: rest → exec (.receive cx) s =
      .next ((((s.granted .cu cx).modChan n fun c => { c with slots := rest }).deliver cx m).refill n b)) ∧
      ((s.chan n).slots = [] → (s.ctx cx).command.mode = .nowait → exec (.receive cx) s =
        .next ((s.granted .cu cx).complete cx { code := .empty, value := (s.chan n).counter.setWidth 32 })) ∧
      ((s.chan n).slots = [] → (s.ctx cx).command.mode = .wait →
        exec (.receive cx) s = .next ((s.granted .cu cx).parkAtChannel n cx Channel.withReceiver)) := by
  have hsel : (s.ctx cx).command.selectorValid = true := decide_eq_true h.selector
  have e := fun k => State.onChannel_opens (s := s.granted .cu cx) (by simpa using h.binding)
    (role := Binding.receives) (decide_eq_true h.receives) (by simpa using h.key) k
  simp only [exec, execReceive, State.take_of_takes h.takes, Command.owner, State.granted_ctx,
    Context.countGrant_command, hsel, CommandRecord.chanNum_eq h.target, if_true, State.onTarget_some, e,
    State.granted_chan]
  refine ⟨fun m rest hq => ?_, fun hq hm => ?_, fun hq hm => ?_⟩
  · rw [hq]
  · rw [hq, hm]
  · rw [hq, hm]
    rfl

/-- A request that parks changes its context and its channel. -/
theorem State.parkAtChannel_changes (s : State) (n : ChanNum) (cx : CtxNum) (join : WaitEntry → Channel → Channel) :
    let t := s.parkAtChannel n cx join
    s.keepsBut t [.channels] ∧ (∀ c, c ≠ cx → t.ctx c = s.ctx c) ∧ t.ctx cx = { s.ctx cx with state := .waiting .cu } ∧
      s.keepsChannelsBut t n ∧ t.chan n = join ⟨cx, (s.ctx cx).command.timeout⟩ (s.chan n) :=
  ⟨(State.keepsBut_modChan n _).trans (State.keepsBut_modCtx cx _ _), fun _ hc => State.modCtx_ctx_ne _ _ _ hc,
    State.modCtx_ctx_self _ _ _, fun _ hk => State.modChan_chan_ne _ _ _ hk, State.modChan_chan_self _ _ _⟩

/-- A request that CU has taken and that parks (R70, R74). -/
theorem State.parkAtChannel_granted (s : State) (n : ChanNum) (cx : CtxNum) (join : WaitEntry → Channel → Channel) :
    let t := (s.granted .cu cx).parkAtChannel n cx join
    s.served t .cu cx [.channels] [] ∧ s.keepsChannelsBut t n ∧
      (t.ctx cx).seen = { (s.ctx cx).seen with state := .waiting .cu } ∧
      t.chan n = join ⟨cx, (s.ctx cx).command.timeout⟩ (s.chan n) := by
  obtain ⟨hkeeps, hothers, hctx, hchans, hchan⟩ := State.parkAtChannel_changes (s.granted .cu cx) n cx join
  refine ⟨State.served_of_granted (by simp) hkeeps fun c hc => hothers c (by simpa using hc), fun k hk => ?_, ?_, ?_⟩
  · rw [hchans k hk, State.granted_chan]
  · rw [hctx, State.granted_ctx, ← (s.ctx cx).countGrant_seen .cu]
    rfl
  · rw [hchan, State.granted_chan, State.granted_ctx, Context.countGrant_command]

end SendAndReceive

/-- Settles O34: the answers FULL and EMPTY, and the two ways to park. -/
theorem channelNotReady : Obligations.ChannelNotReady := by
  intro s cx n b hs hn hsel hb hkey c entry
  refine ⟨fun ht hcounts hsends hfull => ?_, fun ht hreceives hempty => ?_⟩
  · obtain ⟨-, nowait, wait⟩ := exec_send ⟨ht, hn, hcounts, hsel, hb, hsends, hkey⟩
    exact ⟨fun hm => ⟨_, nowait hfull hm, State.complete_granted hs .cu cx _⟩,
      fun hm => ⟨_, wait hfull hm, State.parkAtChannel_granted s n cx _⟩⟩
  · obtain ⟨-, nowait, wait⟩ := exec_receive ⟨ht, hn, hsel, hb, hreceives, hkey⟩
    exact ⟨fun hm => ⟨_, nowait hempty hm, State.complete_granted hs .cu cx _⟩,
      fun hm => ⟨_, wait hempty hm, State.parkAtChannel_granted s n cx _⟩⟩

end Sys2Proof.Machine

namespace Sys2Proof.Machine

/-! ### Messages that move (R66 to R73, R75) -/

section Messages
variable {s t : State} {cx : CtxNum} {n : ChanNum} {b : Binding} {c : Channel} {ms : Port → List CuMessage}
  {es : List Ending} {e : WaitEntry} {rest : List WaitEntry}

/-- R5, R65: a context whose request a unit takes is in none of the channel's queues. -/
theorem State.not_waiter_of_takes {x : Command} (ht : s.takes x cx) (hsound : s.channelSound n) :
    cx ∉ ((s.chan n).senders ++ (s.chan n).receivers).map WaitEntry.ctx := by
  obtain ⟨-, hpending, -⟩ := ht
  obtain ⟨-, hwaits, -⟩ := hsound
  intro h
  obtain ⟨e, he, rfl⟩ := List.mem_map.1 h
  exact nomatch hpending.symm.trans (hwaits e he)

/-- With no receiver waiting the message is kept, and DATA is sent to the receiver port (R68, R75). -/
theorem State.actsOn_acceptSend_of_nil (hs : s.settled) (h : (s.chan n).receivers = []) :
    s.ActsOn (s.acceptSend n b cx) n ((s.chan n).accepted (s.offers cx (s.chan n).counter))
      (fun q => if q = b.receiver then [⟨n, .data, true⟩] else [])
      [⟨cx, sendAnswer (s.offers cx (s.chan n).counter), []⟩] := by
  simp only [State.acceptSend, h, State.messageOf_eq]
  exact (((s.actsOn_refl n).modChan _).sendCu _ _).complete hs (by simp) _

/-- The head waiting receiver is handed the message (R69). -/
theorem State.actsOn_acceptSend_of_cons (hs : s.settled) (h : (s.chan n).receivers = e :: rest) (hne : cx ≠ e.ctx) :
    let m := s.offers cx (s.chan n).counter
    s.ActsOn (s.acceptSend n b cx) n { s.chan n with counter := m.seq, receivers := rest } (fun _ => [])
      [⟨cx, sendAnswer m, []⟩, ⟨e.ctx, receiveAnswer m, m.words⟩] := by
  simp only [State.acceptSend, h, State.messageOf_eq]
  exact (((s.actsOn_refl n).modChan _).deliver hs (by simp) _).complete hs (by simpa using hne) _

/-- With no sender waiting SPACE is sent to the sender ports (R73, R75). -/
theorem State.ActsOn.refill_of_nil (h : s.ActsOn t n c ms es) (hq : c.senders = []) :
    s.ActsOn (t.refill n b) n c (fun q => ms q ++ if b.senders.getLsbD q.val then [⟨n, .space, true⟩] else []) es := by
  simp only [State.refill, h.chan, hq]
  exact h.sendCuAll _ _

/-- The head waiting sender's message fills the freed slot (R73). -/
theorem State.ActsOn.refill_of_cons (h : s.ActsOn t n c ms es) (hs : s.settled) (hq : c.senders = e :: rest)
    (he : e.ctx ∉ es.map Ending.ctx) :
    let sent := s.offers e.ctx c.counter
    s.ActsOn (t.refill n b) n { c.accepted sent with senders := rest }
      (fun q => ms q ++ if q = b.receiver then [⟨n, .data, true⟩] else []) (⟨e.ctx, sendAnswer sent, []⟩ :: es) := by
  simp only [State.refill, h.chan, hq, State.messageOf_eq, State.offers_congr (h.contexts e.ctx he)]
  exact ((h.modChan fun c => { c.accepted _ with senders := rest }).sendCu _ _).complete hs he _

end Messages

/-- Settles O33: the message kept in its slot, then the message handed over. -/
theorem sendIsAccepted : Obligations.SendIsAccepted := by
  intro s cx n b hs hsound ht hn hcounts hsel hb hsends hkey hroom c m answer
  have hnot := State.not_waiter_of_takes ht hsound
  have hg := (s.granted_settled .cu cx).2 hs
  have hlength : m.words.length = (s.ctx cx).command.count.toNat := State.offers_length hcounts _
  have hanswer : sendAnswer m = answer := by rw [sendAnswer, hlength]; rfl
  obtain ⟨e, -⟩ := exec_send ⟨ht, hn, hcounts, hsel, hb, hsends, hkey⟩
  refine ⟨fun hq => ?_, fun r rest hq => ?_⟩
  · have acts := State.actsOn_acceptSend_of_nil (cx := cx) (b := b) hg (by rwa [State.granted_chan])
    simp only [State.granted_chan, State.granted_offers] at acts
    refine ⟨_, e hroom, acts.served (by simp), acts.keepsChannelsBut, acts.chan,
      acts.keepsMessagesBut fun q hne => if_neg hne, ?_, ?_⟩
    · rw [acts.sent, if_pos rfl]
    · exact hanswer ▸ acts.ended List.mem_cons_self
  · have hne : cx ≠ r.ctx := fun e => hnot (by rw [e, show (s.chan n).receivers = r :: rest from hq]; simp)
    have acts := State.actsOn_acceptSend_of_cons (b := b) hg (by rwa [State.granted_chan]) hne
    simp only [State.granted_chan, State.granted_offers] at acts
    refine ⟨_, _, e hroom, acts.served_silent (by simp), acts.keepsChannelsBut, acts.chan,
      acts.ended (List.mem_cons_of_mem _ List.mem_cons_self), ?_, ?_⟩
    · obtain ⟨-, hmax⟩ := hcounts
      exact packsReceipt_receiveAux (hlength ▸ hmax)
    · exact hanswer ▸ acts.ended List.mem_cons_self

/-- Settles O35: the oldest message delivered, and the slot that it leaves announced or filled again. -/
theorem receiveDeliversTheOldest : Obligations.ReceiveDeliversTheOldest := by
  intro s cx n b m rest hs hsound ht hn hsel hb hreceives hkey hslots c
  have hnot := State.not_waiter_of_takes ht hsound
  have hg := (s.granted_settled .cu cx).2 hs
  obtain ⟨hconsistent, -, -⟩ := hsound
  have hpacks : packsReceipt (receiveAux m) m :=
    packsReceipt_receiveAux (((Channel.sound_iff _).1 hconsistent).words m (by simp [hslots]))
  obtain ⟨e, -⟩ := exec_receive ⟨ht, hn, hsel, hb, hreceives, hkey⟩
  have delivered := (((s.granted .cu cx).actsOn_refl n).modChan fun c => { c with slots := rest }).deliver hg (cx := cx)
    (by simp) m
  simp only [State.granted_chan] at delivered
  refine ⟨fun hq => ?_, fun w ws hq => ?_⟩
  · have acts := delivered.refill_of_nil (b := b) hq
    exact ⟨_, _, e m rest hslots, acts.served (by simp), acts.keepsChannelsBut, acts.chan, acts.sent,
      acts.ended List.mem_cons_self, hpacks⟩
  · have hne : w.ctx ≠ cx := fun e => hnot (by rw [← e, show (s.chan n).senders = w :: ws from hq]; simp)
    have acts := delivered.refill_of_cons (b := b) hg hq (by simpa using hne)
    simp only [State.granted_offers] at acts
    refine ⟨_, _, e m rest hslots, acts.served (by simp), acts.keepsChannelsBut, acts.chan,
      acts.keepsMessagesBut fun q hne => ?_, ?_, acts.ended List.mem_cons_self,
      acts.ended (List.mem_cons_of_mem _ List.mem_cons_self), hpacks⟩
    · simp [hne]
    · rw [acts.sent, if_pos rfl]
      rfl

end Sys2Proof.Machine

namespace Sys2Proof.Machine

/-! ### BIND and UNBIND (R80 to R82) -/

section Bindings
variable {s : State} {cx : CtxNum} {n : ChanNum} {b : Binding}

/-- What a BIND CHANNEL of a valid sender set comes to (R80). -/
theorem exec_bindChannel (ht : s.takes .bindChannel cx) (hm : portOf cx = s.managerPort)
    (hn : (s.ctx cx).command.object.toNat = n.val) (hb : bindingField (s.ctx cx).command.operand = b)
    (hvalid : b.valid = true) :
    ((s.chan n).binding = none → exec (.bindChannel cx) s =
      .next ((((s.granted .cu cx).modChan n fun _ => ⟨some b, 0, [], [], []⟩).sendCuAll b.senders
        ⟨n, .space, true⟩).complete cx { code := .ok })) ∧
      ((s.chan n).binding ≠ none → exec (.bindChannel cx) s = (s.granted .cu cx).failed cx .inUse) := by
  simp only [exec, execBindChannel, State.take_of_takes ht, Command.owner, State.granted_ctx,
    Context.countGrant_command, State.asManager_of_manager (s := s.granted .cu cx) (by simpa using hm), hb, hvalid,
    if_true, CommandRecord.chanNum_eq hn, State.onTarget_some, State.granted_chan]
  cases (s.chan n).binding <;> simp

theorem Channel.quiet_iff (c : Channel) : c.quiet = true ↔ c.slots = [] ∧ c.senders = [] ∧ c.receivers = [] := by
  simp [Channel.quiet, and_assoc]

/-- What an UNBIND CHANNEL comes to (R81, R82). -/
theorem exec_unbindChannel (ht : s.takes .unbindChannel cx) (hm : portOf cx = s.managerPort)
    (hn : (s.ctx cx).command.object.toNat = n.val) :
    let g := s.granted .cu cx
    let c := s.chan n
    (c.binding = none → exec (.unbindChannel cx) s = g.failed cx .missing) ∧
      ∀ b, c.binding = some b →
        (c.quiet = true → exec (.unbindChannel cx) s =
          .next ((g.modChan n Channel.unbound).complete cx { code := .ok })) ∧
        (c.quiet = false → (s.ctx cx).command.operand.getLsbD 0 = true → exec (.unbindChannel cx) s =
          .next ((g.forceUnbind n b).complete cx { code := .ok, aux := BitVec.ofNat 16 c.slots.length })) ∧
        (c.quiet = false → (s.ctx cx).command.operand.getLsbD 0 = false → exec (.unbindChannel cx) s =
          .next (g.complete cx { code := .inUse, value := BitVec.ofNat 32 c.slots.length,
                                 aux := BitVec.ofNat 16 (c.senders.length + c.receivers.length) })) := by
  simp only [exec, execUnbindChannel, State.take_of_takes ht, Command.owner, State.granted_ctx,
    Context.countGrant_command, State.asManager_of_manager (s := s.granted .cu cx) (by simpa using hm),
    CommandRecord.chanNum_eq hn, State.onTarget_some, State.granted_chan, forceField]
  refine ⟨fun hb => ?_, fun b hb => ⟨fun hq => ?_, fun hq hf => ?_, fun hq hf => ?_⟩⟩
  · simp only [hb]
  · simp only [hb, hq, if_true]
  · simp only [hb, hq, hf, if_true, Bool.false_eq_true, if_false, auxOf]
  · simp only [hb, hq, hf, Bool.false_eq_true, if_false, auxOf]

/-- A forced unbind: every waiter cancelled, the clearings sent (R82). -/
theorem State.actsOn_forceUnbind (hs : s.settled)
    (hn : (((s.chan n).senders ++ (s.chan n).receivers).map WaitEntry.ctx).Nodup) :
    s.ActsOn (s.forceUnbind n b) n (s.chan n).unbound
      (fun q => (if q = b.receiver then [⟨n, .data, false⟩] else []) ++
        if b.senders.getLsbD q.val then [⟨n, .space, false⟩] else [])
      (((s.chan n).senders ++ (s.chan n).receivers).map WaitEntry.cancelled).reverse := by
  have cancelled := ((s.actsOn_refl n).modChan Channel.unbound).cancelEntries hs hn (by simp)
  rw [List.append_nil] at cancelled
  exact (cancelled.sendCu _ _).sendCuAll _ _

end Bindings

/-- Settles O37: BIND CHANNEL of an unbound and of a bound channel, then the answers of UNBIND CHANNEL without force. -/
theorem bindAndUnbind : Obligations.BindAndUnbind := by
  intro s cx n hs hm hn c op new quiet
  have hg := (s.granted_settled .cu cx).2 hs
  have valid (h : new.senders ≠ 0) (h' : new.senders.getLsbD new.receiver.val = false) : new.valid = true := by
    rw [Binding.valid, decide_eq_true h, h']
    rfl
  refine ⟨fun ht hsenders hreceiver hb => ?_, fun b ht hsenders hreceiver hb => ?_, fun ht hb => ?_,
    fun b ht hb hq => ?_, fun b ht hb hq hf => ?_⟩
  · obtain ⟨e, -⟩ := exec_bindChannel ht hm hn rfl (valid hsenders hreceiver)
    have acts := ((((s.granted .cu cx).actsOn_refl n).modChan fun _ => ⟨some new, 0, [], [], []⟩).sendCuAll new.senders
      ⟨n, .space, true⟩).complete hg (cx := cx) (by simp) { code := .ok }
    exact ⟨_, e hb, acts.served (by simp), acts.keepsChannelsBut, acts.chan, acts.sent, acts.ended List.mem_cons_self⟩
  · obtain ⟨-, e⟩ := exec_bindChannel ht hm hn rfl (valid hsenders hreceiver)
    rw [e (by rw [show (s.chan n).binding = some b from hb]; nofun)]
    exact State.failed_granted hs _ _ _
  · obtain ⟨e, -⟩ := exec_unbindChannel ht hm hn
    rw [e hb]
    exact State.failed_granted hs _ _ _
  · obtain ⟨-, e⟩ := exec_unbindChannel ht hm hn
    obtain ⟨e, -⟩ := e b hb
    have acts := (((s.granted .cu cx).actsOn_refl n).modChan Channel.unbound).complete hg (cx := cx) (by simp)
      { code := .ok }
    simp only [State.granted_chan] at acts
    exact ⟨_, e ((Channel.quiet_iff c).2 hq), acts.served_silent (by simp), acts.keepsChannelsBut, acts.chan,
      acts.ended List.mem_cons_self⟩
  · obtain ⟨-, e⟩ := exec_unbindChannel ht hm hn
    obtain ⟨-, -, e⟩ := e b hb
    exact ⟨_, e (Bool.eq_false_iff.2 (mt (Channel.quiet_iff c).1 hq)) hf, State.complete_granted hs .cu cx _⟩

/-- Settles O38: the waiters cancelled, the clearings sent, and the request's own end. -/
theorem forcedUnbind : Obligations.ForcedUnbind := by
  intro s cx n b hs hsound hm ht hn hb hq hf c waiters
  have hnot : cx ∉ waiters := State.not_waiter_of_takes ht hsound
  obtain ⟨-, -, hnodup⟩ := hsound
  have hg := (s.granted_settled .cu cx).2 hs
  obtain ⟨-, e⟩ := exec_unbindChannel ht hm hn
  obtain ⟨-, e, -⟩ := e b hb
  have acts := State.actsOn_forceUnbind (b := b) hg (by rwa [State.granted_chan])
  simp only [State.granted_chan] at acts
  have ctxs : (((c.senders ++ c.receivers).map WaitEntry.cancelled).reverse.map Ending.ctx) = waiters.reverse := by
    rw [List.map_reverse, List.map_map]
    rfl
  have acts := acts.complete hg (cx := cx) (by rwa [ctxs, List.mem_reverse])
    { code := .ok, aux := BitVec.ofNat 16 c.slots.length }
  refine ⟨_, e (Bool.eq_false_iff.2 (mt (Channel.quiet_iff c).1 hq)) hf, acts.served fun x hx => ?_,
    acts.keepsChannelsBut, acts.chan, fun w hw => ?_, fun p => ?_, acts.ended List.mem_cons_self⟩
  · rw [List.map_cons, ctxs] at hx
    simpa using hx
  · obtain ⟨e, he, rfl⟩ := List.mem_map.1 hw
    exact acts.ended (List.mem_cons_of_mem _ (List.mem_reverse.2 (List.mem_map_of_mem he)))
  · rw [acts.sent, List.append_assoc]

end Sys2Proof.Machine

namespace Sys2Proof.Machine

/-! ## Withdrawal notices at CU and SU (R84, R128) -/

section Withdrawals
variable {s t : State} {p : Port}

/-- Contexts that end with CANCELLED, and the others as they were. -/
theorem State.cancels_of_ctx {ts : List CtxState} (h : ∀ c, t.ctx c =
    if portOf c = p ∧ (s.ctx c).state ∈ ts then (s.ctx c).completed { code := .cancelled } else s.ctx c) :
    s.cancels t p ts := by
  refine fun c => ⟨fun hc => ?_, fun hc => ?_⟩
  · rw [State.ends, h, if_pos hc]
    exact Context.ended_completed _ _
  · rw [h, if_neg hc]

/-- The channels without the entries of port `p` (R84). -/
def Channel.withoutPort (p : Port) (c : Channel) : Channel :=
  { c with senders := leaveEntriesOfPort p c.senders, receivers := leaveEntriesOfPort p c.receivers }

theorem State.cuWithdraw_eq (s : State) (p : Port) : s.cuWithdraw p =
    (((s.cancelAll p (.pending .cu)).mapChans (Channel.withoutPort p)).cancelAll p (.waiting .cu)).modLink p
      fun k => { k with cuAck := true } := rfl

theorem State.suWithdraw_eq (s : State) (p : Port) : s.suWithdraw p =
    (s.cancelAll p (.pending .su)).modLink p fun k => { k with suAck := true } := rfl

theorem State.keepsBut_cuWithdraw (hs : s.settled) (p : Port) : s.keepsBut (s.cuWithdraw p) [.messages, .channels] := by
  have hs' := (State.mapChans_settled _ (Channel.withoutPort p)).2 (State.settled_cancelAll hs p (.pending .cu))
  rw [State.cuWithdraw_eq]
  exact (State.keepsBut_cancelAll hs p _ _).trans (((State.keepsBut_mapChans _).mono (by simp)).trans
    ((State.keepsBut_cancelAll hs' p _ _).trans ((State.keepsBut_modLink _ _).mono (by simp))))

theorem State.keepsBut_suWithdraw (hs : s.settled) (p : Port) : s.keepsBut (s.suWithdraw p) [.messages] :=
  (State.keepsBut_cancelAll hs p _ _).trans (State.keepsBut_modLink _ _)

/-- The contexts after CU's part: those that it has cancelled are no longer PENDING or WAITING. -/
theorem State.cuWithdraw_ctx (hs : s.settled) (p : Port) (c : CtxNum) : (s.cuWithdraw p).ctx c =
    if portOf c = p ∧ (s.ctx c).state ∈ [.pending .cu, .waiting .cu] then (s.ctx c).completed { code := .cancelled }
    else s.ctx c := by
  have hs' := (State.mapChans_settled _ (Channel.withoutPort p)).2 (State.settled_cancelAll hs p (.pending .cu))
  rw [State.cuWithdraw_eq, State.modLink_ctx, State.ctx_cancelAll hs' p (t := .waiting .cu) nofun, State.mapChans_ctx,
    State.ctx_cancelAll hs p (t := .pending .cu) nofun]
  by_cases hp : portOf c = p
  · by_cases hst : (s.ctx c).state = .pending .cu
    · simp [hp, hst, Context.completed]
    · simp [hp, hst]
  · simp [hp]

theorem State.suWithdraw_ctx (hs : s.settled) (p : Port) (c : CtxNum) : (s.suWithdraw p).ctx c =
    if portOf c = p ∧ (s.ctx c).state ∈ [.pending .su] then (s.ctx c).completed { code := .cancelled }
    else s.ctx c := by
  rw [State.suWithdraw_eq, State.modLink_ctx, State.ctx_cancelAll hs p (t := .pending .su) nofun]
  simp

theorem State.cuWithdraw_chan (s : State) (p : Port) (n : ChanNum) :
    (s.cuWithdraw p).chan n = (s.chan n).withoutPort p := by
  rw [State.cuWithdraw_eq, State.modLink_chan, State.cancelAll_chan, State.mapChans_chan, State.cancelAll_chan]

theorem State.cuWithdraw_link (s : State) (p q : Port) :
    (s.cuWithdraw p).link q = if q = p then { s.link p with cuAck := true } else s.link q := by
  simp [State.cuWithdraw_eq, State.modLink_link]

theorem State.suWithdraw_link (s : State) (p q : Port) :
    (s.suWithdraw p).link q = if q = p then { s.link p with suAck := true } else s.link q := by
  simp [State.suWithdraw_eq, State.modLink_link]

end Withdrawals

/-- Settles O46: CU's part, then SU's, each after its notice has left it. -/
theorem cuAndSuWithdrawalNotice : Obligations.CuAndSuWithdrawalNotice := by
  refine ⟨fun s p hs ht => ?_, fun s p hs ht => ?_⟩
  · have e : exec (.cuWithdrawalNotice p .take) s = .next ((s.dropNotice p .cu).cuWithdraw p) := by
      simp only [exec, execCuWithdrawalNotice]
      exact State.withdrawalNotice_taken ht _
    have hs' : (s.dropNotice p .cu).settled := hs
    refine ⟨_, e, ((State.keepsBut_modLink _ _).mono (by simp)).trans (State.keepsBut_cuWithdraw hs' p),
      State.cancels_of_ctx (State.cuWithdraw_ctx hs' p), State.cuWithdraw_chan _ p, fun q hq => ?_, ?_⟩
    · rw [State.cuWithdraw_link, if_neg hq]
      exact State.modLink_link_ne _ _ _ hq
    · rw [State.cuWithdraw_link, if_pos rfl, State.dropNotice, State.modLink_link_self]
  · have e : exec (.suWithdrawalNotice p .take) s = .next ((s.dropNotice p .su).suWithdraw p) := by
      simp only [exec, execSuWithdrawalNotice]
      exact State.withdrawalNotice_taken ht _
    have hs' : (s.dropNotice p .su).settled := hs
    refine ⟨_, e, (State.keepsBut_modLink _ _).trans (State.keepsBut_suWithdraw hs' p),
      State.cancels_of_ctx (State.suWithdraw_ctx hs' p), fun q hq => ?_, ?_⟩
    · rw [State.suWithdraw_link, if_neg hq]
      exact State.modLink_link_ne _ _ _ hq
    · rw [State.suWithdraw_link, if_pos rfl, State.dropNotice, State.modLink_link_self]

end Sys2Proof.Machine

namespace Sys2Proof.Machine

/-! ## Memory, segments and fills after every command (R86, R87, R96)

`State.KeepsMu`: what MU holds stays sound. Only MU writes the memory and the segments and begins or advances a fill; every
other command leaves them, or ends requests. -/

/-- The memory, each segment entry and each fill of `t` is sound if it was so in `s`; and the queue of commands is the
same. -/
structure State.KeepsMu (s t : State) : Prop where
  pending : t.pending = s.pending
  memory : s.memoryCanonical → t.memoryCanonical
  segments : s.segmentsInMemory → t.segmentsInMemory
  fills : ∀ cx, (s.ctx cx).state.fillValid = true → (t.ctx cx).state.fillValid = true

/-- `o` is a next state, and what MU holds has stayed sound, where the segments and fills lie inside the memory. -/
def State.Answers (s : State) (o : Out) : Prop :=
  s.segmentsInMemory → s.fillsInMemory → ∃ t, o = .next t ∧ s.KeepsMu t

/-! ### Updates -/

section Updates
variable {s t u : State}

theorem State.KeepsMu.trans (h : s.KeepsMu t) (h' : t.KeepsMu u) : s.KeepsMu u where
  pending := h'.pending.trans h.pending
  memory := h'.memory ∘ h.memory
  segments := h'.segments ∘ h.segments
  fills cx := h'.fills cx ∘ h.fills cx

/-- What leaves the memory and the segments, and each fill. -/
theorem State.KeepsMu.of_fills (hm : t.memory = s.memory) (hg : t.segments = s.segments) (hp : t.pending = s.pending)
    (hf : ∀ cx, (s.ctx cx).state.fillValid = true → (t.ctx cx).state.fillValid = true) : s.KeepsMu t where
  pending := hp
  memory h := by rwa [State.memoryCanonical, hm]
  segments h n := by
    rw [State.seg, hg]
    exact h n
  fills := hf

/-- What leaves the contexts as well. -/
theorem State.KeepsMu.of_eq (hc : t.contexts = s.contexts) (hm : t.memory = s.memory) (hg : t.segments = s.segments)
    (hp : t.pending = s.pending) : s.KeepsMu t :=
  .of_fills hm hg hp fun cx h => by rwa [State.ctx_of_contexts hc]

theorem State.KeepsMu.refl (s : State) : s.KeepsMu s := .of_eq rfl rfl rfl rfl

theorem State.keepsMu_foldl {α : Type} (f : State → α → State) (h : ∀ (s : State) a, s.KeepsMu (f s a)) (l : List α)
    (s : State) : s.KeepsMu (l.foldl f s) := by
  induction l generalizing s with
  | nil => exact .refl s
  | cons a l ih => exact (h s a).trans (ih _)

theorem State.keepsMu_mapCtxs {f : CtxNum → Context → Context}
    (h : ∀ cx, (s.ctx cx).state.fillValid = true → (f cx (s.ctx cx)).state.fillValid = true) : s.KeepsMu (s.mapCtxs f) :=
  .of_fills (s.mapCtxs_memory f) (s.mapCtxs_segments f) (s.mapCtxs_pending f) fun cx => by
    rw [State.mapCtxs_ctx]
    exact h cx

theorem State.keepsMu_modCtx {cx : CtxNum} {f : Context → Context}
    (h : (s.ctx cx).state.fillValid = true → (f (s.ctx cx)).state.fillValid = true) : s.KeepsMu (s.modCtx cx f) :=
  .of_fills rfl rfl rfl fun c hc => by
    rw [State.modCtx_ctx]
    split
    · next e => exact h (e ▸ hc)
    · exact hc

theorem State.keepsMu_setMemory {m : Memory} (h : s.memory.wf = true → m.wf = true) : s.KeepsMu (s.setMemory m) :=
  ⟨rfl, h, id, fun _ => id⟩

theorem State.keepsMu_setSeg (n : SegNum) {e : Option Segment} (h : e.all Segment.valid = true) :
    s.KeepsMu (s.setSeg n e) where
  pending := rfl
  memory := id
  segments hs k := by
    rw [State.setSeg_seg]
    split
    · exact h
    · exact hs k
  fills _ := id

theorem State.keepsMu_modPort (s : State) (p : Port) (f : PortInterface → PortInterface) : s.KeepsMu (s.modPort p f) :=
  .of_eq rfl rfl rfl rfl
theorem State.keepsMu_modLink (s : State) (p : Port) (f : Links → Links) : s.KeepsMu (s.modLink p f) :=
  .of_eq rfl rfl rfl rfl
theorem State.keepsMu_modLock (s : State) (l : LockNum) (f : Lock → Lock) : s.KeepsMu (s.modLock l f) :=
  .of_eq rfl rfl rfl rfl
theorem State.keepsMu_modChan (s : State) (n : ChanNum) (f : Channel → Channel) : s.KeepsMu (s.modChan n f) :=
  .of_eq rfl rfl rfl rfl
theorem State.keepsMu_mapLocks (s : State) (f : Lock → Lock) : s.KeepsMu (s.mapLocks f) :=
  .of_eq (s.mapLocks_contexts f) (s.mapLocks_memory f) (s.mapLocks_segments f) (s.mapLocks_pending f)
theorem State.keepsMu_mapChans (s : State) (f : Channel → Channel) : s.KeepsMu (s.mapChans f) :=
  .of_eq (s.mapChans_contexts f) (s.mapChans_memory f) (s.mapChans_segments f) (s.mapChans_pending f)
theorem State.keepsMu_setLuTicks (s : State) (ts : List LuTick) : s.KeepsMu (s.setLuTicks ts) := .of_eq rfl rfl rfl rfl
theorem State.keepsMu_setCuTicks (s : State) (k : Nat) (o : Bool) : s.KeepsMu (s.setCuTicks k o) :=
  .of_eq rfl rfl rfl rfl
theorem State.keepsMu_setForcing (s : State) (x : Option CtxNum) : s.KeepsMu (s.setForcing x) := .of_eq rfl rfl rfl rfl
theorem State.keepsMu_setKeyPair (s : State) (p : Port) (k : KeyPair) : s.KeepsMu (s.setKeyPair p k) :=
  .of_eq rfl rfl rfl rfl
theorem State.keepsMu_setTickGenerator (s : State) (e : Bool) (c : PeriodCode) : s.KeepsMu (s.setTickGenerator e c) :=
  .of_eq rfl rfl rfl rfl
theorem State.keepsMu_sendLu (s : State) (p : Port) (m : LuMessage) : s.KeepsMu (s.sendLu p m) := s.keepsMu_modLink p _
theorem State.keepsMu_sendCu (s : State) (p : Port) (m : CuMessage) : s.KeepsMu (s.sendCu p m) := s.keepsMu_modLink p _

theorem State.keepsMu_sendCuAll (s : State) (b : BitVec 4) (m : CuMessage) : s.KeepsMu (s.sendCuAll b m) :=
  .of_eq (s.sendCuAll_contexts b m) (s.sendCuAll_memory b m) (s.sendCuAll_segments b m) (s.sendCuAll_pending b m)

theorem State.keepsMu_muSettle (s : State) (p : Port) : s.KeepsMu (s.muSettle p) :=
  .of_eq (s.muSettle_contexts p) (s.muSettle_memory p) (s.muSettle_segments p) (s.muSettle_pending p)

theorem State.keepsMu_granted (s : State) (u : UnitId) (cx : CtxNum) : s.KeepsMu (s.granted u cx) :=
  .of_fills (s.granted_memory u cx) (s.granted_segments u cx) (s.granted_pending u cx) fun c h => by
    rwa [State.granted_ctx, Context.countGrant_state]

theorem State.keepsMu_modPortCtxs {p : Port} {f : Context → Context}
    (h : ∀ c : Context, c.state.fillValid = true → (f c).state.fillValid = true) : s.KeepsMu (s.modPortCtxs p f) :=
  State.keepsMu_mapCtxs fun cx => by
    split
    · exact h _
    · exact id

/-- A chip reset leaves the memory to the clear that follows it (R130). -/
theorem State.keepsMu_of_blocksAtReset (h : t.blocksAtReset) (hm : t.memory = s.memory) (hp : t.pending = s.pending) :
    s.KeepsMu t := by
  obtain ⟨hctx, _, _, _, _, _, _, _, _, _, hseg, _⟩ := h
  exact ⟨hp, fun h => by rwa [State.memoryCanonical, hm], fun _ n => by rw [hseg]; rfl, fun cx _ => by rw [(hctx cx).1]; rfl⟩

/-! ### Completions -/

theorem State.keepsMu_portResetClearing (s : State) (p : Port) : s.KeepsMu (s.portResetClearing p) :=
  (State.keepsMu_modPortCtxs fun _ _ => rfl).trans (State.keepsMu_modPort _ _ _)

theorem State.keepsMu_completeWithdrawal (s : State) (p : Port) (mark : Bool) : s.KeepsMu (s.completeWithdrawal p mark) := by
  have released : s.KeepsMu ((s.modPortCtxs p Context.released).modPort p PortInterface.withdrawn) :=
    (State.keepsMu_modPortCtxs fun _ _ => rfl).trans (State.keepsMu_modPort _ _ _)
  cases mark
  · exact released
  · exact released.trans (State.keepsMu_portResetClearing _ p)

theorem State.keepsMu_testWithdrawal (s : State) (p : Port) : s.KeepsMu (s.testWithdrawal p) := by
  rcases s.testWithdrawal_cases p with e | ⟨_, mark, _, _, _, e⟩ <;> rw [e]
  · exact .refl s
  · exact s.keepsMu_completeWithdrawal p mark

theorem State.keepsMu_complete (s : State) (cx : CtxNum) (r : Answer) : s.KeepsMu (s.complete cx r) :=
  (State.keepsMu_modCtx fun _ => rfl).trans (State.keepsMu_testWithdrawal _ _)

theorem State.keepsMu_cancelAll (s : State) (p : Port) (x : CtxState) : s.KeepsMu (s.cancelAll p x) := by
  refine State.keepsMu_foldl _ (fun s c => ?_) _ _
  split
  · exact s.keepsMu_complete _ _
  · exact .refl s

theorem State.keepsMu_timeOutAll (s : State) (cs : List CtxNum) : s.KeepsMu (s.timeOutAll cs) :=
  State.keepsMu_foldl _ (fun s cx => s.keepsMu_complete cx _) _ _

theorem State.keepsMu_cancelEntries (s : State) (es : List WaitEntry) : s.KeepsMu (s.cancelEntries es) :=
  State.keepsMu_foldl _ (fun s (e : WaitEntry) => s.keepsMu_complete e.ctx _) _ _

/-! ### Fills (R95 to R98) -/

theorem Fill.valid_iff (f : Fill) : f.valid = true ↔ 1 ≤ f.count ∧ f.count ≤ 4096 ∧ f.start + f.count ≤ 16384 ∧
    f.zeroed < f.count ∧ f.zeroed % 64 = 0 := decide_eq_true_iff

/-- A stop reason is no part of R96. -/
theorem Fill.valid_stoppedBy (f : Fill) (r : StopReason) : (f.stoppedBy r).valid = f.valid := rfl

theorem Context.stopFill_fillValid (which : Fill → Bool) (r : StopReason) (c : Context) :
    (c.stopFill which r).state.fillValid = c.state.fillValid := by
  unfold Context.stopFill
  split
  · next f hf =>
      split
      · rw [hf, Fill.stopped_eq]
        rfl
      · rfl
  · rfl

/-- A burst that is not the last clears 64 words (R96). -/
theorem Fill.valid_burst {f : Fill} (h : f.valid = true)
    (hne : f.zeroed + min Config.burstWords (f.count - f.zeroed) ≠ f.count) :
    ({ f with zeroed := f.zeroed + min Config.burstWords (f.count - f.zeroed) } : Fill).valid = true := by
  rw [Fill.valid_iff] at h ⊢
  have : Config.burstWords = 64 := rfl
  dsimp only
  omega

theorem State.keepsMu_endFill (s : State) (cx : CtxNum) (r : Answer) : s.KeepsMu (s.endFill cx r) :=
  (s.keepsMu_complete cx r).trans (State.keepsMu_muSettle _ _)

theorem State.keepsMu_fillStep {cx : CtxNum} {f : Fill} (h : (s.ctx cx).state = .active f) :
    s.KeepsMu (s.fillStep cx f) := by
  unfold State.fillStep
  split
  · exact s.keepsMu_endFill _ _
  · have cleared (n : Nat) : s.KeepsMu (s.setMemory (s.memory.clearRun (f.start + f.zeroed) n)) :=
      State.keepsMu_setMemory Memory.clearRun_wfFrom
    dsimp only
    split
    · exact (cleared _).trans (State.keepsMu_endFill _ _ _)
    · next hne =>
        refine (cleared _).trans (State.keepsMu_modCtx fun hf => ?_)
        rw [State.setMemory_ctx, h] at hf
        exact Fill.valid_burst hf hne

theorem State.keepsMu_changeSegment (s : State) (n : SegNum) {e : Option Segment} (h : e.all Segment.valid = true) :
    s.KeepsMu (s.changeSegment n e) :=
  (State.keepsMu_setSeg n h).trans (State.keepsMu_mapCtxs fun _ hf => by rwa [Context.stopFill_fillValid])

/-! ### Locks -/

theorem State.keepsMu_grantLock (s : State) (l : LockNum) (cx : CtxNum) : s.KeepsMu (s.grantLock l cx) :=
  (s.keepsMu_modLock l _).trans (State.keepsMu_complete _ _ _)

theorem State.keepsMu_grantHead (s : State) (l : LockNum) : s.KeepsMu (s.grantHead l) := by
  unfold State.grantHead
  split
  · exact .refl s
  · exact (s.keepsMu_modLock l _).trans (State.keepsMu_grantLock _ _ _)

theorem State.keepsMu_handOff (s : State) (l : LockNum) : s.KeepsMu (s.handOff l) := by
  unfold State.handOff
  split
  · exact s.keepsMu_modLock l _
  · exact s.keepsMu_grantHead l

theorem State.keepsMu_revoke (s : State) (l : LockNum) (cause : RevocationCause) (epoch : BitVec 16) :
    s.KeepsMu (s.revoke l cause epoch) := by
  unfold State.revoke
  split
  · exact .refl s
  · exact ((s.keepsMu_modLock l _).trans (State.keepsMu_sendLu _ _ _)).trans (State.keepsMu_grantHead _ l)

theorem State.keepsMu_revokePort (s : State) (p : Port) : s.KeepsMu (s.revokePort p) := by
  refine State.keepsMu_foldl _ (fun s l => ?_) _ _
  split
  · exact s.keepsMu_revoke _ _ _
  · exact .refl s

theorem State.keepsMu_visitLease (s : State) (epoch : BitVec 16) (l : LockNum) : s.KeepsMu (s.visitLease epoch l) := by
  rcases s.visitLease_cases epoch l with ⟨_, e⟩ | ⟨_, _, e⟩ | ⟨_, e⟩ <;> rw [e]
  · exact .refl s
  · exact s.keepsMu_modLock l _
  · exact (s.keepsMu_modLock l _).trans (State.keepsMu_revoke _ _ _ _)

theorem State.keepsMu_visitLeases (s : State) (epoch : BitVec 16) (lo hi : Nat) : s.KeepsMu (s.visitLeases epoch lo hi) :=
  State.keepsMu_foldl _ (fun s l => s.keepsMu_visitLease epoch l) _ _

theorem State.keepsMu_luTickUpTo (s : State) (t : LuTick) (hi : Nat) : s.KeepsMu (s.luTickUpTo t hi) := by
  unfold State.luTickUpTo
  split
  · exact s.keepsMu_visitLeases _ _ _
  · exact ((s.keepsMu_mapLocks _).trans (State.keepsMu_timeOutAll _ _)).trans (State.keepsMu_visitLeases _ _ _ _)

theorem State.keepsMu_acquireLock (s : State) (l : LockNum) (cx : CtxNum) : s.KeepsMu (s.acquireLock l cx) := by
  unfold State.acquireLock
  dsimp only
  split
  · exact s.keepsMu_grantLock l cx
  · split
    · exact s.keepsMu_complete _ _
    · split
      · exact s.keepsMu_complete _ _
      · rw [State.parkWaiter_eq]
        exact (s.keepsMu_modLock l _).trans (State.keepsMu_modCtx fun _ => rfl)

/-! ### Channels -/

theorem State.keepsMu_deliver (s : State) (cx : CtxNum) (m : Message) : s.KeepsMu (s.deliver cx m) :=
  (State.keepsMu_modCtx id).trans (State.keepsMu_complete _ _ _)

theorem State.keepsMu_parkAtChannel (s : State) (n : ChanNum) (cx : CtxNum) (join : WaitEntry → Channel → Channel) :
    s.KeepsMu (s.parkAtChannel n cx join) := by
  unfold State.parkAtChannel
  exact (s.keepsMu_modChan n _).trans (State.keepsMu_modCtx fun _ => rfl)

theorem State.keepsMu_acceptSend (s : State) (n : ChanNum) (b : Binding) (cx : CtxNum) : s.KeepsMu (s.acceptSend n b cx) := by
  unfold State.acceptSend
  dsimp only
  split
  · exact ((s.keepsMu_modChan n _).trans (State.keepsMu_sendCu _ _ _)).trans (State.keepsMu_complete _ _ _)
  · exact ((s.keepsMu_modChan n _).trans (State.keepsMu_deliver _ _ _)).trans (State.keepsMu_complete _ _ _)

theorem State.keepsMu_refill (s : State) (n : ChanNum) (b : Binding) : s.KeepsMu (s.refill n b) := by
  unfold State.refill
  dsimp only
  split
  · exact s.keepsMu_sendCuAll _ _
  · exact ((s.keepsMu_modChan n _).trans (State.keepsMu_sendCu _ _ _)).trans (State.keepsMu_complete _ _ _)

theorem State.keepsMu_forceUnbind (s : State) (n : ChanNum) (b : Binding) : s.KeepsMu (s.forceUnbind n b) :=
  (((s.keepsMu_modChan n _).trans (State.keepsMu_cancelEntries _ _)).trans (State.keepsMu_sendCu _ _ _)).trans
    (State.keepsMu_sendCuAll _ _ _)

/-! ### Withdrawals -/

theorem State.keepsMu_beginWithdrawal (s : State) (p : Port) (mark : Bool) : s.KeepsMu (s.beginWithdrawal p mark) :=
  (s.keepsMu_modPort p _).trans (State.keepsMu_modLink _ _ _)

theorem State.keepsMu_acknowledged (s : State) (p : Port) (u : UnitId) : s.KeepsMu (s.acknowledged p u) :=
  (s.keepsMu_modPort p _).trans (State.keepsMu_testWithdrawal _ _)

theorem State.keepsMu_muWithdraw (s : State) (p : Port) : s.KeepsMu (s.muWithdraw p) :=
  (((s.keepsMu_cancelAll p _).trans (State.keepsMu_modPortCtxs fun c hf => by rwa [Context.stopFill_fillValid])).trans
    (State.keepsMu_modLink _ _ _)).trans (State.keepsMu_muSettle _ _)

theorem State.keepsMu_luWithdraw (s : State) (p : Port) : s.KeepsMu (s.luWithdraw p) :=
  ((((s.keepsMu_cancelAll p _).trans (State.keepsMu_mapLocks _ _)).trans (State.keepsMu_cancelAll _ p _)).trans
    (State.keepsMu_revokePort _ p)).trans (State.keepsMu_sendLu _ _ _)

theorem State.keepsMu_cuWithdraw (s : State) (p : Port) : s.KeepsMu (s.cuWithdraw p) := by
  rw [State.cuWithdraw_eq]
  exact (((s.keepsMu_cancelAll p _).trans (State.keepsMu_mapChans _ _)).trans (State.keepsMu_cancelAll _ p _)).trans
    (State.keepsMu_modLink _ _ _)

theorem State.keepsMu_suWithdraw (s : State) (p : Port) : s.KeepsMu (s.suWithdraw p) :=
  (s.keepsMu_cancelAll p _).trans (State.keepsMu_modLink _ _ _)

/-! ### The window -/

theorem State.keepsMu_windowRefusal (s : State) (p : Port) (cause : ErrorCause) (a : WindowAddr) :
    s.KeepsMu (s.windowRefusal p cause a) := s.keepsMu_modPort p _

theorem State.keepsMu_clearOverflow (s : State) (p : Port) : s.KeepsMu (s.clearOverflow p) :=
  s.keepsMu_modPort p _
theorem State.keepsMu_clearLeaseLost (s : State) (p : Port) : s.KeepsMu (s.clearLeaseLost p) :=
  s.keepsMu_modPort p _
theorem State.keepsMu_clearWindowError (s : State) (p : Port) : s.KeepsMu (s.clearWindowError p) :=
  s.keepsMu_modPort p _
theorem State.keepsMu_clearData (s : State) (p : Port) (mask : BitVec 16) : s.KeepsMu (s.clearData p mask) :=
  s.keepsMu_modPort p _
theorem State.keepsMu_clearSpace (s : State) (p : Port) (mask : BitVec 16) : s.KeepsMu (s.clearSpace p mask) :=
  s.keepsMu_modPort p _
theorem State.keepsMu_writeEnables (s : State) (p : Port) (k : Fin 3) (w : Word) : s.KeepsMu (s.writeEnables p k w) :=
  s.keepsMu_modPort p _
theorem State.keepsMu_writeIntConfig (s : State) (p : Port) (w : Word) : s.KeepsMu (s.writeIntConfig p w) :=
  s.keepsMu_modPort p _

theorem State.keepsMu_ackStrobe (s : State) (cx : CtxNum) : s.KeepsMu (s.ackStrobe cx) :=
  State.keepsMu_modCtx fun h => by
    unfold Context.acked
    split
    · rfl
    · exact h

theorem Context.started_fillValid (c : Context) : c.started.state.fillValid = true := by
  unfold Context.started
  dsimp only
  split <;> rfl

theorem State.keepsMu_goStrobe (s : State) (cx : CtxNum) : s.KeepsMu (s.goStrobe cx) := by
  have refuse (cause : ErrorCause) (a : WindowAddr) :
      s.KeepsMu ((s.modCtx cx fun c => { c with goRefused := true }).windowRefusal (portOf cx) cause a) :=
    (State.keepsMu_modCtx (cx := cx) id).trans (State.keepsMu_windowRefusal _ _ _ _)
  unfold State.goStrobe
  dsimp only
  split
  · split
    · exact refuse _ _
    · exact State.keepsMu_modCtx fun _ => Context.started_fillValid _
  · exact refuse _ _

theorem State.keepsMu_abortStrobe (s : State) (cx : CtxNum) : s.KeepsMu (s.abortStrobe cx) :=
  State.keepsMu_modCtx fun h => by rwa [Context.abortRequested_state]

theorem State.keepsMu_attachAction (s : State) (p : Port) : s.KeepsMu (s.attachAction p) := by
  unfold State.attachAction
  split
  · exact s.keepsMu_modPort p _
  · exact s.keepsMu_windowRefusal _ _ _
  · exact .refl s
  · exact s.keepsMu_windowRefusal _ _ _

theorem State.keepsMu_detachAction (s : State) (p : Port) : s.KeepsMu (s.detachAction p) := by
  unfold State.detachAction
  split
  · exact s.keepsMu_beginWithdrawal p false
  · exact .refl s

theorem State.keepsMu_portResetAction (s : State) (p : Port) : s.KeepsMu (s.portResetAction p) := by
  unfold State.portResetAction
  split
  · exact s.keepsMu_beginWithdrawal p true
  · exact s.keepsMu_modPort p _
  · exact s.keepsMu_portResetClearing p

theorem State.keepsMu_strobe (s : State) {f : State → State} (h : ∀ s : State, s.KeepsMu (f s)) (b : Bool) :
    s.KeepsMu (strobe b f s) := by
  cases b
  · exact .refl s
  · exact h s

theorem State.keepsMu_lockedWrite (s : State) (p : Port) (c : Fin 4) (a : WindowAddr) {f : Context → Context}
    (hf : ∀ x, (f x).state = x.state) : s.KeepsMu (s.lockedWrite p c a f) := by
  rcases s.lockedWrite_cases p c a f with ⟨_, e⟩ | ⟨_, e⟩ <;> rw [e]
  · exact State.keepsMu_modCtx fun h => by rwa [hf]
  · exact s.keepsMu_windowRefusal _ _ _

theorem State.keepsMu_writeCtxRegister (s : State) (p : Port) (c : Fin 4) (a : WindowAddr) (w : Word) (r : CtxRegister) :
    s.KeepsMu (s.writeCtxRegister p c a w r) := by
  cases r with
  | control =>
    exact ((s.keepsMu_strobe (fun s => s.keepsMu_ackStrobe _) _).trans
      (State.keepsMu_strobe _ (fun s => s.keepsMu_goStrobe _) _)).trans
        (State.keepsMu_strobe _ (fun s => s.keepsMu_abortStrobe _) _)
  | command | target | operand | param | data | dataIndex => exact s.keepsMu_lockedWrite p c a fun _ => rfl
  | state | resultCode | resultValue | resultAux | unimplemented => exact .refl s

theorem State.keepsMu_writeWord (s : State) (p : Port) (a : WindowAddr) (w : Word) : s.KeepsMu (s.writeWord p a w) := by
  unfold State.writeWord
  split
  · exact ((s.keepsMu_strobe (fun s => s.keepsMu_attachAction p) _).trans
      (State.keepsMu_strobe _ (fun s => s.keepsMu_detachAction p) _)).trans
        (State.keepsMu_strobe _ (fun s => s.keepsMu_portResetAction p) _)
  · split
    · exact (s.keepsMu_strobe (fun s => s.keepsMu_clearLeaseLost p) _).trans
        (State.keepsMu_strobe _ (fun s => s.keepsMu_clearWindowError p) _)
    · split
      · exact s.keepsMu_clearData p _
      · exact s.keepsMu_clearSpace p _
  · exact s.keepsMu_writeEnables p _ w
  · exact s.keepsMu_writeIntConfig p w
  · exact s.keepsMu_strobe (fun s => s.keepsMu_clearOverflow p) _
  · exact s.keepsMu_writeCtxRegister p _ a w _
  all_goals exact .refl s

theorem State.keepsMu_sendLatched (s : State) (p : Port) : s.KeepsMu (s.sendLatched p) := by
  unfold State.sendLatched
  split
  · exact .refl s
  · have sent (f : PortInterface → PortInterface) := s.keepsMu_modPort p f
    dsimp only
    split
    · exact (sent _).trans (State.keepsMu_modCtx id)
    · split
      · exact (sent _).trans (State.keepsMu_modPort _ p _)
      · exact sent _
    · exact sent _

end Updates

end Sys2Proof.Machine

namespace Sys2Proof.Machine

/-! ### The answer of every command -/

section Answers
variable {s t u : State} {o : Out}

theorem State.answers_next (h : s.KeepsMu t) : s.Answers (.next t) := fun _ _ => ⟨t, rfl, h⟩

theorem State.answers_self (s : State) : s.Answers (.next s) := State.answers_next (.refl s)

theorem State.answers_after (h : s.KeepsMu u) (ho : u.Answers o) : s.Answers o := fun hs hf => by
  obtain ⟨t, e, ht⟩ := ho (h.segments hs) fun cx => h.fills cx (hf cx)
  exact ⟨t, e, h.trans ht⟩

/-- After a change that keeps what MU holds, a request ends. -/
theorem State.KeepsMu.answer (h : s.KeepsMu t) (cx : CtxNum) (r : Answer) : s.Answers (.next (t.complete cx r)) :=
  State.answers_next (h.trans (t.keepsMu_complete cx r))

theorem State.answers_complete (s : State) (cx : CtxNum) (r : Answer) : s.Answers (.next (s.complete cx r)) :=
  (State.KeepsMu.refl s).answer cx r

theorem State.answers_failed (s : State) (cx : CtxNum) (code : CompletionCode) : s.Answers (s.failed cx code) :=
  s.answers_complete cx _

theorem State.answers_live (h : s.Answers o) : s.Answers (s.live o) := by
  unfold State.live
  split
  · exact s.answers_self
  · exact h

theorem State.answers_take {c : Command} {cx : CtxNum} {k : State → Out} (h : ∀ s : State, s.Answers (k s)) :
    s.Answers (s.take c cx k) := by
  rcases s.take_cases c cx k with ⟨_, e⟩ | e <;> rw [e]
  · exact State.answers_after (s.keepsMu_granted _ _) (h _)
  · exact s.answers_self

variable {cx : CtxNum}

theorem State.answers_asManager (h : s.Answers o) : s.Answers (s.asManager cx o) := by
  unfold State.asManager
  split
  · exact h
  · exact s.answers_failed _ _

theorem State.answers_onTarget {α : Type} {target : Option α} {k : α → Out}
    (h : ∀ x, target = some x → s.Answers (k x)) : s.Answers (s.onTarget cx target k) := by
  cases target with
  | none => exact s.answers_failed _ _
  | some x => exact h x rfl

/-- A data command that has passed its checks reaches `need` words of the memory from its word on (R87, R88); R87 rules
the fault out. -/
theorem State.answers_onSegment {countOk : Bool} {need : Nat} {right : Right} {k : SegNum → Segment → Nat → Out}
    (h : ∀ n g a, countOk = true → (s.ctx cx).command.offset.toNat + need ≤ g.length.toNat →
      a + g.length.toNat ≤ Config.memoryWords + (s.ctx cx).command.offset.toNat → s.Answers (k n g a)) :
    s.Answers (s.onSegment cx countOk need right k) := by
  unfold State.onSegment
  refine State.answers_onTarget fun n hn => ?_
  have hok : countOk = true := by
    split at hn
    · next hc => exact (Bool.and_eq_true_iff.1 hc).1
    · exact nomatch hn
  cases hg : s.seg n with
  | none => exact s.answers_failed _ _
  | some g =>
    dsimp only
    split
    · next hreach =>
        split
        · intro hs
          have hvalid := hs n
          rw [hg, Option.all_some, Segment.valid, decide_eq_true_eq] at hvalid
          obtain ⟨-, -, hfits⟩ := hvalid
          have hin : g.inMemory = true := decide_eq_true hfits
          rw [if_pos hin]
          exact h n g _ hok hreach.2 (by omega) hs
        · exact s.answers_failed _ _
    · exact s.answers_failed _ _

theorem State.answers_onChannel {n : ChanNum} {role : Binding → Port → Bool} {k : Binding → Out}
    (h : ∀ b, s.Answers (k b)) : s.Answers (s.onChannel cx n role k) := by
  rcases s.onChannel_cases cx n role k with ⟨_, e⟩ | ⟨b, _, ⟨_, e⟩ | ⟨_, _, e⟩ | ⟨_, _, e⟩⟩ <;> rw [e]
  · exact s.answers_failed _ _
  · exact s.answers_failed _ _
  · exact s.answers_failed _ _
  · exact h b

theorem State.answers_judgeHolder {l : LockNum} {named : Word} (h : s.Answers o) :
    s.Answers (s.judgeHolder l cx named o) := by
  rcases s.judgeHolder_cases l cx named o with ⟨_, _, e⟩ | ⟨_, _, e⟩ | ⟨_, e⟩ <;> rw [e]
  · exact h
  · exact s.answers_complete _ _
  · exact s.answers_complete _ _

theorem State.answers_onLuTick {k : LuTick → List LuTick → Out} (h : ∀ t rest, s.Answers (k t rest)) :
    s.Answers (s.onLuTick k) := by
  rcases s.onLuTick_cases k with ⟨t, rest, _, _, _, e⟩ | e <;> rw [e]
  · exact h t rest
  · exact s.answers_self

theorem State.answers_word {p : Port} {act : State → State} (h : ∀ s : State, s.KeepsMu (act s)) (dir : Direction)
    (a : WindowAddr) : s.Answers (s.word p dir a act) := by
  rcases s.word_cases p dir a act with e | ⟨_, _, e⟩ | ⟨_, _, e⟩ <;> rw [e]
  · exact s.answers_self
  · exact State.answers_next (h s)
  · exact State.answers_next ((h s).trans (State.keepsMu_modPort _ p _))

theorem State.answers_readWord (s : State) (p : Port) (a : WindowAddr) (part : ReadPart) :
    s.Answers (s.readWord p a part) := by
  rcases s.readWord_cases p a part with e | ⟨_, e⟩ | ⟨_, _, e⟩ | ⟨_, e⟩ <;> rw [e]
  · exact s.answers_self
  · exact State.answers_next (s.keepsMu_modPort p _)
  · exact State.answers_next ((s.keepsMu_sendLatched p).trans (State.keepsMu_modPort _ p _))
  · exact State.answers_word (fun s => (s.keepsMu_modPort p _).trans (State.keepsMu_sendLatched _ p)) _ _

theorem State.answers_withdrawalNotice {p : Port} {v : UnitId} {stage : NoticeStep} {act : State → State}
    (h : ∀ s : State, s.KeepsMu (act s)) : s.Answers (s.withdrawalNotice p v stage act) := by
  rcases s.withdrawalNotice_cases p v stage act with ⟨_, _, _, e⟩ | ⟨_, _, e⟩ | e <;> rw [e]
  · exact State.answers_next (s.keepsMu_modLink p _)
  · exact State.answers_next ((s.keepsMu_modLink p _).trans (h _))
  · exact s.answers_self

end Answers

section MemoryUnit
variable (cx : CtxNum) (s : State)

/-- A write inside the memory. -/
theorem State.keepsMu_write {s : State} {a : Nat} (ha : a < Config.memoryWords) (w : Word) :
    s.KeepsMu (s.setMemory (s.memory.write a w)) :=
  State.keepsMu_setMemory fun h => Memory.write_wfFrom h (Nat.zero_le a) ha

theorem execRead_answers : s.Answers (execRead cx s) :=
  State.answers_take fun s => State.answers_onSegment fun _ _ _ _ _ _ => s.answers_complete _ _

theorem execWrite_answers : s.Answers (execWrite cx s) :=
  State.answers_take fun _ => State.answers_onSegment fun _ _ _ _ hreach hfits =>
    (State.keepsMu_write (by omega) _).answer _ _

theorem execReadGroup_answers : s.Answers (execReadGroup cx s) :=
  State.answers_take fun _ => State.answers_onSegment fun _ _ _ _ _ _ => (State.keepsMu_modCtx id).answer _ _

theorem execWriteGroup_answers : s.Answers (execWriteGroup cx s) := by
  refine State.answers_take fun s => State.answers_onSegment fun n g a _ hreach hfits => State.KeepsMu.answer ?_ _ _
  refine State.keepsMu_setMemory fun h => Memory.writeRun_wfFrom h (Nat.zero_le a) ?_
  rw [bufferPrefix, List.length_take, groupLength]
  omega

theorem execTally_answers : s.Answers (execTally cx s) := by
  refine State.answers_take fun s => State.answers_onSegment fun _ _ a _ hreach hfits => ?_
  dsimp only
  split
  · exact s.answers_complete _ _
  · exact (State.keepsMu_write (by omega) _).answer _ _

theorem execSetIfZero_answers : s.Answers (execSetIfZero cx s) := by
  refine State.answers_take fun s => State.answers_onSegment fun _ _ a _ hreach hfits => ?_
  dsimp only
  split
  · exact (State.keepsMu_write (by omega) _).answer _ _
  · exact s.answers_complete _ _

/-- R95 fixes a range of R96: its words are those that the checks have found. -/
theorem execZeroFill_answers : s.Answers (execZeroFill cx s) := by
  refine State.answers_take fun s => State.answers_onSegment fun n g a hok hreach hfits => State.answers_next ?_
  refine State.keepsMu_modCtx fun _ => (Fill.valid_iff _).2 ?_
  obtain ⟨hmin, hmax⟩ := (CommandRecord.countWithin_iff _ _).1 hok
  have words : Config.memoryWords = 16384 := rfl
  exact ⟨hmin, hmax, by dsimp only; omega, hmin, rfl⟩

/-- R96 rules the fault out. -/
theorem execFillBurst_answers : s.Answers (execFillBurst cx s) := by
  refine State.answers_live ?_
  split
  · next f hst =>
      split
      · intro hs hf
        have hvalid := hf cx
        rw [hst] at hvalid
        obtain ⟨-, -, hfits, -, -⟩ := (Fill.valid_iff f).1 hvalid
        rw [if_pos (show f.start + f.count ≤ Config.memoryWords from hfits)]
        have hst' : ((s.granted .mu cx).ctx cx).state = .active f := by rwa [State.granted_ctx, Context.countGrant_state]
        exact ⟨_, rfl, (s.keepsMu_granted .mu cx).trans (State.keepsMu_fillStep hst')⟩
      · exact s.answers_self
  · exact s.answers_self

/-- R100's range check is R87. -/
theorem defineTarget_counts {r : CommandRecord} {n : SegNum} (h : defineTarget r = some n) :
    r.counts 4096 ∧ (baseField r.operand).toNat + r.count.toNat ≤ 16384 := by
  unfold defineTarget at h
  split at h
  · next hc =>
      obtain ⟨hcount, hfits⟩ := Bool.and_eq_true_iff.1 hc
      exact ⟨(r.countWithin_iff _).1 hcount, of_decide_eq_true hfits⟩
  · exact nomatch h

theorem execDefineSegment_answers : s.Answers (execDefineSegment cx s) := by
  refine State.answers_take fun s => State.answers_asManager <| State.answers_onTarget fun n hn => ?_
  obtain ⟨⟨hmin, hmax⟩, hfits⟩ := defineTarget_counts hn
  refine State.KeepsMu.answer (s.keepsMu_changeSegment n ?_) _ _
  exact decide_eq_true ⟨hmin, hmax, hfits⟩

theorem execClearSegment_answers : s.Answers (execClearSegment cx s) :=
  State.answers_take fun s => State.answers_asManager <| State.answers_onTarget fun n _ =>
    (s.keepsMu_changeSegment n rfl).answer _ _

theorem execInspectSegment_answers : s.Answers (execInspectSegment cx s) :=
  State.answers_take fun s => State.answers_onTarget fun _ _ => s.answers_complete _ _

theorem execFillAbort_answers : s.Answers (execFillAbort cx s) := by
  refine State.answers_live ?_
  split
  · split
    · exact s.answers_self
    · refine State.answers_next (State.keepsMu_modCtx fun hf => ?_)
      rwa [← Context.stopFill_fillValid (fun _ => true) .aborted] at hf
  · exact s.answers_self

theorem execMemoryClearDone_answers : s.Answers (execMemoryClearDone s) := by
  refine State.answers_live ?_
  split
  · exact State.answers_next ⟨rfl, fun _ => rfl, id, fun _ => id⟩
  · exact s.answers_self

end MemoryUnit

section LockUnit
variable (cx : CtxNum) (s : State)

theorem execAcquire_answers : s.Answers (execAcquire cx s) := by
  refine State.answers_take fun s => State.answers_onTarget fun l _ => ?_
  split
  · exact State.answers_next (s.keepsMu_acquireLock l cx)
  · exact s.answers_failed _ _

theorem execRelease_answers : s.Answers (execRelease cx s) :=
  State.answers_take fun s => State.answers_onTarget fun l _ => State.answers_judgeHolder <|
    (s.keepsMu_handOff l).answer _ _

theorem execRenew_answers : s.Answers (execRenew cx s) :=
  State.answers_take fun s => State.answers_onTarget fun l _ => State.answers_judgeHolder <|
    (s.keepsMu_modLock l _).answer _ _

theorem execInspectLock_answers : s.Answers (execInspectLock cx s) :=
  State.answers_take fun s => State.answers_onTarget fun _ _ => s.answers_complete _ _

theorem execSetLock_answers : s.Answers (execSetLock cx s) :=
  State.answers_take fun s => State.answers_asManager <| State.answers_onTarget fun l _ =>
    (s.keepsMu_modLock l _).answer _ _

theorem State.answers_forceReleaseLock : s.Answers (s.forceReleaseLock cx) := by
  refine State.answers_asManager <| State.answers_onTarget fun l _ => ?_
  dsimp only
  split
  · exact s.answers_complete _ _
  · exact (s.keepsMu_revoke l _ _).answer _ _

theorem execForceRelease_answers (part : ForcedStep) : s.Answers (execForceRelease part s) := by
  unfold execForceRelease
  cases part with
  | whole cx => exact State.answers_take fun s => s.answers_forceReleaseLock cx
  | starts cx => exact State.answers_take fun s => State.answers_next (s.keepsMu_setForcing _)
  | ends cx =>
    refine State.answers_live ?_
    split
    · exact State.answers_after (s.keepsMu_setForcing none) (State.answers_forceReleaseLock cx _)
    · exact s.answers_self

theorem execLuTick_answers : s.Answers (execLuTick s) :=
  State.answers_onLuTick fun t rest =>
    State.answers_next ((s.keepsMu_luTickUpTo t 64).trans (State.keepsMu_setLuTicks _ rest))

theorem execLockWaitTimeout_answers : s.Answers (execLockWaitTimeout cx s) := by
  refine State.answers_onLuTick fun t rest => ?_
  split
  · exact s.answers_self
  · split
    · exact ((s.keepsMu_mapLocks _).trans (State.keepsMu_setLuTicks _ _)).answer _ _
    · exact s.answers_self

theorem execLeaseExpiry_answers (l : LockNum) : s.Answers (execLeaseExpiry l s) := by
  refine State.answers_onLuTick fun t rest => ?_
  split
  · exact s.answers_self
  · dsimp only
    split
    · exact State.answers_next (((s.keepsMu_luTickUpTo t l.val).trans (State.keepsMu_visitLease _ t.epoch l)).trans
        (State.keepsMu_setLuTicks _ _))
    · exact s.answers_self

theorem execLockWaitAbort_answers : s.Answers (execLockWaitAbort cx s) := by
  refine State.answers_live ?_
  split
  · exact (s.keepsMu_mapLocks _).answer _ _
  · exact s.answers_self

end LockUnit

section ChannelUnit
variable (cx : CtxNum) (s : State)

theorem execSend_answers : s.Answers (execSend cx s) := by
  refine State.answers_take fun s => State.answers_onTarget fun n _ => State.answers_onChannel fun b => ?_
  dsimp only
  split
  · exact State.answers_next (s.keepsMu_acceptSend n b cx)
  · split
    · exact s.answers_complete _ _
    · exact State.answers_next (s.keepsMu_parkAtChannel n cx _)

theorem execReceive_answers : s.Answers (execReceive cx s) := by
  refine State.answers_take fun s => State.answers_onTarget fun n _ => State.answers_onChannel fun b => ?_
  dsimp only
  split
  · exact State.answers_next (((s.keepsMu_modChan n _).trans (State.keepsMu_deliver _ _ _)).trans
      (State.keepsMu_refill _ n b))
  · split
    · exact s.answers_complete _ _
    · exact State.answers_next (s.keepsMu_parkAtChannel n cx _)

theorem execInspectChannel_answers : s.Answers (execInspectChannel cx s) := by
  refine State.answers_take fun s => State.answers_onTarget fun n _ => ?_
  split
  · exact s.answers_complete _ _
  · exact s.answers_failed _ _

theorem execBindChannel_answers : s.Answers (execBindChannel cx s) := by
  refine State.answers_take fun s => State.answers_asManager <| State.answers_onTarget fun n _ => ?_
  split
  · exact s.answers_failed _ _
  · exact ((s.keepsMu_modChan n _).trans (State.keepsMu_sendCuAll _ _ _)).answer _ _

theorem execUnbindChannel_answers : s.Answers (execUnbindChannel cx s) := by
  refine State.answers_take fun s => State.answers_asManager <| State.answers_onTarget fun n _ => ?_
  dsimp only
  split
  · exact s.answers_failed _ _
  · next b _ =>
      split
      · exact (s.keepsMu_modChan n _).answer _ _
      · split
        · exact (s.keepsMu_forceUnbind n b).answer _ _
        · exact s.answers_complete _ _

theorem execCuTick_answers : s.Answers (execCuTick s) := by
  refine State.answers_live ?_
  split
  · exact s.answers_self
  · exact State.answers_next (((s.keepsMu_mapChans _).trans (State.keepsMu_timeOutAll _ _)).trans
      (State.keepsMu_setCuTicks _ _ _))

theorem execChannelWaitTimeout_answers : s.Answers (execChannelWaitTimeout cx s) := by
  refine State.answers_live ?_
  split
  · exact ((s.keepsMu_mapChans _).trans (State.keepsMu_setCuTicks _ _ _)).answer _ _
  · exact s.answers_self

theorem execChannelWaitAbort_answers : s.Answers (execChannelWaitAbort cx s) := by
  refine State.answers_live ?_
  split
  · exact (s.keepsMu_mapChans _).answer _ _
  · exact s.answers_self

end ChannelUnit

section SystemUnit
variable (cx : CtxNum) (s : State)

theorem execSetPortKeys_answers : s.Answers (execSetPortKeys cx s) :=
  State.answers_take fun s => State.answers_asManager <| State.answers_onTarget fun p _ =>
    (s.keepsMu_setKeyPair p _).answer _ _

theorem execSetTick_answers : s.Answers (execSetTick cx s) :=
  State.answers_take fun s => State.answers_asManager <|
    (s.keepsMu_setTickGenerator _ _).answer _ _

theorem execEvictPort_answers : s.Answers (execEvictPort cx s) :=
  State.answers_take fun s => State.answers_asManager <| State.answers_onTarget fun p _ =>
    (s.keepsMu_modLink p _).answer _ _

theorem State.keepsMu_inspectionStands (g : Inspection) : s.KeepsMu (s.inspectionStands g) := by
  have set (i : Option Inspection) : s.KeepsMu { s with inspection := i } := .of_eq rfl rfl rfl rfl
  unfold State.inspectionStands
  split
  · exact (set none).trans (State.keepsMu_complete _ _ _)
  · exact set _

theorem execInspectPort_answers (part : InspectPart) : s.Answers (execInspectPort cx part s) := by
  unfold execInspectPort
  cases part with
  | whole => exact State.answers_take fun s => State.answers_onTarget fun _ _ => s.answers_complete _ _
  | item i =>
    unfold State.inspectItem
    dsimp only
    split
    · refine State.answers_live ?_
      split
      · exact State.answers_next (s.keepsMu_inspectionStands _)
      · exact s.answers_self
    · exact State.answers_take fun s => State.answers_onTarget fun _ _ =>
        State.answers_next (s.keepsMu_inspectionStands _)

theorem execChipReset_answers (straps : Straps) : s.Answers (execChipReset cx straps s) :=
  State.answers_take fun s => State.answers_asManager <| State.answers_next
    (State.keepsMu_of_blocksAtReset (s.chipResetEvent_blocksAtReset straps) rfl rfl)

theorem execResetAssert_answers : s.Answers (execResetAssert s) := by
  have h : ({ s.atResetValues with resetHeld := true } : State).blocksAtReset := s.atResetValues_blocksAtReset
  exact State.answers_next (State.keepsMu_of_blocksAtReset h rfl rfl)

theorem execResetRelease_answers (straps : Straps) : s.Answers (execResetRelease straps s) :=
  State.answers_next (State.keepsMu_of_blocksAtReset (s.chipResetEvent_blocksAtReset straps) rfl rfl)

theorem execChipReady_answers : s.Answers (execChipReady s) := by
  refine State.answers_live ?_
  split
  · exact State.answers_next (.of_eq rfl rfl rfl rfl)
  · exact s.answers_self

theorem execPeriodEnd_answers : s.Answers (execPeriodEnd s) := by
  refine State.answers_live ?_
  split
  · exact s.answers_self
  · split
    · exact s.answers_self
    · exact State.answers_next (.of_eq rfl rfl rfl rfl)

end SystemUnit

section Ports
variable (s : State) (p : Port)

theorem execDataRead_answers (place : ReadPlace) (part : ReadPart) : s.Answers (execDataRead place part s) := by
  cases place with
  | data cx => exact s.answers_readWord _ _ part
  | register p a => exact s.answers_readWord p a part

theorem execRegisterWrite_answers (place : WordPlace) (w : Word) : s.Answers (execRegisterWrite p place w s) := by
  unfold execRegisterWrite
  split
  · exact State.answers_word (fun s => s.keepsMu_writeWord p _ w) _ _
  · split
    · exact State.answers_word (fun s => s.keepsMu_writeWord p _ w) _ _
    · exact s.answers_self

theorem execFrameShort_answers (bits : Fin 32) : s.Answers (execFrameShort p bits s) := by
  have closed (f : PortInterface → PortInterface) := s.keepsMu_modPort p f
  unfold execFrameShort
  dsimp only
  split
  · exact State.answers_next (closed _)
  · split
    · split
      · exact State.answers_next (closed _)
      · exact State.answers_next ((closed _).trans (State.keepsMu_windowRefusal _ _ _ _))
    · exact State.answers_next (closed _)

theorem execHeaderByte_answers (part : HeaderPart) : s.Answers (execHeaderByte p part s) := by
  unfold execHeaderByte
  split <;> exact State.answers_next (s.keepsMu_modPort p _)

theorem execEvictionOrder_answers : s.Answers (execEvictionOrder p s) := by
  refine State.answers_live ?_
  split
  · exact s.answers_self
  · exact State.answers_next ((s.keepsMu_modLink p _).trans (State.keepsMu_detachAction _ p))

theorem execWithdrawalAck_answers (u : UnitId) : s.Answers (execWithdrawalAck p u s) := by
  have taken (f : Links → Links) (u : UnitId) : s.Answers (.next ((s.modLink p f).acknowledged p u)) :=
    State.answers_next ((s.keepsMu_modLink p f).trans (State.keepsMu_acknowledged _ p u))
  refine State.answers_live ?_
  cases u with
  | mu | lu | cu | su =>
    dsimp only
    split
    · exact taken _ _
    · exact s.answers_self

theorem execRevocationRecordArrival_answers : s.Answers (execRevocationRecordArrival p s) := by
  refine State.answers_live ?_
  split
  · exact State.answers_next ((s.keepsMu_modLink p _).trans (State.keepsMu_modPort _ p _))
  · exact s.answers_self

theorem State.answers_takeCuMessage (n : ChanNum) (set : Bool) : s.Answers (s.takeCuMessage p n set) := by
  unfold State.takeCuMessage
  split
  · split
    · exact State.answers_next ((s.keepsMu_modLink p _).trans (State.keepsMu_modPort _ p _))
    · exact s.answers_self
  · exact s.answers_self

theorem execMuWithdrawalNotice_answers (stage : NoticeStep) :
    s.Answers (execMuWithdrawalNotice p stage s) :=
  State.answers_withdrawalNotice fun s => s.keepsMu_muWithdraw p

theorem execLuWithdrawalNotice_answers (stage : NoticeStep) :
    s.Answers (execLuWithdrawalNotice p stage s) :=
  State.answers_withdrawalNotice fun s => s.keepsMu_luWithdraw p

theorem execCuWithdrawalNotice_answers (stage : NoticeStep) :
    s.Answers (execCuWithdrawalNotice p stage s) :=
  State.answers_withdrawalNotice fun s => s.keepsMu_cuWithdraw p

theorem execSuWithdrawalNotice_answers (stage : NoticeStep) :
    s.Answers (execSuWithdrawalNotice p stage s) :=
  State.answers_withdrawalNotice fun s => s.keepsMu_suWithdraw p

theorem execAbortNoticePending_answers (cx : CtxNum) : s.Answers (execAbortNoticePending cx s) := by
  refine State.answers_live ?_
  split
  · split
    · exact s.answers_complete _ _
    · exact s.answers_self
  · exact s.answers_self

end Ports

/-- Every command answers a next state in which what MU holds has stayed sound. -/
theorem exec_answers (i : Instr) (s : State) : s.Answers (exec i s) := by
  cases i with
  | go cx => exact State.answers_word (fun s => s.keepsMu_goStrobe cx) _ _
  | ack cx => exact State.answers_word (fun s => s.keepsMu_ackStrobe cx) _ _
  | abort cx => exact State.answers_word (fun s => s.keepsMu_abortStrobe cx) _ _
  | attach p => exact State.answers_word (fun s => s.keepsMu_attachAction p) _ _
  | detach p => exact State.answers_word (fun s => s.keepsMu_detachAction p) _ _
  | portReset p => exact State.answers_word (fun s => s.keepsMu_portResetAction p) _ _
  | evictionOrder p => exact execEvictionOrder_answers s p
  | withdrawalAck p u => exact execWithdrawalAck_answers s p u
  | dataRead place part => exact execDataRead_answers s place part
  | dataWrite cx w =>
    exact State.answers_word (fun s => s.keepsMu_lockedWrite _ _ _ (f := Context.dataWritten w) fun _ => rfl) _ _
  | logRead p part => exact s.answers_readWord p _ part
  | overflowClear p => exact State.answers_word (fun s => s.keepsMu_clearOverflow p) _ _
  | leaseLostClear p => exact State.answers_word (fun s => s.keepsMu_clearLeaseLost p) _ _
  | windowErrorClear p => exact State.answers_word (fun s => s.keepsMu_clearWindowError p) _ _
  | dataFlagClear p mask => exact State.answers_word (fun s => s.keepsMu_clearData p mask) _ _
  | spaceFlagClear p mask => exact State.answers_word (fun s => s.keepsMu_clearSpace p mask) _ _
  | eventEnablesWrite p k w => exact State.answers_word (fun s => s.keepsMu_writeEnables p k w) _ _
  | intConfigWrite p w => exact State.answers_word (fun s => s.keepsMu_writeIntConfig p w) _ _
  | registerWrite p place w => exact execRegisterWrite_answers s p place w
  | frameShort p bits => exact execFrameShort_answers s p bits
  | read cx => exact execRead_answers cx s
  | write cx => exact execWrite_answers cx s
  | readGroup cx => exact execReadGroup_answers cx s
  | writeGroup cx => exact execWriteGroup_answers cx s
  | tally cx => exact execTally_answers cx s
  | setIfZero cx => exact execSetIfZero_answers cx s
  | zeroFill cx => exact execZeroFill_answers cx s
  | fillBurst cx => exact execFillBurst_answers cx s
  | defineSegment cx => exact execDefineSegment_answers cx s
  | clearSegment cx => exact execClearSegment_answers cx s
  | inspectSegment cx => exact execInspectSegment_answers cx s
  | acquire cx => exact execAcquire_answers cx s
  | release cx => exact execRelease_answers cx s
  | renew cx => exact execRenew_answers cx s
  | inspectLock cx => exact execInspectLock_answers cx s
  | setLock cx => exact execSetLock_answers cx s
  | forceRelease part => exact execForceRelease_answers s part
  | send cx => exact execSend_answers cx s
  | receive cx => exact execReceive_answers cx s
  | inspectChannel cx => exact execInspectChannel_answers cx s
  | bindChannel cx => exact execBindChannel_answers cx s
  | unbindChannel cx => exact execUnbindChannel_answers cx s
  | setPortKeys cx => exact execSetPortKeys_answers cx s
  | setTick cx => exact execSetTick_answers cx s
  | evictPort cx => exact execEvictPort_answers cx s
  | inspectPort cx part => exact execInspectPort_answers cx s part
  | chipReset cx straps => exact execChipReset_answers cx s straps
  | resetAssert => exact execResetAssert_answers s
  | resetRelease straps => exact execResetRelease_answers s straps
  | memoryClearDone => exact execMemoryClearDone_answers s
  | chipReady => exact execChipReady_answers s
  | periodEnd => exact execPeriodEnd_answers s
  | luTick => exact execLuTick_answers s
  | lockWaitTimeout cx => exact execLockWaitTimeout_answers cx s
  | leaseExpiry l => exact execLeaseExpiry_answers s l
  | cuTick => exact execCuTick_answers s
  | channelWaitTimeout cx => exact execChannelWaitTimeout_answers cx s
  | abortNoticePending cx => exact execAbortNoticePending_answers s cx
  | lockWaitAbort cx => exact execLockWaitAbort_answers cx s
  | channelWaitAbort cx => exact execChannelWaitAbort_answers cx s
  | fillAbort cx => exact execFillAbort_answers cx s
  | muWithdrawalNotice p stage => exact execMuWithdrawalNotice_answers s p stage
  | luWithdrawalNotice p stage => exact execLuWithdrawalNotice_answers s p stage
  | cuWithdrawalNotice p stage => exact execCuWithdrawalNotice_answers s p stage
  | suWithdrawalNotice p stage => exact execSuWithdrawalNotice_answers s p stage
  | revocationRecordArrival p => exact execRevocationRecordArrival_answers s p
  | flagSettingArrival p n => exact State.answers_live (s.answers_takeCuMessage p n true)
  | flagClearingArrival p n => exact State.answers_live (s.answers_takeCuMessage p n false)
  | headerByte p part => exact execHeaderByte_answers s p part

/-- Settles O4: a step is its command, on the state with the rest of the queue. -/
theorem stepKeepsMemoryUnitSound : Obligations.StepKeepsMemoryUnitSound := by
  intro s t hm hs hf h
  unfold step at h
  split at h
  · cases h
    exact ⟨hm, hs, hf⟩
  · next c rest _ =>
      obtain ⟨t', e, keeps⟩ := exec_answers c { s with pending := rest } hs hf
      obtain rfl : t' = t := Host.Outcome.next.inj (e.symm.trans h)
      exact ⟨keeps.memory hm, keeps.segments hs, fun cx => keeps.fills cx (hf cx)⟩

/-- Settles O2: the faults are ruled out by R87 and R96, and no operation writes the queue. -/
theorem everyCommandAnswersANextState : Obligations.EveryCommandAnswersANextState := by
  intro s i hs hf
  obtain ⟨t, e, keeps⟩ := exec_answers i s hs hf
  exact ⟨t, e, keeps.pending⟩

end Sys2Proof.Machine

namespace Sys2Proof.Machine

/-! ## The commands of MU -/

/-! ### The memory and the parts a request leaves -/

section MemoryParts
variable {s t : State} {u : UnitId} {cx : CtxNum} {A B : List Part} {cs : List CtxNum}

theorem State.served.mono (h : s.served t u cx A cs) (hAB : A ⊆ B) : s.served t u cx B cs := by
  obtain ⟨harbiters, hkeeps, hcontexts⟩ := h
  exact ⟨harbiters, hkeeps.mono (List.cons_subset_cons _ hAB), hcontexts⟩

theorem State.keepsBut_setMemory (m : Memory) : s.keepsBut (s.setMemory m) [.memory] :=
  ⟨rfl, fun q hq => by cases q <;> simp [State.keeps] at hq ⊢⟩

theorem State.keepsBut_setSeg (n : SegNum) (e : Option Segment) : s.keepsBut (s.setSeg n e) [.segments] :=
  ⟨rfl, fun q hq => by cases q <;> simp [State.keeps] at hq ⊢⟩

/-- A granted request that rewrites the memory and ends. -/
theorem State.setMemory_complete_granted (hs : s.settled) (u : UnitId) (cx : CtxNum) (m : Memory) (r : Answer) :
    let t := ((s.granted u cx).setMemory m).complete cx r
    s.served t u cx [.memory] [] ∧ t.memory = m ∧ s.ends t cx r := by
  have hctx := (s.granted u cx).setMemory_ctx m
  obtain ⟨hkeeps, hothers, hends⟩ :=
    State.complete_after ((State.setMemory_settled _ m).2 ((s.granted_settled u cx).2 hs)) (hctx cx) r
  exact ⟨State.served_of_granted (by simp) ((State.keepsBut_setMemory m).trans (hkeeps _))
    fun c hc => (hothers c (by simpa using hc)).trans (hctx c), State.complete_memory ..,
    (s.granted_ends _ u cx cx r []).1 hends⟩

/-- A granted request that brings words and ends. -/
theorem State.withWords_complete_granted (hs : s.settled) (u : UnitId) (cx : CtxNum) (ws : List Word) (r : Answer) :
    let t := ((s.granted u cx).modCtx cx fun c => c.withWords ws).complete cx r
    s.served t u cx [] [] ∧ s.ends t cx r ws := by
  intro t
  have hsettled := (State.modCtx_settled (s.granted u cx) cx fun c => c.withWords ws).2 ((s.granted_settled u cx).2 hs)
  obtain ⟨hkeeps, hothers, -⟩ := State.complete_changes hsettled cx r
  have hothers' : ∀ c, c ≠ cx → t.ctx c = (s.granted u cx).ctx c := fun c hc =>
    (hothers c hc).trans (State.modCtx_ctx_ne _ _ _ hc)
  refine ⟨State.served_of_granted (by simp) ((State.keepsBut_modCtx cx _ _).trans (hkeeps _))
    fun c hc => hothers' c (by simpa using hc), (s.granted_ends _ u cx cx r ws).1 ?_⟩
  have hctx : t.ctx cx = (((s.granted u cx).ctx cx).withWords ws).completed r := by
    rw [show t = _ from State.complete_of_settled hsettled cx r, State.modCtx_ctx_self, State.modCtx_ctx_self]
  rw [State.ends, hctx]
  exact Context.ended_withWords _ r ws

end MemoryParts

/-! ### Words stored -/

section Stores
variable {s t : State} {a : Nat}

theorem State.storesWords_of_same (ht : t.memory = s.memory) (a : Nat) : s.storesWords t a [] := fun b => by
  rw [ht, List.length_nil, if_neg (by omega)]

/-- A word that is not written is stored as it was. -/
theorem State.storesWords_own (ht : t.memory = s.memory) (a : Nat) : s.storesWords t a [s.memory.read a] := fun b => by
  rw [ht]
  split
  · next h =>
      obtain rfl : b = a := by simp only [List.length_singleton] at h; omega
      simp
  · rfl

theorem State.storesWords_writeRun {ws : List Word} (hm : s.memoryCanonical)
    (ha : a + ws.length ≤ Config.memoryWords) (ht : t.memory = s.memory.writeRun a ws) : s.storesWords t a ws := fun b => by
  rw [ht, Memory.read_writeRun hm (Nat.zero_le a) ha]
  by_cases h : a ≤ b ∧ b < a + ws.length
  · have hlt : b - a < ws.length := by omega
    rw [if_pos h, dif_pos ⟨h.1, hlt⟩, List.getD_eq_getElem _ _ hlt]
  · rw [if_neg h, dif_neg (by omega)]

theorem State.storesWords_write {w : Word} (hm : s.memoryCanonical) (ha : a < Config.memoryWords)
    (ht : t.memory = s.memory.write a w) : s.storesWords t a [w] :=
  State.storesWords_writeRun hm (by simpa using ha) ht

theorem State.storesWords_clearRun {n : Nat} (hm : s.memoryCanonical) (ht : t.memory = s.memory.clearRun a n) :
    s.storesWords t a (List.replicate n 0) := fun b => by
  rw [ht, Memory.read_clearRun hm, List.length_replicate]
  split
  · rw [List.getD_replicate _ (by omega)]
  · rfl

end Stores

/-! ### Data commands that pass their checks (R88) -/

section DataCommands
variable {s : State} {cx : CtxNum} {n : SegNum} {g : Segment} {right : Right} {need : Nat}

/-- The words that a passing data command reaches lie in the memory (R87). -/
theorem State.reachesSegment.fits (h : s.reachesSegment cx right need n g) :
    (s.ctx cx).command.offset.toNat < g.length.toNat ∧ (s.ctx cx).command.offset.toNat + need ≤ g.length.toNat ∧
      s.wordNamed cx g + (g.length.toNat - (s.ctx cx).command.offset.toNat) ≤ Config.memoryWords := by
  obtain ⟨-, -, -, hreaches, -, -, hin⟩ := h
  obtain ⟨hoff, hneed⟩ := of_decide_eq_true hreaches
  refine ⟨hoff, hneed, ?_⟩
  rw [State.wordNamed]
  omega

theorem State.reachesSegment.wordNamed_lt (h : s.reachesSegment cx right need n g) :
    s.wordNamed cx g < Config.memoryWords := by
  obtain ⟨hoff, -, hin⟩ := h.fits
  omega

/-- A request that is taken and passes the checks of a data command goes on with its word. -/
theorem State.onSegment_granted {u : UnitId} {countOk : Bool} (hok : countOk = true)
    (hr : s.reachesSegment cx right need n g) (k : SegNum → Segment → Nat → Out) :
    (s.granted u cx).onSegment cx countOk need right k = k n g (s.wordNamed cx g) := by
  rw [hok, State.onSegment_of_reaches ((State.granted_reachesSegment ..).2 hr), State.granted_wordNamed]

theorem exec_read (ht : s.takes .read cx) (hr : s.reachesSegment cx .read 1 n g) :
    exec (.read cx) s = .next ((s.granted .mu cx).complete cx
      { code := .ok, value := s.memory.read (s.wordNamed cx g) }) := by
  rw [exec, execRead, State.take_of_takes ht, Command.owner, State.onSegment_granted rfl hr, State.granted_memory]

theorem exec_write (ht : s.takes .write cx) (hr : s.reachesSegment cx .write 1 n g) :
    exec (.write cx) s = .next (((s.granted .mu cx).setMemory
      (s.memory.write (s.wordNamed cx g) (s.ctx cx).command.operand)).complete cx { code := .ok }) := by
  rw [exec, execWrite, State.take_of_takes ht, Command.owner, State.onSegment_granted rfl hr, State.granted_memory,
    State.granted_ctx, Context.countGrant_command]

end DataCommands

/-- Settles O15: a read of the word named, and a write of it. -/
theorem readAndWriteActOnOneWord : Obligations.ReadAndWriteActOnOneWord := by
  refine fun s cx n g hs hm => ⟨fun ht hr => ⟨_, exec_read ht hr, State.complete_granted hs .mu cx _⟩, fun ht hr => ?_⟩
  obtain ⟨hserved, hmemory, hends⟩ := State.setMemory_complete_granted hs .mu cx
    (s.memory.write (s.wordNamed cx g) (s.ctx cx).command.operand) { code := .ok }
  exact ⟨_, exec_write ht hr, hserved, State.storesWords_write hm hr.wordNamed_lt hmemory, hends⟩

/-! ### Group commands (R90, R91) -/

section Groups
variable {s : State} {cx : CtxNum} {n : SegNum} {g : Segment} {r : CommandRecord}

theorem groupLength_eq (r : CommandRecord) (g : Segment) : groupLength r g =
    if r.offset.toNat + r.count.toNat ≤ g.length.toNat then r.count.toNat
    else g.length.toNat - r.offset.toNat := by
  rw [groupLength]
  split <;> omega

/-- A group command that stops at the segment's end answers MISSING. -/
theorem groupAnswer_groupLength (hoff : r.offset.toNat < g.length.toNat) : groupAnswer r (groupLength r g) =
    if r.offset.toNat + r.count.toNat ≤ g.length.toNat then { code := .ok, aux := BitVec.ofNat 16 r.count.toNat }
    else { code := .missing, aux := BitVec.ofNat 16 (groupLength r g) } := by
  rw [groupAnswer, groupLength_eq]
  split
  · rw [if_pos rfl, auxOf]
  · rw [if_neg (by omega), auxOf]

theorem exec_readGroup {i : Nat} (ht : s.takes .readGroup cx) (hc : (s.ctx cx).command.counts 16)
    (hr : s.reachesSegment cx .read 1 n g) (hi : groupLength (s.ctx cx).command g = i) :
    exec (.readGroup cx) s = .next (((s.granted .mu cx).modCtx cx fun c =>
      c.withWords (s.memory.readRun (s.wordNamed cx g) i)).complete cx (groupAnswer (s.ctx cx).command i)) := by
  have hcount : (s.ctx cx).command.countWithin Config.bufferWords = true := (CommandRecord.countWithin_iff _ _).2 hc
  rw [exec, execReadGroup, State.take_of_takes ht, Command.owner]
  dsimp only
  rw [State.granted_ctx, Context.countGrant_command, State.onSegment_granted hcount hr, hi, State.granted_memory]

theorem exec_writeGroup {i : Nat} (ht : s.takes .writeGroup cx) (hc : (s.ctx cx).command.counts 16)
    (hr : s.reachesSegment cx .write 1 n g) (hi : groupLength (s.ctx cx).command g = i) :
    exec (.writeGroup cx) s = .next (((s.granted .mu cx).setMemory (s.memory.writeRun (s.wordNamed cx g)
      ((s.ctx cx).buffer.toList.take i))).complete cx (groupAnswer (s.ctx cx).command i)) := by
  have hcount : (s.ctx cx).command.countWithin Config.bufferWords = true := (CommandRecord.countWithin_iff _ _).2 hc
  rw [exec, execWriteGroup, State.take_of_takes ht, Command.owner]
  dsimp only
  rw [State.granted_ctx, Context.countGrant_command, State.onSegment_granted hcount hr, hi, State.granted_memory,
    Context.countGrant_buffer, bufferPrefix]

end Groups

/-- Settles O16: the words before the segment's end are moved, and the answer counts them. -/
theorem groupCommandsStopAtTheSegmentEnd : Obligations.GroupCommandsStopAtTheSegmentEnd := by
  intro s cx n g hs hm hc k count done answer
  have hdone : groupLength (s.ctx cx).command g = done := groupLength_eq _ _
  have hanswer (hoff : k < g.length.toNat) : groupAnswer (s.ctx cx).command done = answer := by
    have h := groupAnswer_groupLength hoff
    rwa [hdone] at h
  refine ⟨fun ht hr => ?_, fun ht hr => ?_⟩
  · obtain ⟨hoff, -, -⟩ := hr.fits
    have e := exec_readGroup ht hc hr hdone
    rw [hanswer hoff] at e
    exact ⟨_, e, State.withWords_complete_granted hs .mu cx _ answer⟩
  · obtain ⟨hoff, -, hin⟩ := hr.fits
    have e := exec_writeGroup ht hc hr hdone
    rw [hanswer hoff] at e
    obtain ⟨hserved, hmemory, hends⟩ := State.setMemory_complete_granted hs .mu cx
      (s.memory.writeRun (s.wordNamed cx g) ((s.ctx cx).buffer.toList.take done)) answer
    refine ⟨_, e, hserved, State.storesWords_writeRun hm ?_ hmemory, hends⟩
    have hle : done ≤ g.length.toNat - k := hdone ▸ Nat.min_le_right _ _
    rw [List.length_take]
    omega

/-! ### TALLY and SET IF ZERO (R92, R93) -/

section Atomic
variable {s : State} {cx : CtxNum} {n : SegNum} {g : Segment}

theorem exec_tally (ht : s.takes .tally cx) (hr : s.reachesSegment cx .atomic 1 n g) :
    let old := s.memory.read (s.wordNamed cx g)
    exec (.tally cx) s = if old = 0xFFFFFFFF#32 then
        .next ((s.granted .mu cx).complete cx { code := .ok, value := old, saturated := true })
      else .next (((s.granted .mu cx).setMemory (s.memory.write (s.wordNamed cx g) (old + 1))).complete cx
        { code := .ok, value := old }) := by
  rw [exec, execTally, State.take_of_takes ht, Command.owner, State.onSegment_granted rfl hr, State.granted_memory]

theorem exec_setIfZero (ht : s.takes .setIfZero cx) (hr : s.reachesSegment cx .atomic 1 n g) :
    let old := s.memory.read (s.wordNamed cx g)
    exec (.setIfZero cx) s = if old = 0 then
        .next (((s.granted .mu cx).setMemory (s.memory.write (s.wordNamed cx g) (s.ctx cx).command.operand)).complete cx
          { code := .ok, value := old, aux := 1 })
      else .next ((s.granted .mu cx).complete cx { code := .ok, value := old }) := by
  rw [exec, execSetIfZero, State.take_of_takes ht, Command.owner, State.onSegment_granted rfl hr, State.granted_memory,
    State.granted_ctx, Context.countGrant_command]

/-- A granted request that ends and leaves the word it names stores that word again. -/
theorem State.complete_granted_storesOwn (hs : s.settled) (u : UnitId) (cx : CtxNum) (a : Nat) (r : Answer) :
    let t := (s.granted u cx).complete cx r
    s.served t u cx [.memory] [] ∧ s.storesWords t a [s.memory.read a] ∧ s.ends t cx r := by
  obtain ⟨hserved, hends⟩ := State.complete_granted hs u cx r
  exact ⟨hserved.mono (by simp), State.storesWords_own (by simp) a, hends⟩

/-- A granted request that stores one word and ends. -/
theorem State.complete_granted_stores (hs : s.settled) (hm : s.memoryCanonical) (u : UnitId) (cx : CtxNum) {a : Nat}
    (ha : a < Config.memoryWords) (w : Word) (r : Answer) :
    let t := ((s.granted u cx).setMemory (s.memory.write a w)).complete cx r
    s.served t u cx [.memory] [] ∧ s.storesWords t a [w] ∧ s.ends t cx r := by
  obtain ⟨hserved, hmemory, hends⟩ := State.setMemory_complete_granted hs u cx (s.memory.write a w) r
  exact ⟨hserved, State.storesWords_write hm ha hmemory, hends⟩

end Atomic

/-- Settles O17: the word is saturated or counts up; it is 0 or stays. -/
theorem tallyAndSetIfZero : Obligations.TallyAndSetIfZero := by
  intro s cx n g hs hm hr old
  refine ⟨fun ht => ?_, fun ht => ?_⟩
  · have hsat : old.toNat = 0xFFFFFFFF ↔ old = 0xFFFFFFFF#32 := BitVec.toNat_inj (y := 0xFFFFFFFF#32)
    have e := exec_tally ht hr
    simp only [hsat]
    by_cases hold : old = 0xFFFFFFFF#32
    · rw [if_pos hold, decide_eq_true hold]
      exact ⟨_, e.trans (if_pos hold), State.complete_granted_storesOwn hs .mu cx _ _⟩
    · rw [if_neg hold, decide_eq_false hold]
      exact ⟨_, e.trans (if_neg hold), State.complete_granted_stores hs hm .mu cx hr.wordNamed_lt _ _⟩
  · have e := exec_setIfZero ht hr
    by_cases hold : old = 0
    · rw [if_pos hold, if_pos hold]
      exact ⟨_, e.trans (if_pos hold), State.complete_granted_stores hs hm .mu cx hr.wordNamed_lt _ _⟩
    · rw [if_neg hold, if_neg hold]
      exact ⟨_, e.trans (if_neg hold), State.complete_granted_storesOwn hs .mu cx _ _⟩

/-! ### ZERO FILL (R95) -/

theorem exec_zeroFill {s : State} {cx : CtxNum} {n : SegNum} {g : Segment} (ht : s.takes .zeroFill cx)
    (hc : (s.ctx cx).command.counts 4096) (hr : s.reachesSegment cx .write (s.ctx cx).command.count.toNat n g) :
    exec (.zeroFill cx) s = .next ((s.granted .mu cx).modCtx cx fun c =>
      { c with state := .active ⟨n, s.wordNamed cx g, (s.ctx cx).command.count.toNat, 0, none⟩ }) := by
  have hcount : (s.ctx cx).command.countWithin Config.maxSegment = true := (CommandRecord.countWithin_iff _ _).2 hc
  rw [exec, execZeroFill, State.take_of_takes ht, Command.owner]
  dsimp only
  rw [State.granted_ctx, Context.countGrant_command, State.onSegment_granted hcount hr]

/-- A granted request whose context goes on in another state. -/
theorem State.modCtx_state_granted {s : State} (u : UnitId) (cx : CtxNum) (x : CtxState) :
    let t := (s.granted u cx).modCtx cx fun c => { c with state := x }
    s.served t u cx [] [] ∧ (t.ctx cx).seen = { (s.ctx cx).seen with state := x } := by
  refine ⟨State.served_of_granted (by simp) (State.keepsBut_modCtx cx _ _)
    fun c hc => State.modCtx_ctx_ne _ _ _ (by simpa using hc), ?_⟩
  rw [State.modCtx_ctx_self, State.granted_ctx, ← (s.ctx cx).countGrant_seen u]
  rfl

/-- Settles O18: the fill record starts with no word cleared. -/
theorem zeroFillStartsAFill : Obligations.ZeroFillStartsAFill := fun _ cx _ _ ht hc hr =>
  ⟨_, exec_zeroFill ht hc hr, State.modCtx_state_granted .mu cx _⟩

end Sys2Proof.Machine

namespace Sys2Proof.Machine

/-! ### FILL_BURST (R96, R98, R104) -/

section FillBurst
variable {s v t : State} {cx : CtxNum} {f : Fill}

theorem exec_fillBurst (hr : s.resetHeld = false) (hst : (s.ctx cx).state = .active f) (hg : s.grants .mu = some cx)
    (hfit : f.start + f.count ≤ Config.memoryWords) :
    exec (.fillBurst cx) s = .next ((s.granted .mu cx).fillStep cx f) := by
  simp [exec, execFillBurst, State.live, hr, hst, hg, hfit]

theorem State.fillStep_of_stop {reason : StopReason} (h : f.stop = some reason) :
    s.fillStep cx f = s.endFill cx { code := reason.code, aux := auxOf f.zeroed } := by
  rw [State.fillStep, h]

/-- The burst that clears the rest of the range. -/
theorem State.fillStep_last (h : f.stop = none) (hle : f.zeroed ≤ f.count) (hlast : f.count ≤ f.zeroed + 64) :
    s.fillStep cx f = (s.setMemory (s.memory.clearRun (f.start + f.zeroed) (f.count - f.zeroed))).endFill cx
      { code := .ok, aux := auxOf f.count } := by
  have hn : min Config.burstWords (f.count - f.zeroed) = f.count - f.zeroed := min_eq_right (by
    rw [Config.burstWords]; omega)
  rw [State.fillStep, h]
  dsimp only
  rw [hn, if_pos (by omega)]

/-- A burst with words left after it. -/
theorem State.fillStep_goesOn (h : f.stop = none) (hmore : f.zeroed + 64 < f.count) :
    s.fillStep cx f = (s.setMemory (s.memory.clearRun (f.start + f.zeroed) 64)).modCtx cx fun c =>
      { c with state := .active { f with zeroed := f.zeroed + 64 } } := by
  have hn : min Config.burstWords (f.count - f.zeroed) = 64 := min_eq_left (by rw [Config.burstWords]; omega)
  rw [State.fillStep, h]
  dsimp only
  rw [hn, if_neg (by omega)]

/-- The code of a stop reason, as R98 lists them. -/
theorem StopReason.code_eq (r : StopReason) : r.code =
    if r = .segmentChanged then .segmentChanged else if r = .aborted then .aborted else .cancelled := by
  cases r <;> rfl

@[simp] theorem State.endFill_memory (s : State) (cx : CtxNum) (r : Answer) : (s.endFill cx r).memory = s.memory := by
  rw [State.endFill, State.muSettle_memory, State.complete_memory]

/-- A grant shows in no message. -/
theorem State.granted_link_seen (s : State) (u : UnitId) (cx : CtxNum) (p : Port) :
    ((s.granted u cx).link p).seen = (s.link p).seen := by
  rw [State.granted_link, Links.countGrant_seen]

/-- Once the fill of `cx` has ended, MU is free to send the acknowledgement it owes exactly if it was the port's last
fill. -/
theorem State.muSettles_iff_lastFill (howes : (t.link (portOf cx)).muOwesAck = (s.link (portOf cx)).muOwesAck)
    (hdone : (t.ctx cx).state = .done) (hothers : ∀ c, c ≠ cx → (t.ctx c).state = (s.ctx c).state) :
    ((t.link (portOf cx)).muOwesAck && !t.anyOfPort (portOf cx) (fun c => c.state.isActive)) = true ↔
      s.lastFill cx := by
  have hidle : t.anyOfPort (portOf cx) (fun c => c.state.isActive) = false ↔
      ∀ c, ctxOf (portOf cx) c ≠ cx → (s.ctx (ctxOf (portOf cx) c)).state.isActive = false := by
    rw [← Bool.not_eq_true, State.anyOfPort_isActive, not_exists]
    refine forall_congr' fun c => ?_
    by_cases hc : ctxOf (portOf cx) c = cx
    · simp [hc, hdone, CtxState.isActive]
    · simp [hc, hothers _ hc]
  rw [Bool.and_eq_true, Bool.not_eq_true', howes, hidle, State.lastFill]

/-- The end of the fill of `cx`, after a change of the memory alone since the grant. -/
theorem State.endFill_granted (hs : s.settled) (hk : (s.granted .mu cx).keepsBut v [.memory])
    (hctx : ∀ c, v.ctx c = (s.granted .mu cx).ctx c) (hlink : ∀ p, v.link p = (s.granted .mu cx).link p) (r : Answer) :
    let t := v.endFill cx r
    s.served t .mu cx [.memory, .messages] [] ∧ s.keepsMessagesBut t (portOf cx) ∧
      (s.lastFill cx → (t.link (portOf cx)).seen =
        { (s.link (portOf cx)).seen with muOwesAck := false, muAck := true }) ∧
      (¬ s.lastFill cx → (t.link (portOf cx)).seen = (s.link (portOf cx)).seen) ∧ s.ends t cx r := by
  intro t
  obtain ⟨hkeeps, hothers, hends⟩ :=
    State.complete_after (hk.settled (by simp) ((s.granted_settled .mu cx).2 hs)) (hctx cx) r
  have htctx : ∀ c, t.ctx c = (v.complete cx r).ctx c := fun c => State.muSettle_ctx ..
  have hseen : ∀ q, ((v.complete cx r).link q).seen = (s.link q).seen := fun q => by
    rw [State.complete_link, hlink, State.granted_link_seen]
  have hsettles := State.muSettles_iff_lastFill (s := s) (t := v.complete cx r) (cx := cx)
    (by rw [State.complete_link, hlink, State.granted_link]) hends.1 fun c hc => by
      rw [hothers c hc, hctx, State.granted_ctx, Context.countGrant_state]
  have ht : t = _ := State.muSettle_eq (v.complete cx r) (portOf cx)
  refine ⟨State.served_of_granted (by simp) ?_ fun c hc => ?_, fun q hq => ?_, fun hlast => ?_, fun hlast => ?_, ?_⟩
  · exact ((hk.trans (hkeeps _)).mono (by simp)).trans ((State.keepsBut_muSettle _).mono (by simp))
  · rw [htctx, hothers c (by simpa using hc), hctx]
  · have hne : t.link q = (v.complete cx r).link q := State.muSettle_link_ne hq
    rw [hne, hseen]
  · rw [ht, if_pos (hsettles.2 hlast), State.modLink_link_self, ← hseen]
    rfl
  · rw [ht, if_neg (mt hsettles.1 hlast), hseen]
  · rw [State.ends, htctx]
    exact (s.granted_ends _ .mu cx cx r []).1 hends

/-- A fill that goes on, after a change of the memory alone since the grant. -/
theorem State.fillGoesOn_granted (hk : (s.granted .mu cx).keepsBut v [.memory])
    (hctx : ∀ c, v.ctx c = (s.granted .mu cx).ctx c) (hlink : ∀ p, v.link p = (s.granted .mu cx).link p) (f : Fill) :
    let t := v.modCtx cx fun c => { c with state := .active f }
    s.served t .mu cx [.memory, .messages] [] ∧ (∀ p, (t.link p).seen = (s.link p).seen) ∧
      (t.ctx cx).seen = { (s.ctx cx).seen with state := .active f } := by
  refine ⟨State.served_of_granted (by simp) ((hk.trans (State.keepsBut_modCtx cx _ _)).mono (by simp)) fun c hc => ?_,
    fun p => ?_, ?_⟩
  · rw [State.modCtx_ctx_ne _ _ _ (by simpa using hc), hctx]
  · rw [State.modCtx_link, hlink, State.granted_link_seen]
  · rw [State.modCtx_ctx_self, hctx, State.granted_ctx, ← (s.ctx cx).countGrant_seen .mu]
    rfl

end FillBurst

/-- Settles O19: a stopped fill ends; otherwise the burst clears the rest and ends it, or 64 words and it goes on. -/
theorem fillBurstClearsOrEnds : Obligations.FillBurstClearsOrEnds := by
  intro s cx f hs hm hr hst hg hfit hle
  have e := exec_fillBurst hr hst hg hfit
  have hmemory := s.granted_memory .mu cx
  obtain hstop | ⟨reason, hstop⟩ := Option.eq_none_or_eq_some f.stop
  · have hnostop : ∀ r, f.stop ≠ some r := by simp [hstop]
    by_cases hend : f.count ≤ f.zeroed + 64
    · rw [State.fillStep_last hstop hle hend, hmemory] at e
      obtain ⟨hserved, hmessages, hlast, hother, hends⟩ := State.endFill_granted hs
        (State.keepsBut_setMemory (s.memory.clearRun (f.start + f.zeroed) (f.count - f.zeroed)))
        (State.setMemory_ctx _ _) (State.setMemory_link _ _) { code := .ok, aux := auxOf f.count }
      have hcleared : (if f.stop.isSome then 0 else min 64 (f.count - f.zeroed)) = f.count - f.zeroed := by
        rw [hstop, Option.isSome_none, if_neg (by simp)]
        omega
      refine ⟨_, e, hserved, hmessages, ?_, fun _ => hlast, fun h => hother fun hl => h ⟨by simp [hend], hl⟩,
        fun r hr => absurd hr (hnostop r), fun _ _ => hends, fun _ hmore => absurd hend (by omega)⟩
      rw [hcleared]
      exact State.storesWords_clearRun hm (State.endFill_memory ..)
    · rw [State.fillStep_goesOn hstop (by omega), hmemory] at e
      obtain ⟨hserved, hmessages, hgoes⟩ := State.fillGoesOn_granted
        (State.keepsBut_setMemory (s.memory.clearRun (f.start + f.zeroed) 64))
        (State.setMemory_ctx _ _) (State.setMemory_link _ _) { f with zeroed := f.zeroed + 64 }
      have hcleared : (if f.stop.isSome then 0 else min 64 (f.count - f.zeroed)) = 64 := by
        rw [hstop, Option.isSome_none, if_neg (by simp)]
        omega
      refine ⟨_, e, hserved, fun q _ => hmessages q, ?_, fun h => ?_, fun _ => hmessages _,
        fun r hr => absurd hr (hnostop r), fun _ h => absurd h hend, fun _ _ => hgoes⟩
      · rw [hcleared]
        exact State.storesWords_clearRun hm (State.modCtx_memory ..)
      · simp [hstop, hend] at h
  · have hstops : f.stop ≠ none := by simp [hstop]
    rw [State.fillStep_of_stop hstop] at e
    obtain ⟨hserved, hmessages, hlast, hother, hends⟩ := State.endFill_granted hs
      (State.keepsBut_refl (s.granted .mu cx) _) (fun _ => rfl) (fun _ => rfl) { code := reason.code, aux := auxOf f.zeroed }
    have hcleared : (if f.stop.isSome then 0 else min 64 (f.count - f.zeroed)) = 0 := by
      rw [hstop, Option.isSome_some, if_pos rfl]
    refine ⟨_, e, hserved, hmessages, ?_, fun _ => hlast, fun h => hother fun hl => h ⟨by simp [hstop], hl⟩,
      fun r hr => ?_, fun hnone => absurd hnone hstops, fun hnone => absurd hnone hstops⟩
    · rw [hcleared]
      exact State.storesWords_of_same ((State.endFill_memory ..).trans hmemory) _
    · obtain rfl := Option.some.inj (hstop.symm.trans hr)
      rwa [← StopReason.code_eq]

/-! ### Segment commands (R100, R101) -/

section Segments
variable {s : State} {cx : CtxNum} {n : SegNum}

theorem State.fillsOf_eq (s : State) (n : SegNum) : s.fillsOf n = (s.fillsOn n).length := rfl

/-- A grant stops no fill. -/
@[simp] theorem State.granted_fillsOn (s : State) (u : UnitId) (cx : CtxNum) (n : SegNum) :
    (s.granted u cx).fillsOn n = s.fillsOn n := by
  simp [State.fillsOn]

theorem State.mem_fillsOn {c : CtxNum} : c ∈ s.fillsOn n ↔ ∃ f, (s.ctx c).state = .active f ∧ f.segment = n := by
  rw [State.fillsOn, List.mem_filter]
  cases (s.ctx c).state <;> simp

/-- A fill of the segment gets the stop reason. -/
theorem Context.stopFill_of_names {c : Context} {f : Fill} (h : c.state = .active f) (hf : f.segment = n)
    (r : StopReason) : c.stopFill (Fill.names n) r = { c with state := .active (f.stoppedBy r) } := by
  simp [Context.stopFill, h, Fill.names, hf, Fill.stopped_eq]

/-- A context without a fill of the segment is left. -/
theorem Context.stopFill_of_not_names {c : Context} (h : ∀ f, c.state = .active f → f.segment ≠ n) (r : StopReason) :
    c.stopFill (Fill.names n) r = c := by
  cases hst : c.state with
  | active f => simp [Context.stopFill, hst, Fill.names, h f hst]
  | _ => simp [Context.stopFill, hst]

theorem State.changeSegment_ctx (s : State) (n : SegNum) (e : Option Segment) (c : CtxNum) :
    (s.changeSegment n e).ctx c = (s.ctx c).stopFill (Fill.names n) .segmentChanged := by
  rw [State.changeSegment, State.mapCtxs_ctx, State.setSeg_ctx]

theorem State.changeSegment_seg (s : State) (n : SegNum) (e : Option Segment) (k : SegNum) :
    (s.changeSegment n e).seg k = if k = n then e else s.seg k := by
  rw [State.changeSegment, State.mapCtxs_seg, State.setSeg_seg]

/-- A granted request that replaces a segment's entry and ends. -/
theorem State.changeSegment_complete_granted (hs : s.settled) (hst : (s.ctx cx).state = .pending .mu) (n : SegNum)
    (e : Option Segment) (r : Answer) :
    let t := ((s.granted .mu cx).changeSegment n e).complete cx r
    s.served t .mu cx [.segments] (s.fillsOn n) ∧ t.seg n = e ∧ s.keepsSegmentsBut t n ∧
      (∀ c f, (s.ctx c).state = .active f → f.segment = n →
        (t.ctx c).seen = { (s.ctx c).seen with state := .active (f.stoppedBy .segmentChanged) }) ∧
      s.ends t cx r := by
  intro t
  have hkseg : (s.granted .mu cx).keepsBut ((s.granted .mu cx).changeSegment n e) [.segments] :=
    (State.keepsBut_setSeg n e).trans (State.keepsBut_mapCtxs _ _)
  have hctx := (s.granted .mu cx).changeSegment_ctx n e
  have hseg : ∀ k, t.seg k = if k = n then e else s.seg k := fun k => by
    rw [State.complete_seg, State.changeSegment_seg, State.granted_seg]
  have hown : ((s.granted .mu cx).changeSegment n e).ctx cx = (s.granted .mu cx).ctx cx := by
    rw [hctx, Context.stopFill_of_not_names]
    simp [hst]
  obtain ⟨hkeeps, hothers, hends⟩ :=
    State.complete_after (hkseg.settled (by simp) ((s.granted_settled .mu cx).2 hs)) hown r
  refine ⟨State.served_of_granted (by simp) (hkseg.trans (hkeeps _)) fun c hc => ?_, ?_, fun k hk => ?_,
    fun c f hf hn => ?_, (s.granted_ends _ .mu cx cx r []).1 hends⟩
  · obtain ⟨hne, hnot⟩ := not_or.1 (mt List.mem_cons.2 hc)
    rw [hothers c hne, hctx, Context.stopFill_of_not_names]
    intro f hf hn
    exact hnot (State.mem_fillsOn.2 ⟨f, by simpa using hf, hn⟩)
  · rw [hseg, if_pos rfl]
  · rw [hseg, if_neg hk]
  · have hne : c ≠ cx := by
      rintro rfl
      rw [hst] at hf
      exact nomatch hf
    rw [hothers c hne, hctx, Context.stopFill_of_names (f := f) (by simpa using hf) hn, State.granted_ctx,
      ← (s.ctx c).countGrant_seen .mu]
    rfl

/-- The target of a DEFINE SEGMENT with every field in range. -/
theorem defineTarget_eq_some {r : CommandRecord} (ho : r.object.toNat = n.val) (hc : r.counts 4096)
    (hfit : (r.operand.extractLsb' 0 14).toNat + r.count.toNat ≤ 16384) : defineTarget r = some n := by
  have hcount : r.countWithin Config.maxSegment = true := (CommandRecord.countWithin_iff _ _).2 hc
  have hin : decide ((baseField r.operand).toNat + r.count.toNat ≤ Config.memoryWords) = true := decide_eq_true hfit
  rw [defineTarget, hcount, Bool.true_and, if_pos hin, CommandRecord.segNum_eq ho]

/-- The entry that a DEFINE SEGMENT of these fields makes (R100). -/
def segmentDefined (op : Word) (count : BitVec 13) : Segment :=
  ⟨op.extractLsb' 0 14, count, op.extractLsb' 20 12, ⟨op.getLsbD 16, op.getLsbD 17, op.getLsbD 18⟩⟩

theorem exec_defineSegment (ht : s.takes .defineSegment cx) (hp : portOf cx = s.managerPort)
    (htarget : defineTarget (s.ctx cx).command = some n) :
    exec (.defineSegment cx) s = .next (((s.granted .mu cx).changeSegment n
      (some (segmentDefined (s.ctx cx).command.operand (s.ctx cx).command.count))).complete cx
        { code := .ok, aux := auxOf (s.fillsOn n).length }) := by
  rw [exec, execDefineSegment, State.take_of_takes ht, Command.owner]
  dsimp only
  rw [State.asManager_of_manager (hp.trans (s.granted_managerPort .mu cx).symm), State.granted_ctx,
    Context.countGrant_command, htarget, State.onTarget_some, State.fillsOf_eq, State.granted_fillsOn]
  rfl

theorem exec_clearSegment (ht : s.takes .clearSegment cx) (hp : portOf cx = s.managerPort)
    (ho : (s.ctx cx).command.object.toNat = n.val) :
    exec (.clearSegment cx) s = .next (((s.granted .mu cx).changeSegment n none).complete cx
      { code := .ok, value := if (s.seg n).isSome then 1 else 0, aux := auxOf (s.fillsOn n).length }) := by
  rw [exec, execClearSegment, State.take_of_takes ht, Command.owner,
    State.asManager_of_manager (hp.trans (s.granted_managerPort .mu cx).symm), State.granted_ctx,
    Context.countGrant_command, CommandRecord.segNum_eq ho, State.onTarget_some, State.granted_seg, State.fillsOf_eq,
    State.granted_fillsOn]

end Segments

/-- Settles O20: the entry, its fills and the count, for both commands. -/
theorem segmentCommandsReplaceTheEntry : Obligations.SegmentCommandsReplaceTheEntry := by
  intro s cx n hs hp ho op stops
  refine ⟨fun ht hc hfit => ?_, fun ht => ?_⟩
  · obtain ⟨-, hst, -, -⟩ := id ht
    exact ⟨_, exec_defineSegment ht hp (defineTarget_eq_some ho hc hfit),
      State.changeSegment_complete_granted hs hst n _ _⟩
  · obtain ⟨-, hst, -, -⟩ := id ht
    exact ⟨_, exec_clearSegment ht hp ho, State.changeSegment_complete_granted hs hst n _ _⟩

/-! ### The end of the memory clear (R106, R131) -/

section Clear
variable {s : State}

theorem exec_memoryClearDone (hr : s.resetHeld = false) (hc : s.clearing = true) :
    exec .memoryClearDone s = .next { s with memory := [], clearing := false, clearReport := true } := by
  simp [exec, execMemoryClearDone, State.live, hr, hc]

theorem exec_chipReady (hr : s.resetHeld = false) (hreport : s.clearReport = true) (hmid : s.midStep .su = false) :
    exec .chipReady s = .next { s with clearReport := false, phase := .ready } := by
  simp [exec, execChipReady, State.live, hr, hreport, hmid]

end Clear

/-- Settles O10: the two events, part by part. -/
theorem clearEndsInReady : Obligations.ClearEndsInReady := by
  refine ⟨fun s hr hc => ⟨_, exec_memoryClearDone hr hc, fun _ => rfl, rfl, rfl, rfl, rfl, hr, rfl, rfl, rfl,
    fun q hq => ?_⟩, fun s hr hreport hmid => ⟨_, exec_chipReady hr hreport hmid, rfl, rfl, rfl, rfl, hr, rfl, rfl, rfl,
    fun q hq => ?_⟩⟩
  · cases q <;> simp [State.keeps, State.link] at hq ⊢
  · cases q <;> simp [State.keeps, State.link] at hq ⊢

end Sys2Proof.Machine

namespace Sys2Proof.Machine

/-! ## SET PORT KEYS and EVICT PORT (R108, R125) -/

section KeysAndEvictions
variable {s v : State} {u : UnitId} {cx : CtxNum} {p : Port} {A : List Part}

theorem State.keepsBut_setKeyPair (p : Port) (k : KeyPair) : s.keepsBut (s.setKeyPair p k) [.keys] :=
  ⟨rfl, fun q hq => by cases q <;> simp [State.keeps] at hq ⊢⟩

/-- A granted request that changes the parts `A`, leaves the contexts and ends. -/
theorem State.complete_granted_after (hs : s.settled) (hports : Part.ports ∉ A) (harbiters : Part.arbiters ∉ A)
    (hkeeps : (s.granted u cx).keepsBut v A) (hctx : ∀ c, v.ctx c = (s.granted u cx).ctx c) (r : Answer) :
    s.served (v.complete cx r) u cx A [] ∧ s.ends (v.complete cx r) cx r := by
  have hsettled : v.settled := hkeeps.settled hports ((s.granted_settled u cx).2 hs)
  obtain ⟨hcomplete, hothers, hends⟩ := State.complete_after hsettled (hctx cx) r
  exact ⟨State.served_of_granted harbiters (hkeeps.trans (hcomplete A)) fun c hc =>
    (hothers c (by simpa using hc)).trans (hctx c), (s.granted_ends _ u cx cx r []).1 hends⟩

/-- What VALUE packs for SET PORT KEYS (R166, R167). -/
theorem KeyPair.word_fields (k : KeyPair) :
    k.word.extractLsb' 0 12 = k.primary ∧ k.word.extractLsb' 12 4 = 0 ∧ k.word.extractLsb' 16 12 = k.alternate ∧
      k.word.extractLsb' 28 4 = 0 := by
  simp [KeyPair.word, BitVec.extractLsb'_or]

theorem exec_setPortKeys (ht : s.takes .setPortKeys cx) (hm : portOf cx = s.managerPort)
    (hp : (s.ctx cx).command.object.toNat = p.val) :
    exec (.setPortKeys cx) s = .next (((s.granted .su cx).setKeyPair p
      (keyPairField (s.ctx cx).command.operand)).complete cx { code := .ok, value := (s.keyPair p).word }) := by
  rw [exec, execSetPortKeys, State.take_of_takes ht, Command.owner]
  dsimp only
  rw [State.asManager_of_manager (hm.trans (s.granted_managerPort .su cx).symm), State.granted_ctx,
    Context.countGrant_command, CommandRecord.portNum_eq hp, State.onTarget_some, State.granted_keyPair]

/-- The target of an EVICT PORT that names a port other than the manager's (R125). -/
theorem State.evictTarget_eq_some {r : CommandRecord} (hp : r.object.toNat = p.val) (hne : p ≠ s.managerPort) :
    s.evictTarget r = some p := by
  rw [State.evictTarget, CommandRecord.portNum_eq hp]
  exact if_neg hne

theorem exec_evictPort (ht : s.takes .evictPort cx) (hm : portOf cx = s.managerPort)
    (hp : (s.ctx cx).command.object.toNat = p.val) (hne : p ≠ s.managerPort) :
    exec (.evictPort cx) s = .next (((s.granted .su cx).modLink p fun k =>
      { k with evictions := k.evictions + 1 }).complete cx { code := .ok }) := by
  have htarget : (s.granted .su cx).evictTarget (s.ctx cx).command = some p :=
    State.evictTarget_eq_some hp (by rwa [State.granted_managerPort])
  rw [exec, execEvictPort, State.take_of_takes ht, Command.owner,
    State.asManager_of_manager (hm.trans (s.granted_managerPort .su cx).symm), State.granted_ctx,
    Context.countGrant_command, htarget, State.onTarget_some]

/-- A further eviction order, on the link that a grant has left, shows as one on the link before it. -/
theorem State.granted_link_evictions_seen (s : State) (u : UnitId) (cx : CtxNum) (p : Port) (n : Nat) :
    Links.seen { (s.granted u cx).link p with evictions := n } = { (s.link p).seen with evictions := n } := by
  rw [← s.granted_link_seen u cx p]
  rfl

end KeysAndEvictions

/-- Settles O39: the new pair and the old one in VALUE; then one further eviction order on the link of the port. -/
theorem setPortKeysAndEvictPort : Obligations.SetPortKeysAndEvictPort := by
  intro s cx p hs hm hp
  refine ⟨fun ht => ?_, fun ht hne => ?_⟩
  · obtain ⟨hserved, hends⟩ := State.complete_granted_after hs (by simp) (by simp)
      (State.keepsBut_setKeyPair p (keyPairField (s.ctx cx).command.operand)) (State.setKeyPair_ctx _ p _)
      { code := .ok, value := (s.keyPair p).word }
    refine ⟨_, _, exec_setPortKeys ht hm hp, hserved, ?_, fun q hq => ?_, hends, (s.keyPair p).word_fields⟩
    · rw [State.complete_keyPair, State.setKeyPair_keyPair_self, keyPairField]
    · rw [State.complete_keyPair, State.setKeyPair_keyPair_ne _ _ _ hq, State.granted_keyPair]
  · obtain ⟨hserved, hends⟩ := State.complete_granted_after hs (by simp) (by simp)
      (State.keepsBut_modLink p fun k => { k with evictions := k.evictions + 1 }) (State.modLink_ctx _ p _)
      { code := .ok }
    refine ⟨_, exec_evictPort ht hm hp hne, hserved, fun q hq => ?_, ?_, hends⟩
    · rw [State.complete_link, State.modLink_link_ne _ _ _ hq, State.granted_link_seen]
    · rw [State.complete_link, State.modLink_link_self, State.granted_link_evictions_seen, State.granted_link]

end Sys2Proof.Machine

namespace Sys2Proof.Machine

/-! ## RESETn held low (R130, R168) -/

section ResetHeld
variable {s : State}

/-- While RESETn is low the part is not live: a guarded event changes nothing. -/
theorem State.live_of_resetHeld (hr : s.resetHeld = true) (o : Out) : s.live o = .next s :=
  if_pos hr

theorem State.take_of_resetHeld (hr : s.resetHeld = true) (c : Command) (cx : CtxNum) (k : State → Out) :
    s.take c cx k = .next s :=
  State.take_of_not_takes (fun ⟨hlow, _⟩ => Bool.noConfusion (hr.symm.trans hlow)) k

theorem State.not_takesWord_of_resetHeld (hr : s.resetHeld = true) (p : Port) (dir : Direction) (a : WindowAddr) :
    ¬ s.takesWord p dir a :=
  fun ⟨hlow, _⟩ => Bool.noConfusion (hr.symm.trans hlow)

theorem State.word_of_resetHeld (hr : s.resetHeld = true) (p : Port) (dir : Direction) (a : WindowAddr)
    (act : State → State) : s.word p dir a act = .next s := by
  have hword := State.not_takesWord_of_resetHeld hr p dir a
  rcases s.word_cases p dir a act with e | ⟨ht, -⟩ | ⟨ht, -⟩
  · exact e
  · exact absurd ht hword
  · exact absurd ht hword

theorem State.readWord_of_resetHeld (hr : s.resetHeld = true) (p : Port) (a : WindowAddr) (part : ReadPart) :
    s.readWord p a part = .next s := by
  have hhigh : s.resetHeld ≠ false := by simp [hr]
  rcases s.readWord_cases p a part with e | ⟨⟨hlow, -⟩, -⟩ | ⟨_, ⟨hlow, -⟩, -⟩ | ⟨⟨ht, -⟩, -⟩
  · exact e
  · exact absurd hlow hhigh
  · exact absurd hlow hhigh
  · exact absurd ht (State.not_takesWord_of_resetHeld hr p .read a)

theorem execRegisterWrite_of_resetHeld (hr : s.resetHeld = true) (p : Port) (place : WordPlace) (w : Word) :
    execRegisterWrite p place w s = .next s := by
  unfold execRegisterWrite
  split
  · exact State.word_of_resetHeld hr ..
  · split
    · exact State.word_of_resetHeld hr ..
    · rfl

theorem execForceRelease_of_resetHeld (hr : s.resetHeld = true) (part : ForcedStep) :
    execForceRelease part s = .next s := by
  cases part with
  | whole cx | starts cx => rw [execForceRelease, State.take_of_resetHeld hr]
  | ends cx => rw [execForceRelease, State.live_of_resetHeld hr]

theorem execInspectPort_of_resetHeld (hr : s.resetHeld = true) (cx : CtxNum) (part : InspectPart) :
    execInspectPort cx part s = .next s := by
  cases part with
  | whole => rw [execInspectPort, State.take_of_resetHeld hr]
  | item i =>
    rw [execInspectPort, State.inspectItem]
    split
    · rw [State.live_of_resetHeld hr]
    · rw [State.take_of_resetHeld hr]

/-- While RESETn is low no command acts but the pins' own: each other one is a word, a request or a guarded event. -/
theorem exec_of_resetHeld (hr : s.resetHeld = true) (i : Instr) (hassert : i ≠ .resetAssert)
    (hrelease : ∀ u, i ≠ .resetRelease u) (hheader : ∀ p b, i ≠ .headerByte p b)
    (hshort : ∀ p b, i ≠ .frameShort p b) : exec i s = .next s := by
  cases i with
  | resetAssert => exact absurd rfl hassert
  | resetRelease straps => exact absurd rfl (hrelease straps)
  | headerByte p part => exact absurd rfl (hheader p part)
  | frameShort p bits => exact absurd rfl (hshort p bits)
  | dataRead place part =>
    cases place with
    | data cx => rw [exec, execDataRead, State.readWord_of_resetHeld hr]
    | register p a => rw [exec, execDataRead, State.readWord_of_resetHeld hr]
  | logRead p part => rw [exec, execLogRead, State.readWord_of_resetHeld hr]
  | registerWrite p place w => exact execRegisterWrite_of_resetHeld hr ..
  | go | ack | abort | attach | detach | portReset | dataWrite | overflowClear | leaseLostClear | windowErrorClear
  | dataFlagClear | spaceFlagClear | eventEnablesWrite | intConfigWrite =>
    simp only [exec, execGo, execAck, execAbort, execAttach, execDetach, execPortReset, execDataWrite,
      execOverflowClear, execLeaseLostClear, execWindowErrorClear, execDataFlagClear, execSpaceFlagClear,
      execEventEnablesWrite, execIntConfigWrite, State.word_of_resetHeld hr]
  | forceRelease part => exact execForceRelease_of_resetHeld hr part
  | inspectPort cx part => exact execInspectPort_of_resetHeld hr cx part
  | read | write | readGroup | writeGroup | tally | setIfZero | zeroFill | defineSegment | clearSegment | inspectSegment
  | acquire | release | renew | inspectLock | setLock | send | receive | inspectChannel | bindChannel | unbindChannel
  | setPortKeys | setTick | evictPort | chipReset =>
    simp only [exec, execRead, execWrite, execReadGroup, execWriteGroup, execTally, execSetIfZero, execZeroFill,
      execDefineSegment, execClearSegment, execInspectSegment, execAcquire, execRelease, execRenew, execInspectLock,
      execSetLock, execSend, execReceive, execInspectChannel, execBindChannel, execUnbindChannel, execSetPortKeys,
      execSetTick, execEvictPort, execChipReset, State.take_of_resetHeld hr]
  | evictionOrder | withdrawalAck | fillBurst | memoryClearDone | chipReady | periodEnd | luTick | lockWaitTimeout
  | leaseExpiry | cuTick | channelWaitTimeout | abortNoticePending | lockWaitAbort | channelWaitAbort | fillAbort
  | muWithdrawalNotice | luWithdrawalNotice | cuWithdrawalNotice | suWithdrawalNotice | revocationRecordArrival
  | flagSettingArrival | flagClearingArrival =>
    simp only [exec, execEvictionOrder, execWithdrawalAck, execFillBurst, execMemoryClearDone, execChipReady,
      execPeriodEnd, execLuTick, execLockWaitTimeout, execLeaseExpiry, execCuTick, execChannelWaitTimeout,
      execAbortNoticePending, execLockWaitAbort, execChannelWaitAbort, execFillAbort, execMuWithdrawalNotice,
      execLuWithdrawalNotice, execCuWithdrawalNotice, execSuWithdrawalNotice, execRevocationRecordArrival,
      execFlagSettingArrival, execFlagClearingArrival, State.onLuTick, State.withdrawalNotice,
      State.live_of_resetHeld hr]

/-- An OFFLINE port asserts nothing, and at reset its INTn is active low (R151, R152). -/
theorem State.intLevel_of_atReset {p : Port} (h : (s.port p).atReset) : s.intLevel p = true := by
  obtain ⟨hstate, -, -, -, -, -, -, -, -, hpolarity, -⟩ := h
  have hasserted : s.intAsserted p = false := by
    rw [State.intAsserted, hstate]
    rfl
  rw [State.intLevel, hpolarity, hasserted]
  rfl

theorem State.dataOutput_of_resetHeld (hr : s.resetHeld = true) (p : Port) : s.dataOutput p = .highImpedance :=
  if_pos hr

/-- Every block held at its reset values by RESETn (R130). -/
def State.heldAtReset (s : State) : State := { s.atResetValues with resetHeld := true }

theorem exec_resetAssert (s : State) : exec .resetAssert s = .next s.heldAtReset := rfl

theorem State.heldAtReset_blocksAtReset (s : State) : s.heldAtReset.blocksAtReset := s.atResetValues_blocksAtReset

theorem State.cutFrames_heldAtReset (s : State) : s.cutFrames s.heldAtReset := s.cutFrames_chipResetEvent s.straps

/-- The pins of a port while RESETn is low (R130, R168). -/
theorem State.heldAtReset_pins (s : State) (p : Port) :
    s.heldAtReset.intLevel p = true ∧ s.heldAtReset.dataOutput p = .highImpedance := by
  obtain ⟨-, hports, -⟩ := s.heldAtReset_blocksAtReset
  exact ⟨State.intLevel_of_atReset (hports p), State.dataOutput_of_resetHeld rfl p⟩

end ResetHeld

/-- Settles O9: the state that RESET_ASSERT leaves, and what each command then meets. -/
theorem resetHeldLow : Obligations.ResetHeldLow :=
  ⟨fun s => ⟨_, exec_resetAssert s, s.heldAtReset_blocksAtReset, s.cutFrames_heldAtReset, rfl, rfl, rfl, rfl,
    s.heldAtReset_pins⟩, fun _ i hr => exec_of_resetHeld hr i⟩

end Sys2Proof.Machine

namespace Sys2Proof.Machine

/-! ## The tick generator (R119 to R123) -/

section Generator
variable {s : State} {cx : CtxNum}

theorem State.keepsBut_setTickGenerator (s : State) (enable : Bool) (code : PeriodCode) :
    s.keepsBut (s.setTickGenerator enable code) [.generator] :=
  ⟨rfl, fun q hq => by cases q <;> simp [State.keeps, State.setTickGenerator, State.link] at hq ⊢⟩

/-- A period goes on only of a generator that runs on with the code it has (R122). -/
theorem State.setTickGenerator_period (s : State) (enable : Bool) (code : PeriodCode) :
    (s.setTickGenerator enable code).period = if enable = false then none
      else if s.period ≠ none ∧ s.periodCode = code then s.period else some code := by
  cases enable with
  | false => rfl
  | true => simp [State.setTickGenerator, Option.isSome_iff_ne_none]

/-- What VALUE packs for SET TICK (R122, R167). -/
theorem tickWord_fields (running : Bool) (code : PeriodCode) :
    (tickWord running code).extractLsb' 0 2 = code ∧ (tickWord running code).extractLsb' 2 2 = 0 ∧
      (tickWord running code).getLsbD 4 = running ∧ (tickWord running code).extractLsb' 5 27 = 0 := by
  simp [tickWord, BitVec.extractLsb'_or]

theorem exec_setTick (ht : s.takes .setTick cx) (hm : portOf cx = s.managerPort) :
    exec (.setTick cx) s = .next (((s.granted .su cx).setTickGenerator (tickEnableField (s.ctx cx).command.operand)
      (periodCodeField (s.ctx cx).command.operand)).complete cx
        { code := .ok, value := tickWord s.period.isSome s.periodCode }) := by
  rw [exec, execSetTick, State.take_of_takes ht, Command.owner]
  dsimp only
  rw [State.asManager_of_manager (hm.trans (s.granted_managerPort .su cx).symm), State.granted_ctx,
    Context.countGrant_command, State.granted_period, State.granted_periodCode]

/-- The end of a period: the next epoch, and its tick event sent to LU and to CU (R120). -/
def State.tickDelivered (s : State) : State :=
  { s with
    epoch := s.epoch + 1
    luTicks := s.luTicks ++ [⟨s.epoch + 1, .start⟩]
    cuTicks := s.cuTicks + 1
    period := some s.periodCode }

theorem State.keepsBut_tickDelivered (s : State) : s.keepsBut s.tickDelivered [.luTicks, .cuTicks, .generator] :=
  ⟨rfl, fun q hq => by cases q <;> simp [State.keeps, State.tickDelivered, State.link] at hq ⊢⟩

theorem exec_periodEnd {code : PeriodCode} (hr : s.resetHeld = false) (hp : s.period = some code)
    (hmid : s.midStep .su = false) : exec .periodEnd s = .next s.tickDelivered := by
  simp [exec, execPeriodEnd, State.live, State.tickDelivered, hr, hp, hmid]

end Generator

/-- Settles O32: SET TICK sets the generator, then answers with the one before it; PERIOD_END delivers the ticks. -/
theorem tickGenerator : Obligations.TickGenerator := by
  refine ⟨fun s cx hs ht hm => ?_, fun s code hr hp hmid =>
    ⟨_, exec_periodEnd hr hp hmid, rfl, s.keepsBut_tickDelivered, rfl, rfl, rfl, rfl, rfl, rfl⟩⟩
  intro w
  obtain ⟨hserved, hends⟩ := State.complete_granted_after hs (by simp) (by simp)
    (State.keepsBut_setTickGenerator (s.granted .su cx) (tickEnableField w) (periodCodeField w)) (fun _ => rfl)
    { code := .ok, value := tickWord s.period.isSome s.periodCode }
  refine ⟨_, _, exec_setTick ht hm, hserved, ?_, ?_, ?_, hends, tickWord_fields s.period.isSome s.periodCode⟩
  · rw [State.complete_epoch]
    rfl
  · rw [State.complete_periodCode]
    rfl
  · rw [State.complete_period, State.setTickGenerator_period, State.granted_period, State.granted_periodCode,
      tickEnableField, periodCodeField]

end Sys2Proof.Machine

namespace Sys2Proof.Machine

/-! ## The beginning of a withdrawal (R136, R138, R142) -/

/-- From `s` to `t` the withdrawal of port `p` begins: WITHDRAWING with no acknowledgement, and a notice to each unit.
The frame and the eviction orders then standing are given, and all else is as it was. -/
def State.beginsWithdrawal (s t : State) (p : Port) (mark : Bool) (frame : Frame) (evictions : Nat) : Prop :=
  t.contexts = s.contexts ∧ s.keepsBut t [.ports, .messages] ∧ s.keepsPortsBut t p ∧
    t.port p = { s.port p with state := .withdrawing ⟨false, false, false, false⟩ mark, frame := frame } ∧
    (∀ q, q ≠ p → t.link q = s.link q) ∧
    t.link p = { s.link p with notices := ⟨.inTransit, .inTransit, .inTransit, .inTransit⟩, evictions := evictions }

section Begins
variable {s t : State} {p : Port} {mark : Bool} {f : Frame} {n : Nat}

theorem State.beginsWithdrawal_beginWithdrawal (s : State) (p : Port) (mark : Bool) :
    s.beginsWithdrawal (s.beginWithdrawal p mark) p mark (s.port p).frame (s.link p).evictions :=
  ⟨rfl, ((State.keepsBut_modPort p _).mono (by simp)).trans ((State.keepsBut_modLink p _).mono (by simp)),
    fun q hq => by simp [State.beginWithdrawal, hq], by simp [State.beginWithdrawal, PerUnit.all],
    fun q hq => by simp [State.beginWithdrawal, hq], by simp [State.beginWithdrawal, PerUnit.all]⟩

/-- The word that began the withdrawal then moves its frame on. -/
theorem State.beginsWithdrawal.setFrame (h : s.beginsWithdrawal t p mark f n) (f' : Frame) :
    s.beginsWithdrawal (t.setFrame p f') p mark f' n := by
  obtain ⟨hctxs, hkeeps, hothers, hport, hlinks, hlink⟩ := h
  refine ⟨(t.setFrame_contexts p f').trans hctxs, hkeeps.trans ((State.keepsBut_modPort p _).mono (by simp)),
    fun q hq => (t.setFrame_port_ne f' hq).trans (hothers q hq), ?_,
    fun q hq => (t.setFrame_link p f' q).trans (hlinks q hq), (t.setFrame_link p f' p).trans hlink⟩
  rw [State.setFrame_port_self, hport]

/-- The eviction order that began the withdrawal has left its link before. -/
theorem State.beginsWithdrawal.of_evictions {m : Nat}
    (h : (s.modLink p fun k => { k with evictions := m }).beginsWithdrawal t p mark f n) :
    s.beginsWithdrawal t p mark f n := by
  obtain ⟨hctxs, hkeeps, hothers, hport, hlinks, hlink⟩ := h
  refine ⟨hctxs, ((State.keepsBut_modLink p _).mono (by simp)).trans hkeeps, hothers, hport,
    fun q hq => (hlinks q hq).trans (State.modLink_link_ne _ _ _ hq), ?_⟩
  rw [hlink, State.modLink_link_self]

/-- A word of PORT CONTROL whose action begins the withdrawal. -/
theorem State.word_beginsWithdrawal (h : s.takesWord p .write 0x02) {act : State → State}
    (hact : act s = s.beginWithdrawal p mark) : ∃ t, s.word p .write 0x02 act = .next t ∧
      s.beginsWithdrawal t p mark ((s.port p).frame.afterWord .write 0x02) (s.link p).evictions := by
  have hbegins := s.beginsWithdrawal_beginWithdrawal p mark
  rw [← hact] at hbegins
  obtain ⟨-, -, -, hport, -⟩ := id hbegins
  exact ⟨_, State.word_eq h (by rw [hport]), hbegins.setFrame _⟩

theorem State.detachAction_of_online (h : (s.port p).state = .online) :
    s.detachAction p = s.beginWithdrawal p false := by
  rw [State.detachAction, h]

theorem State.portResetAction_of_online (h : (s.port p).state = .online) :
    s.portResetAction p = s.beginWithdrawal p true := by
  rw [State.portResetAction, h]

theorem exec_evictionOrder (hr : s.resetHeld = false) (hn : (s.link p).evictions = n + 1) :
    exec (.evictionOrder p) s = .next ((s.modLink p fun k => { k with evictions := n }).detachAction p) := by
  simp [exec, execEvictionOrder, State.live, hr, hn]

theorem exec_evictionOrder_beginsWithdrawal (hp : (s.port p).state = .online) (hr : s.resetHeld = false)
    (hn : (s.link p).evictions = n + 1) :
    ∃ t, exec (.evictionOrder p) s = .next t ∧ s.beginsWithdrawal t p false (s.port p).frame n := by
  let u : State := s.modLink p fun k => { k with evictions := n }
  have hbegins := u.beginsWithdrawal_beginWithdrawal p false
  rw [State.modLink_link_self, ← State.detachAction_of_online (s := u) hp] at hbegins
  exact ⟨_, exec_evictionOrder hr hn, hbegins.of_evictions⟩

end Begins

/-- Settles O42: the two words of PORT CONTROL, then the eviction order. -/
theorem withdrawalBegins : Obligations.WithdrawalBegins := fun _ p hp =>
  ⟨fun h => State.word_beginsWithdrawal h (act := fun s => s.detachAction p) (State.detachAction_of_online hp),
    fun h => State.word_beginsWithdrawal h (act := fun s => s.portResetAction p) (State.portResetAction_of_online hp),
    fun _ hr hn => exec_evictionOrder_beginsWithdrawal hp hr hn⟩

end Sys2Proof.Machine

namespace Sys2Proof.Machine

/-! ## ATTACH by port state and phase (R134, R135, R148) -/

section Attach
variable {s : State} {p : Port}

theorem State.attachAction_of_ready (h : (s.port p).state = .offline) (hr : s.phase = .ready) :
    s.attachAction p = s.attached p := by
  rw [State.attachAction, h, hr]

/-- The port states and phases in which ATTACH is refused (R134). -/
def State.refusesAttach (s : State) (p : Port) : Prop :=
  ((s.port p).state = .offline ∧ s.phase = .init) ∨ ∃ acks mark, (s.port p).state = .withdrawing acks mark

theorem State.attachAction_of_refuses (h : s.refusesAttach p) :
    s.attachAction p = s.windowRefusal p .attachRefused portControlAddr := by
  rcases h with ⟨h, hi⟩ | ⟨acks, mark, h⟩
  · rw [State.attachAction, h, hi]
  · rw [State.attachAction, h]

theorem State.attachAction_of_online (h : (s.port p).state = .online) : s.attachAction p = s := by
  rw [State.attachAction, h]

/-- Every port is in one of the three cases of ATTACH. -/
theorem State.attach_cases (s : State) (p : Port) :
    ((s.port p).state = .offline ∧ s.phase = .ready) ∨ s.refusesAttach p ∨ (s.port p).state = .online := by
  cases h : (s.port p).state with
  | offline => cases hph : s.phase with
    | ready => exact .inl ⟨rfl, rfl⟩
    | init => exact .inr (.inl (.inl ⟨h, hph⟩))
  | withdrawing acks mark => exact .inr (.inl (.inr ⟨acks, mark, h⟩))
  | online => exact .inr (.inr rfl)

/-- ATTACH changes the interface of its port, and of this not the frame. -/
theorem State.attachAction_eq_modPort (s : State) (p : Port) :
    ∃ f, s.attachAction p = s.modPort p f ∧ (f (s.port p)).frame = (s.port p).frame := by
  rcases s.attach_cases p with ⟨h, hr⟩ | h | h
  · exact ⟨_, State.attachAction_of_ready h hr, rfl⟩
  · exact ⟨_, State.attachAction_of_refuses h, rfl⟩
  · exact ⟨fun i => { i with frame := (s.port p).frame },
      (State.attachAction_of_online h).trans (State.setFrame_of_eq rfl).symm, rfl⟩

/-- An ATTACH word leaves its port as the action does, but for the frame. -/
theorem exec_attach (h : s.takesWord p .write 0x02) : ∃ t, exec (.attach p) s = .next t ∧ t.contexts = s.contexts ∧
    s.wordChanges t p .write 0x02 ((s.attachAction p).port p) := by
  obtain ⟨f, hact, hf⟩ := s.attachAction_eq_modPort p
  rw [hact, State.modPort_port_self]
  exact State.word_modPort h (act := fun s => s.attachAction p) hact hf

end Attach

/-- Settles O54: the port that the word leaves is that of the action, in each of its three cases. -/
theorem attachByStateAndPhase : Obligations.AttachByStateAndPhase := by
  intro s p h
  obtain ⟨t, e, hc, hw⟩ := exec_attach h
  refine ⟨t, e, hc, fun hp hr => ?_, fun hrefuses => ?_, fun hp => ?_⟩
  · rw [State.attachAction_of_ready hp hr, State.attached, State.modPort_port_self] at hw
    obtain ⟨hport, -⟩ := id hw
    have hdata : (t.port p).dataFlags = s.dataTest p := by rw [hport]
    have hspace : (t.port p).spaceFlags = s.spaceTest p := by rw [hport]
    rw [hdata, hspace]
    exact ⟨hw, fun n => ⟨getLsbD_dataTest s p n, getLsbD_spaceTest s p n⟩⟩
  · rwa [State.attachAction_of_refuses hrefuses, State.windowRefusal, State.modPort_port_self] at hw
  · rwa [State.attachAction_of_online hp] at hw

end Sys2Proof.Machine

namespace Sys2Proof.Machine

/-! ## Words written to PORT CONTROL (R133, R158)

Each action of PORT CONTROL acts beside the frame, so that the actions of one word are those of words of their own. -/

section PortControl
variable {p : Port} {act : State → State}

/-- An action acts beside the frame if at each state, whatever the frame, it is one that does. -/
theorem BesideFrame.of_cases
    (h : ∀ s, ∃ act', BesideFrame p act' ∧ act s = act' s ∧ ∀ f, act (s.setFrame p f) = act' (s.setFrame p f)) :
    BesideFrame p act := by
  refine ⟨fun s f => ?_, fun s => ?_⟩
  · obtain ⟨act', hact', e, ef⟩ := h s
    rw [ef, hact'.1, e]
  · obtain ⟨act', hact', e, -⟩ := h s
    rw [e, hact'.2]

theorem besideFrame_modPort {g : State → PortInterface → PortInterface}
    (hg : ∀ s f i, g (s.setFrame p f) { i with frame := f } = { g s i with frame := f }) :
    BesideFrame p fun s => s.modPort p (g s) := by
  refine ⟨fun s f => ?_, fun _ => rfl⟩
  simp only [State.setFrame, State.modPort_modPort] at hg ⊢
  exact congrArg (fun i => { s with ports := s.ports.put p i }) (hg s f (s.port p))

theorem besideFrame_attached : BesideFrame p fun s => s.attached p := besideFrame_modPort fun _ _ _ => rfl

theorem besideFrame_windowRefusal (cause : ErrorCause) (a : WindowAddr) :
    BesideFrame p fun s => s.windowRefusal p cause a := besideFrame_modPort fun _ _ _ => rfl

theorem besideFrame_beginWithdrawal (mark : Bool) : BesideFrame p fun s => s.beginWithdrawal p mark :=
  (besideFrame_modPort (g := fun _ i => { i with state := .withdrawing (.all false) mark }) fun _ _ _ => rfl).comp
    (act' := fun s => s.modLink p fun k => { k with notices := .all .inTransit }) ⟨fun _ _ => rfl, fun _ => rfl⟩

theorem besideFrame_portResetClearing : BesideFrame p fun s => s.portResetClearing p :=
  BesideFrame.comp (act := fun s => s.modPortCtxs p fun _ => Context.reset) ⟨fun _ _ => rfl, fun _ => rfl⟩
    (besideFrame_modPort (g := fun _ => PortInterface.cleared) fun _ _ _ => rfl)

theorem besideFrame_id : BesideFrame p id := ⟨fun _ _ => rfl, fun _ => rfl⟩

theorem State.setFrame_port_state (s : State) (p : Port) (f : Frame) :
    ((s.setFrame p f).port p).state = (s.port p).state := by
  rw [State.setFrame_port_self]

theorem besideFrame_attachAction : BesideFrame p fun s => s.attachAction p := by
  refine .of_cases fun s => ?_
  have hstate := s.setFrame_port_state p
  rcases s.attach_cases p with ⟨h, hr⟩ | h | h
  · exact ⟨_, besideFrame_attached, State.attachAction_of_ready h hr,
      fun f => State.attachAction_of_ready ((hstate f).trans h) hr⟩
  · exact ⟨_, besideFrame_windowRefusal _ _, State.attachAction_of_refuses h,
      fun f => State.attachAction_of_refuses (by rwa [State.refusesAttach, hstate])⟩
  · exact ⟨_, besideFrame_id, State.attachAction_of_online h,
      fun f => State.attachAction_of_online ((hstate f).trans h)⟩

theorem besideFrame_detachAction : BesideFrame p fun s => s.detachAction p := by
  refine .of_cases fun s => ?_
  have hstate := s.setFrame_port_state p
  by_cases h : (s.port p).state = .online
  · exact ⟨_, besideFrame_beginWithdrawal false, State.detachAction_of_online h,
      fun f => State.detachAction_of_online ((hstate f).trans h)⟩
  · exact ⟨_, besideFrame_id, State.detachAction_of_not_online h,
      fun f => State.detachAction_of_not_online (by rwa [hstate])⟩

theorem State.portResetAction_of_withdrawing {s : State} {acks : PerUnit Bool} {mark : Bool}
    (h : (s.port p).state = .withdrawing acks mark) :
    s.portResetAction p = s.modPort p fun i => { i with state := .withdrawing acks true } := by
  rw [State.portResetAction, h]

theorem State.portResetAction_of_offline {s : State} (h : (s.port p).state = .offline) :
    s.portResetAction p = s.portResetClearing p := by
  rw [State.portResetAction, h]

theorem besideFrame_portResetAction : BesideFrame p fun s => s.portResetAction p := by
  refine .of_cases fun s => ?_
  have hstate := s.setFrame_port_state p
  cases h : (s.port p).state with
  | online => exact ⟨_, besideFrame_beginWithdrawal true, State.portResetAction_of_online h,
      fun f => State.portResetAction_of_online ((hstate f).trans h)⟩
  | withdrawing acks mark =>
    exact ⟨_, besideFrame_modPort (g := fun _ i => { i with state := .withdrawing acks true }) fun _ _ _ => rfl,
      State.portResetAction_of_withdrawing h, fun f => State.portResetAction_of_withdrawing ((hstate f).trans h)⟩
  | offline => exact ⟨_, besideFrame_portResetClearing, State.portResetAction_of_offline h,
      fun f => State.portResetAction_of_offline ((hstate f).trans h)⟩

end PortControl

/-- Settles O53: each action acts beside the frame, so a frame of its own or one for all is the same. -/
theorem portControlWordFiresActionsInOrder : Obligations.PortControlWordFiresActionsInOrder := by
  intro s p w h
  have hr : s.resetHeld = false := h.1
  have hattach := (besideFrame_attachAction (p := p)).strobe (w.getLsbD 0)
  have hdetach := hattach.comp (besideFrame_detachAction.strobe (w.getLsbD 1))
  have hreset := hdetach.comp (besideFrame_portResetAction.strobe (w.getLsbD 2))
  have hword : exec (.registerWrite p (.address 0x02) w) s = .next
      ((s.writeWord p 0x02 w).setFrame p ((s.port p).frame.afterWord .write 0x02)) :=
    State.word_eq h (act := fun s => s.writeWord p 0x02 w) (hreset.frame s)
  have hactions : runIf (w.getLsbD 2) (.portReset p) (runIf (w.getLsbD 1) (.detach p)
      (runIf (w.getLsbD 0) (.attach p) (.next (s.setFrame p .none)))) = .next ((s.writeWord p 0x02 w).setFrame p .none) := by
    rw [runIf_setFrame besideFrame_attachAction hr (i := .attach p) (fun _ => rfl),
      runIf_setFrame besideFrame_detachAction ((hattach.2 s).trans hr) (i := .detach p) (fun _ => rfl),
      runIf_setFrame besideFrame_portResetAction ((hdetach.2 s).trans hr) (i := .portReset p) (fun _ => rfl)]
    rfl
  exact ⟨rfl, _, _, hword, hactions, (State.setFrame_setFrame ..).symm⟩

end Sys2Proof.Machine

namespace Sys2Proof.Machine

/-! ## Event enables and the interrupt line (R144, R145, R150 to R152, R162) -/

section Enables

/-- A port interface after a word at EVENT ENABLES k. -/
def PortInterface.withEnables (k : Fin 3) (w : Word) (i : PortInterface) : PortInterface :=
  { i with enables0 := if k = 0 then w.extractLsb' 0 6 else i.enables0
           enables1 := if k = 1 then w.extractLsb' 0 16 else i.enables1
           enables2 := if k = 2 then w.extractLsb' 0 16 else i.enables2 }

theorem State.writeEnables_eq (s : State) (p : Port) (k : Fin 3) (w : Word) :
    s.writeEnables p k w = s.modPort p (PortInterface.withEnables k w) := by
  match k with
  | 0 | 1 | 2 => rfl

/-- The enables `k` of a port, as a word. -/
def PortInterface.enablesWord (k : Fin 3) (i : PortInterface) : Word :=
  match k with
  | 0 => field 0 i.enables0
  | 1 => field 0 i.enables1
  | 2 => field 0 i.enables2

theorem State.windowRead_eventEnables (s : State) (p : Port) (k : Fin 3) :
    s.windowRead p (BitVec.ofNat 7 (7 + k.val)) = (s.port p).enablesWord k := by
  match k with
  | 0 | 1 | 2 => rfl

theorem PortInterface.enablesWord_withEnables (k : Fin 3) (w : Word) (i : PortInterface) :
    (i.withEnables k w).enablesWord k = w &&& if k = 0 then 0x3F#32 else 0xFFFF#32 := by
  match k with
  | 0 => exact field_extractLsb' w 0 6
  | 1 | 2 => exact field_extractLsb' w 0 16

/-- A port interface after a word at INT CONFIG. -/
def PortInterface.withIntConfig (w : Word) (i : PortInterface) : PortInterface :=
  { i with masterEnable := w.getLsbD 0, polarity := if w.getLsbD 1 then .activeHigh else .activeLow }

theorem State.windowRead_intConfig (s : State) (p : Port) :
    s.windowRead p 0x0A = flag 0 (s.port p).masterEnable ||| flag 1 ((s.port p).polarity == .activeHigh) := rfl

theorem polarityOfBit_beq (b : Bool) : ((if b then .activeHigh else .activeLow : Polarity) == .activeHigh) = b := by
  cases b <;> rfl

/-- The two settings of INT CONFIG, placed where a word had them, are the word under their mask. -/
theorem intConfigWord_eq (w : Word) : flag 0 (w.getLsbD 0) ||| flag 1 (w.getLsbD 1) = w &&& 3#32 := by
  have hmask : flag 0 true ||| flag 1 true = 3#32 := by decide
  rw [flag_getLsbD, flag_getLsbD, ← BitVec.and_or_distrib_left, hmask]

end Enables

section InterruptLine

/-- Two words have a bit in common. -/
theorem and_ne_zero_iff_getLsbD {n : Nat} (x y : BitVec n) :
    x &&& y ≠ 0 ↔ ∃ i : Fin n, x.getLsbD i.val = true ∧ y.getLsbD i.val = true := by
  simp only [ne_eq, BitVec.eq_of_getLsbD_eq_iff, BitVec.getLsbD_and, BitVec.ofNat_eq_ofNat, BitVec.getLsbD_zero,
    not_forall, Bool.not_eq_false, Bool.and_eq_true, Fin.exists_iff]

/-- The bits of EVENT FLAGS 0. -/
theorem State.getLsbD_flags0 (s : State) (p : Port) :
    (∀ c : Fin 4, (s.flags0 p).getLsbD c.val = s.doneFlag p c) ∧ (s.flags0 p).getLsbD 4 = (s.port p).leaseLost ∧
      (s.flags0 p).getLsbD 5 = (s.port p).windowError := by
  obtain ⟨hdone, hlost, herror, -⟩ := s.flags0_shows p
  simp only [getLsbD_field, Nat.zero_le, decide_true, Bool.and_true, Nat.sub_zero] at hdone hlost herror
  refine ⟨fun c => ?_, by simpa using hlost, by simpa using herror⟩
  have hc : c.val < 32 := by omega
  simpa [State.doneFlag, hc] using hdone c

/-- One of the six flags of EVENT FLAGS 0 is set with its enable on. -/
theorem State.flags0_and_ne_zero_iff (s : State) (p : Port) (e : BitVec 6) :
    s.flags0 p &&& e ≠ 0 ↔ (∃ c : Fin 4, (s.ctx (ctxOf p c)).state = .done ∧ e.getLsbD c.val = true) ∨
      ((s.port p).leaseLost = true ∧ e.getLsbD 4 = true) ∨ ((s.port p).windowError = true ∧ e.getLsbD 5 = true) := by
  obtain ⟨hdone, hlost, herror⟩ := s.getLsbD_flags0 p
  rw [and_ne_zero_iff_getLsbD, Fin.exists_fin_succ', Fin.exists_fin_succ', or_assoc]
  simp only [Fin.val_castSucc, Fin.val_last, hdone, hlost, herror, State.doneFlag, decide_eq_true_eq]

theorem State.enabledFlagSet_iff (s : State) (p : Port) : s.enabledFlagSet p = true ↔
    s.flags0 p &&& (s.port p).enables0 ≠ 0 ∨ (s.port p).dataFlags &&& (s.port p).enables1 ≠ 0 ∨
      (s.port p).spaceFlags &&& (s.port p).enables2 ≠ 0 := by
  simp only [State.enabledFlagSet, Bool.or_eq_true, decide_eq_true_eq, or_assoc]

theorem PortState.inService_iff (x : PortState) : x.inService = true ↔ x ≠ .offline := by
  cases x <;> simp [PortState.inService]

theorem State.intLevel_eq (s : State) (p : Port) :
    s.intLevel p = if (s.port p).polarity = .activeLow then !s.intAsserted p else s.intAsserted p := by
  unfold State.intLevel
  cases (s.port p).polarity <;> rfl

end InterruptLine

/-- Settles O58: a word replaces its settings, which read back; the line is read off the flags bit by bit. -/
theorem enablesAndTheInterruptLine : Obligations.EnablesAndTheInterruptLine := by
  refine ⟨fun s p w => ⟨fun k h => ?_, fun h => ?_⟩, fun s p => ⟨?_, s.intLevel_eq p⟩⟩
  · obtain ⟨t, e, hc, hw⟩ := State.word_modPort h (act := fun s => s.writeEnables p k w) (s.writeEnables_eq p k w) rfl
    refine ⟨t, e, hc, hw, ?_⟩
    rw [State.windowRead_eventEnables, hw.1, ← (s.port p).enablesWord_withEnables k w]
    rfl
  · obtain ⟨t, e, hc, hw⟩ := State.word_modPort h (act := fun s => s.writeIntConfig p w)
      (f := PortInterface.withIntConfig w) rfl rfl
    refine ⟨t, e, hc, hw, ?_⟩
    rw [State.windowRead_intConfig, hw.1, ← intConfigWord_eq, PortInterface.withIntConfig, polarityOfBit_beq]
  · rw [State.intAsserted, Bool.and_eq_true, Bool.and_eq_true, PortState.inService_iff, State.enabledFlagSet_iff,
      State.flags0_and_ne_zero_iff, and_ne_zero_iff_getLsbD, and_ne_zero_iff_getLsbD, ← exists_or, and_assoc, or_assoc,
      or_assoc]

end Sys2Proof.Machine

namespace Sys2Proof.Machine

/-! ## Frames (R148, R155, R156, R158, R159, R168) -/

section Words
variable {s : State} {i : Instr} {p : Port} {dir : Direction} {a : WindowAddr}

/-- The address after each word. -/
theorem addrAfter_nextAddr : ∀ a : WindowAddr, AddrAfter a (nextAddr a) := by
  unfold AddrAfter isLogAddr isDataAddr
  decide

/-- Every command that is a word of a frame goes through the guard of the written words or that of the read words. -/
theorem exec_of_wordOf (h : wordOf i = some (p, dir, a)) :
    (∃ act, ∀ s, exec i s = s.word p dir a act) ∨ (dir = .read ∧ ∃ part, ∀ s, exec i s = s.readWord p a part) := by
  cases i with
  | go cx | ack cx | abort cx =>
    obtain ⟨rfl, rfl, rfl⟩ : portOf cx = p ∧ .write = dir ∧ _ = a := by simpa [wordOf] using h
    rw [← ctxAddr_control]
    exact .inl ⟨_, fun _ => rfl⟩
  | dataWrite cx w =>
    obtain ⟨rfl, rfl, rfl⟩ : portOf cx = p ∧ .write = dir ∧ _ = a := by simpa [wordOf] using h
    rw [← ctxAddr_data]
    exact .inl ⟨_, fun _ => rfl⟩
  | attach | detach | portReset | overflowClear | leaseLostClear | windowErrorClear | dataFlagClear | spaceFlagClear
  | eventEnablesWrite | intConfigWrite =>
    obtain ⟨rfl, rfl, rfl⟩ := by simpa [wordOf] using h
    exact .inl ⟨_, fun _ => rfl⟩
  | registerWrite q place w =>
    cases place with
    | current => simp [wordOf] at h
    | address b =>
      obtain ⟨rfl, rfl, rfl⟩ := by simpa [wordOf] using h
      exact .inl ⟨_, fun _ => rfl⟩
  | dataRead place part =>
    cases place with
    | data cx =>
      obtain ⟨rfl, rfl, rfl⟩ : portOf cx = p ∧ .read = dir ∧ _ = a := by simpa [wordOf] using h
      rw [← ctxAddr_data]
      exact .inr ⟨rfl, part, fun _ => rfl⟩
    | register q b =>
      obtain ⟨rfl, rfl, rfl⟩ := by simpa [wordOf] using h
      exact .inr ⟨rfl, part, fun _ => rfl⟩
  | logRead q part =>
    obtain ⟨rfl, rfl, rfl⟩ := by simpa [wordOf] using h
    exact .inr ⟨rfl, part, fun _ => rfl⟩
  | _ => simp [wordOf] at h

/-- A read word, or a part of one, that is none of the frame's in progress changes nothing. -/
theorem State.readWord_of_ne (part : ReadPart) (h : (s.port p).frame ≠ .none) (h' : (s.port p).frame ≠ .inFrame .read a) :
    s.readWord p a part = .next s := by
  rcases s.readWord_cases p a part with e | ⟨⟨-, hf, -⟩, -⟩ | ⟨_, ⟨-, hf, -⟩, -⟩ | ⟨-, e⟩
  · exact e
  · exact absurd hf h'
  · exact absurd hf h'
  · exact e.trans (State.word_of_ne _ h h')

/-- A command that is no word of the frame in progress changes nothing. -/
theorem exec_of_ne (hi : wordOf i = some (p, dir, a)) (h : (s.port p).frame ≠ .none)
    (h' : (s.port p).frame ≠ .inFrame dir a) : exec i s = .next s := by
  rcases exec_of_wordOf hi with ⟨act, e⟩ | ⟨rfl, part, e⟩
  · rw [e, State.word_of_ne act h h']
  · rw [e, State.readWord_of_ne part h h']

end Words

section Output
variable {s : State} {p : Port}

/-- With no frame in progress the data output is not driven. -/
theorem State.dataOutput_of_noFrame (h : (s.port p).frame = .none) : s.dataOutput p = .highImpedance := by
  unfold State.dataOutput
  rw [h]
  exact ite_self _

/-- In the header byte period it is 0. -/
theorem State.dataOutput_of_header (hr : s.resetHeld = false) (h : (s.port p).frame = .header) :
    s.dataOutput p = .level false := by
  unfold State.dataOutput
  rw [hr, h]
  rfl

/-- In a write frame it is 0. -/
theorem State.dataOutput_of_writeFrame {a : WindowAddr} (hr : s.resetHeld = false)
    (h : (s.port p).frame = .inFrame .write a) : s.dataOutput p = .level false := by
  unfold State.dataOutput
  rw [hr, h]
  rfl

/-- In a read frame it is 0 up to the first word. -/
theorem State.dataOutput_of_beginsWord {a : WindowAddr} (h : s.beginsWord p a) (hsent : (s.port p).sent = none) :
    s.dataOutput p = .level false := by
  obtain ⟨hr, hf, hl⟩ := h
  rw [(State.dataOutput_of_readFrame s hr hf).2 hl, PortInterface.heldLevel_none hsent]

/-- In a frame of either direction with nothing sent it is 0. -/
theorem State.dataOutput_of_openFrame {dir : Direction} {a : WindowAddr} (hr : s.resetHeld = false)
    (hf : (s.port p).frame = .inFrame dir a) (hl : (s.port p).latch = none) (hsent : (s.port p).sent = none) :
    s.dataOutput p = .level false := by
  cases dir with
  | write => exact State.dataOutput_of_writeFrame hr hf
  | read => exact State.dataOutput_of_beginsWord ⟨hr, hf, hl⟩ hsent

end Output

section Ends
variable {s : State} {p : Port}

/-- What a change of one port's interface changes. -/
theorem State.modPort_changes (s : State) (p : Port) (f : PortInterface → PortInterface) :
    (s.modPort p f).contexts = s.contexts ∧ s.keepsBut (s.modPort p f) [.ports] ∧ s.keepsPortsBut (s.modPort p f) p ∧
      (s.modPort p f).port p = f (s.port p) :=
  ⟨rfl, State.keepsBut_modPort p f, State.keepsPortsBut_modPort p f, State.modPort_port_self ..⟩

/-- A port interface whose frame is just opened: nothing latched, nothing sent. -/
def PortInterface.opens (f : Frame) (i : PortInterface) : PortInterface := { i with frame := f, latch := none, sent := none }

theorem exec_headerByte_chipSelect (hr : s.resetHeld = false) :
    exec (.headerByte p .chipSelect) s = .next (s.modPort p (PortInterface.opens .header)) := by
  simp only [exec, execHeaderByte, hr, Bool.false_eq_true, if_false]
  rfl

theorem exec_headerByte_byte (hr : s.resetHeld = false) (byte : BitVec 8) :
    exec (.headerByte p (.byte byte)) s = .next (s.modPort p (PortInterface.opens (frameOfHeader byte))) := by
  simp only [exec, execHeaderByte, hr, Bool.false_eq_true, if_false]
  rfl

/-- A port interface whose frame has ended. -/
def PortInterface.closed (i : PortInterface) : PortInterface := { i with frame := .none, latch := none }

/-- A port interface whose write frame has ended inside the word at `a`. -/
def PortInterface.cutShort (a : WindowAddr) (i : PortInterface) : PortInterface :=
  { i.closed with windowError := true, errorCause := .frameShort, errorAddr := a }

/-- A write frame that ends inside a word. -/
theorem exec_frameShort_of_writeFrame {a : WindowAddr} {bits : Fin 32} (hr : s.resetHeld = false)
    (hf : (s.port p).frame = .inFrame .write a) (hb : bits ≠ 0) :
    exec (.frameShort p bits) s = .next (s.modPort p (PortInterface.cutShort a)) := by
  have hraise : (s.modPort p PortInterface.closed).windowRefusal p .frameShort a =
      s.modPort p (PortInterface.cutShort a) := State.modPort_modPort ..
  rw [← hraise]
  simp only [exec, execFrameShort, hr, hf, hb, Bool.false_eq_true, if_false]
  rfl

/-- Any other end of a frame. -/
theorem exec_frameShort_of_not_writeFrame (hr : s.resetHeld = false)
    (hf : ∀ a, (s.port p).frame ≠ .inFrame .write a) (bits : Fin 32) :
    exec (.frameShort p bits) s = .next (s.modPort p PortInterface.closed) := by
  simp only [exec, execFrameShort, hr, Bool.false_eq_true, if_false]
  rfl

end Ends

/-- Settles O60: words by the guard they go through, the output by the frame, and the ends of a frame by its
direction. -/
theorem framesOpenAndEnd : Obligations.FramesOpenAndEnd := by
  refine ⟨addrAfter_nextAddr, fun s i p dir a hi hne hf => exec_of_ne hi hf fun h => hne dir a h ⟨rfl, rfl⟩,
    fun s p => ⟨fun h => ?_, fun hr h => ?_, fun a l h => ?_, fun a h => ⟨?_, fun w hw => ?_⟩⟩,
    fun s p hr => ⟨?_, fun byte => ?_, fun bits hb => ?_⟩⟩
  · exact h.elim (State.dataOutput_of_resetHeld · p) State.dataOutput_of_noFrame
  · rcases h with h | ⟨a, h⟩
    · exact State.dataOutput_of_header hr h
    · exact State.dataOutput_of_writeFrame hr h
  · obtain ⟨hr, hf, hl⟩ := h
    exact (State.dataOutput_of_readFrame s hr hf).1 l hl
  · exact State.dataOutput_of_beginsWord h
  · obtain ⟨hr, hf, hl⟩ := h
    rw [(State.dataOutput_of_readFrame s hr hf).2 hl, PortInterface.heldLevel_some hw]
  · obtain ⟨hc, hk, ho, hp⟩ := s.modPort_changes p (PortInterface.opens .header)
    exact ⟨_, exec_headerByte_chipSelect hr, hc, hk, ho, hp, State.dataOutput_of_header hr (by rw [hp]; rfl)⟩
  · obtain ⟨hc, hk, ho, hp⟩ := s.modPort_changes p (PortInterface.opens (frameOfHeader byte))
    exact ⟨_, exec_headerByte_byte hr byte, hc, hk, ho, hp,
      State.dataOutput_of_openFrame hr (by rw [hp]; rfl) (by rw [hp]; rfl) (by rw [hp]; rfl)⟩
  · by_cases hf : ∃ a, (s.port p).frame = .inFrame .write a
    · obtain ⟨a, hf⟩ := hf
      obtain ⟨hc, hk, ho, hp⟩ := s.modPort_changes p (PortInterface.cutShort a)
      refine ⟨_, exec_frameShort_of_writeFrame hr hf hb, hc, hk, ho, fun b hb' => ?_, fun h => absurd hf (h a)⟩
      obtain rfl : a = b := by simpa using hf.symm.trans hb'
      exact hp
    · have hf' := not_exists.1 hf
      obtain ⟨hc, hk, ho, hp⟩ := s.modPort_changes p PortInterface.closed
      exact ⟨_, exec_frameShort_of_not_writeFrame hr hf' bits, hc, hk, ho, fun a h => absurd h (hf' a), fun _ => hp⟩

end Sys2Proof.Machine
